-- ==== Sys2Proof/Word.lean ====
section
/-! DEFINITION. Word.lean: the byte of the coordination bus (R187). Every other quantity of the part is a
count, a time or a length, and is a natural number. -/

namespace Sys2Proof

/-- One byte as the Port receives and sends it (R187). -/
abbrev Byte := BitVec 8

end Sys2Proof
end

