-- ==== Sys2Proof/Config.lean ====
section
/-! DEFINITION. Config.lean: what the manual leaves open. Each constant has no body, so that no proof can lean
on a value of it. -/

namespace Sys2Proof

/-- Which of several deadlines that fall at one line time is taken first when a forward SET LINE TIME reaches
them together (R192, R71, R145: "either may be taken first"). Read modulo the number of them; the argument is
State.freeCount, a fresh one at each reading. DESIGN CHOICE, notes/assumptions/3.md. -/
opaque Config.tieBreak : Nat → Nat

/-- Whether a complete frame that has both a bad CRC and a master number of 6 or 7 is recorded as dropped for its
CRC; R175 does not say which cause stands. DESIGN CHOICE, notes/assumptions/4.md. -/
opaque Config.crcCauseFirst : Bool

/-- Whether READ PROFILE of a station or a reach within its range, while the line is undefined, is refused RANGE (an
index outside the defined station count) or NO_SUCH (an undefined item); R16 names both. DESIGN CHOICE,
notes/assumptions/35.md. -/
opaque Config.undefinedLineIsRange : Bool

/-- Whether READ FLOW names LAPSED or VALVE_CLOSED as the cause of a zero flow where both hold; R43 and R44 give
neither the priority. DESIGN CHOICE, notes/assumptions/36.md. -/
opaque Config.lapsedCauseFirst : Bool

/-- Which of the signallers that one fix sets OUT posts SIGNALLER_FAULT last, and so is the subject left in the detail
entry; R100 states no order. Applied to those signallers, and read modulo their number. DESIGN CHOICE,
notes/assumptions/38.md. -/
opaque Config.faultedLast : List Nat → Nat

/-- Which of the stations whose hold set a CLEAR HOLDS of all stations empties posts HOLD_CHANGE last, and so is the
subject left in the detail entry; R123 states no order. Applied to those stations, and read modulo their number.
DESIGN CHOICE, notes/assumptions/22.md. -/
opaque Config.clearedLast : List Nat → Nat

end Sys2Proof
end

