-- ==== Sys2Proof/Syntax.lean ====
section
/-! DEFINITION. Syntax.lean: the commands and events of the part, one constructor of `Instr` for each row of
spec/opcode_table.json, with the fields each request frame carries (R187, R189) and the figures each event
brings with it. -/

namespace Sys2Proof

/-- A master number, 0 to 5. Frames of numbers 6 and 7 are dropped (R175) and carry no command. -/
abbrev Master := Fin 6

/-- A set of attention kinds: the two-byte mask of R187, bit 0 for RESTARTED up to bit 15 for INTAKE_FULL. -/
abbrev AttnSet := BitVec 16

/-- The parameters of a request as the frame carries them. `none`: the parameter bytes do not fit the layout of
R189, or name a value outside an enumerated list; the command's own range check refuses such a request RANGE. -/
abbrev Carried (α : Type) := Option α

/-- Kinds of pig (R20), in the order of R188. -/
inductive PigKind | scraper | brush | foam | sphere | gauge | bypass
deriving DecidableEq, Repr

/-- Modes of a register cursor (R30). -/
inductive CursorMode | towardReceive | towardLaunch | hold
deriving DecidableEq, Repr

/-- Source of a signaller (R9). Source NONE, which removes a definition, is `SignallerArgs.place = none`. -/
inductive SigSource | remote | localInput
deriving DecidableEq, Repr

/-- Firmness of a signaller (R9, R96). -/
inductive Firmness | firm | soft
deriving DecidableEq, Repr

/-- Classes of master (R13, R179). -/
inductive MasterClass | dispatch | link | trap | service | none
deriving DecidableEq, Repr

/-- The two traps (R152). -/
inductive TrapId | launch | receive
deriving DecidableEq, Repr

/-- Trap steps, in the order of R155. -/
inductive TrapStep | openDoor | closeDoor | fill | lineUp | drive | isolate | vent
deriving DecidableEq, Repr

/-- Trap states, in the order of R152. -/
inductive TrapState | vented | doorOpen | pressurised | linedUp | driving | unknown
deriving DecidableEq, Repr

/-- Trap parameters, in the order of the table of R12, each step time its own parameter. -/
inductive TrapParam
  | openDoorTime | closeDoorTime | fillTime | lineUpTime | isolateTime | ventTime | driveTime
  | ventLimit | equaliseBand | launchSpacing | launchOverdueTime | guardDistance | barrelCapacity
deriving DecidableEq, Repr

/-- Positions of a line valve (R117). -/
inductive ValvePos | opened | closed | moving | unknown
deriving DecidableEq, Repr

/-- Directions of a stroke, OPEN and CLOSE (R125). -/
inductive Direction | toOpen | toClose
deriving DecidableEq, Repr

/-- Modes of a local channel (R88). -/
inductive ChanMode | off | contact | pulse | pair
deriving DecidableEq, Repr

/-- Sources of a watch (R137). -/
inductive WatchSource | distance | eta
deriving DecidableEq, Repr

/-- The set of actions of a watch, HOLD, NOTIFY and ARM_CHECK (R137). -/
structure Actions where
  hold : Bool
  notify : Bool
  armCheck : Bool
deriving DecidableEq, Repr

/-- Service state of a signaller (R92). -/
inductive Service | inService | out
deriving DecidableEq, Repr

/-- The sixteen attention kinds, in the order of R180. -/
inductive AttnKind
  | restarted | passage | overdue | stalled | orphan | signallerFault | reportGap | holdChange
  | permitExpired | forcedStroke | trapEvent | approach | flowStale | launchOverdue | barrelOverfill | intakeFull
deriving DecidableEq, Repr

/-- Causes of a dropped frame, in the order of R175. -/
inductive DropCause | crc | masterNumber | malformed
deriving DecidableEq, Repr

/-! ## Parameters of the requests, in the order their rules name them -/

/-- DEFINE LINE (R5). -/
structure LineArgs where
  count : Nat
  lineEnd : Nat
deriving DecidableEq, Repr

/-- DEFINE STATION (R6). -/
structure StationArgs where
  index : Nat
  chainage : Nat
  halfWidth : Option Nat
  strokeTime : Option Nat
deriving DecidableEq, Repr

/-- DEFINE REACH (R8). -/
structure ReachArgs where
  index : Nat
  area : Nat
  stallTime : Option Nat
  flowTimeout : Option Nat
deriving DecidableEq, Repr

/-- What DEFINE SIGNALLER carries with source REMOTE or LOCAL (R9). -/
structure SignallerPlace where
  source : SigSource
  chainage : Nat
  firmness : Option Firmness
  window : Option Nat
deriving DecidableEq, Repr

/-- DEFINE SIGNALLER (R9); `place = none` is source NONE, which removes the definition. -/
structure SignallerArgs where
  index : Nat
  place : Option SignallerPlace
deriving DecidableEq, Repr

/-- DEFINE TRACKING (R11). -/
structure TrackingArgs where
  period : Nat
  holdBack : Option Nat
  weight : Option Nat
deriving DecidableEq, Repr

/-- DEFINE TRAP (R12): a trap and one to six pairs. -/
structure TrapArgs where
  trap : TrapId
  settings : List (TrapParam × Nat)
deriving DecidableEq, Repr

/-- DEFINE MASTER (R13). -/
structure MasterArgs where
  master : Nat
  cls : MasterClass
deriving DecidableEq, Repr

/-- Selector of READ PROFILE (R16). -/
inductive ProfileSel
  | line | station (i : Nat) | reach (i : Nat) | signaller (n : Nat) | tracking | trap (t : TrapId)
  | master (i : Nat) | watch (i : Nat) | channel (c : Nat) | summary
deriving DecidableEq, Repr

/-- CURSOR SET (R31). -/
structure CursorArgs where
  mode : CursorMode
  tag : Option Nat
deriving DecidableEq, Repr

/-- SET RATIO (R34). -/
structure RatioArgs where
  tag : Nat
  ratio : Nat
deriving DecidableEq, Repr

/-- A tag and a chainage: CONFIRM (R36) and QUERY ETA (R58). -/
structure TagChainage where
  tag : Nat
  chainage : Nat
deriving DecidableEq, Repr

/-- REPORT FLOW (R41). -/
structure FlowArgs where
  reach : Nat
  flow : Nat
  reverse : Bool
deriving DecidableEq, Repr

/-- REPORT PASSAGE (R64). -/
structure PassageArgs where
  signaller : Nat
  sequence : Nat
  time : Nat
  speed : Option Nat
deriving DecidableEq, Repr

/-- Selector of READ INTAKE (R75). -/
inductive IntakeSel | summary | entry (k : Nat) | signaller (n : Nat)
deriving DecidableEq, Repr

/-- SET CHANNEL MODE (R88). -/
structure ChannelArgs where
  channel : Nat
  mode : ChanMode
  signaller : Option Nat
  minWidth : Option Nat
  maxWidth : Option Nat
  spacing : Option Nat
  interval : Option Nat
deriving DecidableEq, Repr

/-- SET SIGNALLER SERVICE (R102). -/
structure ServiceArgs where
  signaller : Nat
  service : Service
deriving DecidableEq, Repr

/-- ASSIGN PASSAGE (R111). -/
structure AssignArgs where
  signaller : Nat
  sequence : Nat
  tag : Nat
deriving DecidableEq, Repr

/-- DISCARD PASSAGE (R113). -/
structure DiscardArgs where
  signaller : Nat
  sequence : Nat
deriving DecidableEq, Repr

/-- Selector of READ MATCHING (R114). -/
inductive MatchingSel | summary | unmatched (k : Nat) | signaller (n : Nat)
deriving DecidableEq, Repr

/-- A station and a valve position: REPORT VALVE (R119) and STROKE DONE (R129). -/
structure ValveArgs where
  station : Nat
  position : ValvePos
deriving DecidableEq, Repr

/-- A station and a direction: REQUEST STROKE (R125) and NOTIFY FORCED STROKE (R132). -/
structure StrokeArgs where
  station : Nat
  direction : Direction
deriving DecidableEq, Repr

/-- SET WATCH (R137): a station and any of the nine fields. -/
structure WatchArgs where
  station : Nat
  enabled : Option Bool
  source : Option WatchSource
  threshold : Option Nat
  hysteresis : Option Nat
  makeDelay : Option Nat
  breakDelay : Option Nat
  latch : Option Bool
  startInhibit : Option Bool
  actions : Option Actions
deriving DecidableEq, Repr

/-- REPORT PRESSURE (R154). -/
structure PressureArgs where
  trap : TrapId
  barrel : Option Nat
  line : Option Nat
deriving DecidableEq, Repr

/-- TRAP STEP (R155) and TRAP DONE (R160). -/
structure StepArgs where
  trap : TrapId
  step : TrapStep
deriving DecidableEq, Repr

/-- STAGE PIG (R164). -/
structure StageArgs where
  kind : PigKind
  ratio : Option Nat
deriving DecidableEq, Repr

/-- REMOVE PIG (R165). -/
structure RemoveArgs where
  trap : TrapId
  tag : Nat
deriving DecidableEq, Repr

/-- RECOVER TRAP (R166). -/
structure RecoverArgs where
  trap : TrapId
  state : TrapState
deriving DecidableEq, Repr

/-- The commands of the table of R189, by name. -/
inductive Command
  | defineLine | defineStation | defineReach | defineSignaller | defineTracking | defineTrap | defineMaster
  | readProfile | decodeChainage | readPig | cursorSet | cursorRead | setRatio | writeOff | confirm | reportFlow
  | readFlow | queryEta | reportPassage | readIntake | resetFlag | setChannelMode | readChannel
  | setSignallerService | assignPassage | discardPassage | readMatching | reportValve | setHold | releaseHold
  | clearHolds | requestStroke | strokeDone | notifyForcedStroke | readValve | setWatch | acknowledgeWatch
  | readWatch | reportPressure | trapStep | trapDone | stagePig | removePig | recoverTrap | readTrap
  | readAttention | acknowledgeAttention | setEnables | setLineTime | restart
deriving DecidableEq, Repr

/-- The commands and events. A request carries the number of the master that sent it and its parameters. An event
on a local channel carries the channel and the reading of the unit's millisecond timer when it comes about
(R78). -/
inductive Instr
  | defineLine (m : Master) (a : Carried LineArgs)
  | defineStation (m : Master) (a : Carried StationArgs)
  | defineReach (m : Master) (a : Carried ReachArgs)
  | defineSignaller (m : Master) (a : Carried SignallerArgs)
  | defineTracking (m : Master) (a : Carried TrackingArgs)
  | defineTrap (m : Master) (a : Carried TrapArgs)
  | defineMaster (m : Master) (a : Carried MasterArgs)
  | readProfile (m : Master) (a : Carried ProfileSel)
  | decodeChainage (m : Master) (a : Carried Nat)
  | readPig (m : Master) (a : Carried Nat)
  | cursorSet (m : Master) (a : Carried CursorArgs)
  | cursorRead (m : Master) (a : Carried Unit)
  | setRatio (m : Master) (a : Carried RatioArgs)
  | writeOff (m : Master) (a : Carried Nat)
  | confirm (m : Master) (a : Carried TagChainage)
  | reportFlow (m : Master) (a : Carried FlowArgs)
  | readFlow (m : Master) (a : Carried (Option Nat))
  | queryEta (m : Master) (a : Carried TagChainage)
  | reportPassage (m : Master) (a : Carried PassageArgs)
  | readIntake (m : Master) (a : Carried IntakeSel)
  | resetFlag (m : Master) (a : Carried Nat)
  | setChannelMode (m : Master) (a : Carried ChannelArgs)
  | readChannel (m : Master) (a : Carried Nat)
  | setSignallerService (m : Master) (a : Carried ServiceArgs)
  | assignPassage (m : Master) (a : Carried AssignArgs)
  | discardPassage (m : Master) (a : Carried DiscardArgs)
  | readMatching (m : Master) (a : Carried MatchingSel)
  | reportValve (m : Master) (a : Carried ValveArgs)
  | setHold (m : Master) (a : Carried Nat)
  | releaseHold (m : Master) (a : Carried Nat)
  /-- `some none` is ALL. -/
  | clearHolds (m : Master) (a : Carried (Option Nat))
  | requestStroke (m : Master) (a : Carried StrokeArgs)
  | strokeDone (m : Master) (a : Carried ValveArgs)
  | notifyForcedStroke (m : Master) (a : Carried StrokeArgs)
  | readValve (m : Master) (a : Carried (Option Nat))
  | setWatch (m : Master) (a : Carried WatchArgs)
  | acknowledgeWatch (m : Master) (a : Carried Nat)
  | readWatch (m : Master) (a : Carried Nat)
  | reportPressure (m : Master) (a : Carried PressureArgs)
  | trapStep (m : Master) (a : Carried StepArgs)
  | trapDone (m : Master) (a : Carried StepArgs)
  | stagePig (m : Master) (a : Carried StageArgs)
  | removePig (m : Master) (a : Carried RemoveArgs)
  | recoverTrap (m : Master) (a : Carried RecoverArgs)
  | readTrap (m : Master) (a : Carried TrapId)
  | readAttention (m : Master) (a : Carried (Option AttnKind))
  | acknowledgeAttention (m : Master) (a : Carried AttnSet)
  | setEnables (m : Master) (a : Carried AttnSet)
  | setLineTime (m : Master) (a : Carried (Option Nat))
  | restart (m : Master) (a : Carried Unit)
  /-- A checked frame whose command code is not in the table of R189. -/
  | unknownCommandCode (m : Master) (code : Nat)
  /-- A complete or abandoned frame, every byte of it after the start byte. -/
  | frameDropped (frame : List Byte)
  | byteGapTimeout
  | storeWriteComplete
  | trackerUpdate
  | entryDue
  | permitExpiry (station : Fin 16)
  | trapStepDeadline (t : TrapId)
  | watchDelayExpiry (station : Fin 16)
  | launchOverdue
  | contactLeadingEdge (c : Fin 8) (ms : Nat)
  | contactBounce (c : Fin 8) (ms : Nat)
  | contactClosure (c : Fin 8) (ms : Nat)
  | pulseLeadingEdge (c : Fin 8) (ms : Nat)
  | pulseTrailingEdge (c : Fin 8) (ms : Nat)
  | pulseFault (c : Fin 8) (ms : Nat)
  | pulseFaultEnd (c : Fin 8) (ms : Nat)
  | pairAEdge (c : Fin 8) (ms : Nat)
  /-- `c` is the PAIR channel; its B input is input c + 1. -/
  | pairBEdge (c : Fin 8) (ms : Nat)
  | pairIncomplete (c : Fin 8) (ms : Nat)
  | guardExpiry (c : Fin 8) (ms : Nat)
  /-- Each argument says whether a memory still held its contents when power returned: the first profile image,
  the second, and the battery-backed retention memory. -/
  | powerOn (firstImage secondImage retention : Bool)
  | powerLoss
  | lineTimeAdvance
deriving DecidableEq, Repr

end Sys2Proof
end

