-- ==== Sys2Proof/Decode.lean ====
section
/-! DEFINITION. Decode.lean: from bytes to commands. The opcode table gives no row any bits, so
`decodeTableWord` spells no command. The request frames of R187 and the parameter layouts of R189 are read
here in full: the CRC, the frame's header, the command codes, and every field of every command. -/

namespace Sys2Proof

/-- The command that a word spells by the bits of spec/opcode_table.json: none, since no row has bits. -/
def decodeTableWord (_nbits _w : Nat) : Option Instr := none

/-! ## CRC-16 (R187) -/

/-- One step of the generator x^16 + x^12 + x^5 + 1, most significant bit first. -/
def crcStep (c : BitVec 16) : BitVec 16 :=
  if c.msb then (c <<< 1) ^^^ 0x1021#16 else c <<< 1

/-- One byte enters the computation most significant bit first. -/
def crcByte (c : BitVec 16) (b : Byte) : BitVec 16 :=
  crcStep (crcStep (crcStep (crcStep (crcStep (crcStep (crcStep (crcStep (c ^^^ (b.zeroExtend 16 <<< 8)))))))))

/-- The CRC-16 of R187: from all ones, neither reflected nor inverted. -/
def crc16 (bytes : List Byte) : BitVec 16 := bytes.foldl crcByte 0xFFFF#16

/-! ## Fields of R189 -/

/-- A reader of one field: the value and the bytes left, or `none` where the bytes do not fit. -/
abbrev Field (α : Type) := List Byte → Option (α × List Byte)

/-- A number of one byte. -/
def byteField : Field Nat
  | b :: rest => some (b.toNat, rest)
  | _ => none

/-- A number of two bytes, most significant byte first. -/
def shortField : Field Nat
  | a :: b :: rest => some (a.toNat * 256 + b.toNat, rest)
  | _ => none

/-- A number of four bytes, most significant byte first. -/
def longField : Field Nat
  | a :: b :: c :: d :: rest => some (((a.toNat * 256 + b.toNat) * 256 + c.toNat) * 256 + d.toNat, rest)
  | _ => none

/-- A yes or no: 1 for yes, 0 for no. -/
def yesNoField : Field Bool
  | b :: rest => if b = 1#8 then some (true, rest) else if b = 0#8 then some (false, rest) else none
  | _ => none

/-- An enumerated value: its place, counting from 1, in the list. -/
def enumField {α : Type} (values : List α) : Field α
  | b :: rest => if b = 0#8 then none else (values[b.toNat - 1]?).map (·, rest)
  | _ => none

/-- A field that may be omitted: 1 and the field, or 0 and nothing. -/
def optField {α : Type} (f : Field α) : Field (Option α)
  | b :: rest =>
    if b = 1#8 then (f rest).map (fun r => (some r.1, r.2)) else if b = 0#8 then some (none, rest) else none
  | _ => none

/-- A set of attention kinds (R187). -/
def attnSetField : Field AttnSet := fun bs => (shortField bs).map (fun r => (BitVec.ofNat 16 r.1, r.2))

/-- A set of actions: HOLD in bit 0, NOTIFY in bit 1, ARM_CHECK in bit 2; another bit names no action. -/
def actionsField : Field Actions
  | b :: rest => if b.toNat < 8 then some (⟨b.getLsbD 0, b.getLsbD 1, b.getLsbD 2⟩, rest) else none
  | _ => none

def trapField : Field TrapId := enumField [.launch, .receive]
def classField : Field MasterClass := enumField [.dispatch, .link, .trap, .service, .none]
def firmnessField : Field Firmness := enumField [.firm, .soft]
def kindField : Field PigKind := enumField [.scraper, .brush, .foam, .sphere, .gauge, .bypass]
def cursorModeField : Field CursorMode := enumField [.towardReceive, .towardLaunch, .hold]
def chanModeField : Field ChanMode := enumField [.off, .contact, .pulse, .pair]
def watchSourceField : Field WatchSource := enumField [.distance, .eta]
def serviceField : Field Service := enumField [.inService, .out]
/-- STROKE DONE uses the places of the record's list too, or its MOVING could not be carried (R129).
notes/assumptions/12.md. -/
def valvePosField : Field ValvePos := enumField [.opened, .closed, .moving, .unknown]
def directionField : Field Direction := enumField [.toOpen, .toClose]
def trapStepField : Field TrapStep :=
  enumField [.openDoor, .closeDoor, .fill, .lineUp, .drive, .isolate, .vent]
def trapStateField : Field TrapState :=
  enumField [.vented, .doorOpen, .pressurised, .linedUp, .driving, .unknown]
def trapParamField : Field TrapParam :=
  enumField [.openDoorTime, .closeDoorTime, .fillTime, .lineUpTime, .isolateTime, .ventTime, .driveTime,
    .ventLimit, .equaliseBand, .launchSpacing, .launchOverdueTime, .guardDistance, .barrelCapacity]

/-- The sixteen kinds by bit number (R187). -/
def attnKinds : List AttnKind :=
  [.restarted, .passage, .overdue, .stalled, .orphan, .signallerFault, .reportGap, .holdChange,
    .permitExpired, .forcedStroke, .trapEvent, .approach, .flowStale, .launchOverdue, .barrelOverfill, .intakeFull]

/-- A single attention kind: its bit number in the mask. -/
def attnKindField : Field AttnKind
  | b :: rest => (attnKinds[b.toNat]?).map (·, rest)
  | _ => none

/-! ## Parameters of each command -/

/-- The whole of the parameter bytes read by one field reader, nothing left over. -/
def whole {α : Type} (f : Field α) (bs : List Byte) : Carried α :=
  match f bs with
  | some (a, []) => some a
  | _ => none

def lineParams : Field LineArgs := fun bs => do
  let (count, bs) ← byteField bs
  let (lineEnd, bs) ← longField bs
  pure (⟨count, lineEnd⟩, bs)

def stationParams : Field StationArgs := fun bs => do
  let (index, bs) ← byteField bs
  let (chainage, bs) ← longField bs
  let (half, bs) ← optField shortField bs
  let (stroke, bs) ← optField shortField bs
  pure (⟨index, chainage, half, stroke⟩, bs)

def reachParams : Field ReachArgs := fun bs => do
  let (index, bs) ← byteField bs
  let (area, bs) ← shortField bs
  let (stall, bs) ← optField shortField bs
  let (timeout, bs) ← optField shortField bs
  pure (⟨index, area, stall, timeout⟩, bs)

/-- With source NONE nothing follows the source (R9). -/
def signallerParams : Field SignallerArgs := fun bs => do
  let (index, bs) ← byteField bs
  let (source, bs) ← enumField [some SigSource.remote, some SigSource.localInput, none] bs
  match source with
  | none => pure (⟨index, none⟩, bs)
  | some src =>
    let (chainage, bs) ← longField bs
    let (firmness, bs) ← optField firmnessField bs
    let (window, bs) ← optField shortField bs
    pure (⟨index, some ⟨src, chainage, firmness, window⟩⟩, bs)

def trackingParams : Field TrackingArgs := fun bs => do
  let (period, bs) ← shortField bs
  let (holdBack, bs) ← optField shortField bs
  let (weight, bs) ← optField byteField bs
  pure (⟨period, holdBack, weight⟩, bs)

/-- The pairs of DEFINE TRAP, one after another to the end of the parameters, with no byte for their number (DESIGN CHOICE,
notes/assumptions/12.md); `n` bounds it. -/
def trapPairs : Nat → List Byte → Option (List (TrapParam × Nat))
  | _, [] => some []
  | 0, _ => none
  | n + 1, bs => do
    let (p, bs) ← trapParamField bs
    let (v, bs) ← shortField bs
    let more ← trapPairs n bs
    pure ((p, v) :: more)

def trapParams : Field TrapArgs := fun bs => do
  let (t, bs) ← trapField bs
  let pairs ← trapPairs 10 bs
  pure (⟨t, pairs⟩, [])

def masterParams : Field MasterArgs := fun bs => do
  let (m, bs) ← byteField bs
  let (c, bs) ← classField bs
  pure (⟨m, c⟩, bs)

/-- The index of the selector TRAP t is the trap's place, 1 or 2 (DESIGN CHOICE, notes/assumptions/12.md). -/
def profileSelParams : Field ProfileSel := fun bs => do
  let (sel, bs) ← byteField bs
  match sel with
  | 1 => pure (.line, bs)
  | 2 => (byteField bs).map (fun r => (.station r.1, r.2))
  | 3 => (byteField bs).map (fun r => (.reach r.1, r.2))
  | 4 => (byteField bs).map (fun r => (.signaller r.1, r.2))
  | 5 => pure (.tracking, bs)
  | 6 => (trapField bs).map (fun r => (.trap r.1, r.2))
  | 7 => (byteField bs).map (fun r => (.master r.1, r.2))
  | 8 => (byteField bs).map (fun r => (.watch r.1, r.2))
  | 9 => (byteField bs).map (fun r => (.channel r.1, r.2))
  | 10 => pure (.summary, bs)
  | _ => none

def cursorParams : Field CursorArgs := fun bs => do
  let (mode, bs) ← cursorModeField bs
  let (tag, bs) ← optField byteField bs
  pure (⟨mode, tag⟩, bs)

def ratioParams : Field RatioArgs := fun bs => do
  let (tag, bs) ← byteField bs
  let (ratio, bs) ← shortField bs
  pure (⟨tag, ratio⟩, bs)

def tagChainageParams : Field TagChainage := fun bs => do
  let (tag, bs) ← byteField bs
  let (chainage, bs) ← longField bs
  pure (⟨tag, chainage⟩, bs)

def flowParams : Field FlowArgs := fun bs => do
  let (reach, bs) ← byteField bs
  let (flow, bs) ← shortField bs
  let (reverse, bs) ← yesNoField bs
  pure (⟨reach, flow, reverse⟩, bs)

def passageParams : Field PassageArgs := fun bs => do
  let (signaller, bs) ← byteField bs
  let (sequence, bs) ← shortField bs
  let (time, bs) ← longField bs
  let (speed, bs) ← optField shortField bs
  pure (⟨signaller, sequence, time, speed⟩, bs)

def intakeSelParams : Field IntakeSel := fun bs => do
  let (sel, bs) ← byteField bs
  match sel with
  | 1 => pure (.summary, bs)
  | 2 => (byteField bs).map (fun r => (.entry r.1, r.2))
  | 3 => (byteField bs).map (fun r => (.signaller r.1, r.2))
  | _ => none

/-- With mode OFF nothing follows the mode (R88). notes/assumptions/12.md. -/
def channelParams : Field ChannelArgs := fun bs => do
  let (channel, bs) ← byteField bs
  let (mode, bs) ← chanModeField bs
  if mode = .off then
    pure (⟨channel, mode, none, none, none, none, none⟩, bs)
  else
    let (signaller, bs) ← optField byteField bs
    let (minWidth, bs) ← optField shortField bs
    let (maxWidth, bs) ← optField shortField bs
    let (spacing, bs) ← optField shortField bs
    let (interval, bs) ← optField shortField bs
    pure (⟨channel, mode, signaller, minWidth, maxWidth, spacing, interval⟩, bs)

def serviceParams : Field ServiceArgs := fun bs => do
  let (n, bs) ← byteField bs
  let (v, bs) ← serviceField bs
  pure (⟨n, v⟩, bs)

def assignParams : Field AssignArgs := fun bs => do
  let (n, bs) ← byteField bs
  let (q, bs) ← shortField bs
  let (tag, bs) ← byteField bs
  pure (⟨n, q, tag⟩, bs)

def discardParams : Field DiscardArgs := fun bs => do
  let (n, bs) ← byteField bs
  let (q, bs) ← shortField bs
  pure (⟨n, q⟩, bs)

def matchingSelParams : Field MatchingSel := fun bs => do
  let (sel, bs) ← byteField bs
  match sel with
  | 1 => pure (.summary, bs)
  | 2 => (byteField bs).map (fun r => (.unmatched r.1, r.2))
  | 3 => (byteField bs).map (fun r => (.signaller r.1, r.2))
  | _ => none

def valveParams : Field ValveArgs := fun bs => do
  let (st, bs) ← byteField bs
  let (p, bs) ← valvePosField bs
  pure (⟨st, p⟩, bs)

/-- In CLEAR HOLDS the station index is 255 for ALL. -/
def clearHoldsParams : Field (Option Nat) := fun bs =>
  (byteField bs).map (fun r => (if r.1 = 255 then none else some r.1, r.2))

def strokeParams : Field StrokeArgs := fun bs => do
  let (st, bs) ← byteField bs
  let (d, bs) ← directionField bs
  pure (⟨st, d⟩, bs)

def watchParams : Field WatchArgs := fun bs => do
  let (st, bs) ← byteField bs
  let (enabled, bs) ← optField yesNoField bs
  let (source, bs) ← optField watchSourceField bs
  let (threshold, bs) ← optField shortField bs
  let (hysteresis, bs) ← optField shortField bs
  let (makeDelay, bs) ← optField shortField bs
  let (breakDelay, bs) ← optField shortField bs
  let (latch, bs) ← optField yesNoField bs
  let (startInhibit, bs) ← optField yesNoField bs
  let (actions, bs) ← optField actionsField bs
  pure (⟨st, enabled, source, threshold, hysteresis, makeDelay, breakDelay, latch, startInhibit, actions⟩, bs)

def pressureParams : Field PressureArgs := fun bs => do
  let (t, bs) ← trapField bs
  let (barrel, bs) ← optField shortField bs
  let (line, bs) ← optField shortField bs
  pure (⟨t, barrel, line⟩, bs)

def stepParams : Field StepArgs := fun bs => do
  let (t, bs) ← trapField bs
  let (st, bs) ← trapStepField bs
  pure (⟨t, st⟩, bs)

def stageParams : Field StageArgs := fun bs => do
  let (k, bs) ← kindField bs
  let (r, bs) ← optField shortField bs
  pure (⟨k, r⟩, bs)

def removeParams : Field RemoveArgs := fun bs => do
  let (t, bs) ← trapField bs
  let (tag, bs) ← byteField bs
  pure (⟨t, tag⟩, bs)

def recoverParams : Field RecoverArgs := fun bs => do
  let (t, bs) ← trapField bs
  let (st, bs) ← trapStateField bs
  pure (⟨t, st⟩, bs)

/-- A command that carries no parameters. -/
def noParams : Field Unit := fun bs => some ((), bs)

/-- The command codes of R189. A code not among them names no command (R176). -/
def decodeRequest (m : Master) (code : Nat) (bs : List Byte) : Instr :=
  match code with
  | 1 => .defineLine m (whole lineParams bs)
  | 2 => .defineStation m (whole stationParams bs)
  | 3 => .defineReach m (whole reachParams bs)
  | 4 => .defineSignaller m (whole signallerParams bs)
  | 5 => .defineTracking m (whole trackingParams bs)
  | 6 => .defineTrap m (whole trapParams bs)
  | 7 => .defineMaster m (whole masterParams bs)
  | 8 => .readProfile m (whole profileSelParams bs)
  | 9 => .decodeChainage m (whole longField bs)
  | 10 => .readPig m (whole byteField bs)
  | 11 => .cursorSet m (whole cursorParams bs)
  | 12 => .cursorRead m (whole noParams bs)
  | 13 => .setRatio m (whole ratioParams bs)
  | 14 => .writeOff m (whole byteField bs)
  | 15 => .confirm m (whole tagChainageParams bs)
  | 16 => .reportFlow m (whole flowParams bs)
  | 17 => .readFlow m (whole (optField byteField) bs)
  | 18 => .queryEta m (whole tagChainageParams bs)
  | 19 => .reportPassage m (whole passageParams bs)
  | 20 => .readIntake m (whole intakeSelParams bs)
  | 21 => .resetFlag m (whole byteField bs)
  | 22 => .setChannelMode m (whole channelParams bs)
  | 23 => .readChannel m (whole byteField bs)
  | 24 => .setSignallerService m (whole serviceParams bs)
  | 25 => .assignPassage m (whole assignParams bs)
  | 26 => .discardPassage m (whole discardParams bs)
  | 27 => .readMatching m (whole matchingSelParams bs)
  | 28 => .reportValve m (whole valveParams bs)
  | 29 => .setHold m (whole byteField bs)
  | 30 => .releaseHold m (whole byteField bs)
  | 31 => .clearHolds m (whole clearHoldsParams bs)
  | 32 => .requestStroke m (whole strokeParams bs)
  | 33 => .strokeDone m (whole valveParams bs)
  | 34 => .notifyForcedStroke m (whole strokeParams bs)
  | 35 => .readValve m (whole (optField byteField) bs)
  | 36 => .setWatch m (whole watchParams bs)
  | 37 => .acknowledgeWatch m (whole byteField bs)
  | 38 => .readWatch m (whole byteField bs)
  | 39 => .reportPressure m (whole pressureParams bs)
  | 40 => .trapStep m (whole stepParams bs)
  | 41 => .trapDone m (whole stepParams bs)
  | 42 => .stagePig m (whole stageParams bs)
  | 43 => .removePig m (whole removeParams bs)
  | 44 => .recoverTrap m (whole recoverParams bs)
  | 45 => .readTrap m (whole trapField bs)
  | 46 => .readAttention m (whole (optField attnKindField) bs)
  | 47 => .acknowledgeAttention m (whole attnSetField bs)
  | 48 => .setEnables m (whole attnSetField bs)
  | 49 => .setLineTime m (whole (optField longField) bs)
  | 50 => .restart m (whole noParams bs)
  | n => .unknownCommandCode m n

/-! ## Frames (R174, R175, R187) -/

/-- The cause for which the Port drops the frame whose bytes after the start byte are these; `none` where nothing
in them drops it. MALFORMED is seen first, since such a frame is abandoned as soon as the fault is seen; a complete
frame is then judged by its CRC and its master number. -/
def dropCause (frame : List Byte) : Option DropCause :=
  match frame with
  | [] => none
  | mb :: rest =>
    if mb &&& 0x1F#8 ≠ 0#8 then some .malformed
    else
      match rest with
      | code :: len :: more =>
        if len.toNat > 32 then some .malformed
        else if more.length ≠ len.toNat + 2 then none
        else
          let params := more.take len.toNat
          let badCrc := crc16 (mb :: code :: len :: params) ≠ BitVec.ofNat 16
            ((more.drop len.toNat).foldl (fun n b => n * 256 + b.toNat) 0)
          let badMaster := 6 ≤ mb.toNat / 32
          if badCrc ∧ badMaster then some (if Config.crcCauseFirst then .crc else .masterNumber)
          else if badCrc then some .crc
          else if badMaster then some .masterNumber
          else none
      | _ => none

/-- What the Port makes of the bytes of one frame, start byte first: the request of a checked frame, the dropping
of a bad one, or nothing, for bytes that begin no request frame or end before the frame is complete. -/
def decodeFrame (bytes : List Byte) : Option Instr :=
  match bytes with
  | [] => none
  | start :: frame =>
    if start ≠ 0xC3#8 then none
    else
      match dropCause frame, frame with
      | some _, _ => some (.frameDropped frame)
      | none, mb :: code :: len :: more =>
        if more.length = len.toNat + 2 then
          if h : mb.toNat / 32 < 6 then
            some (decodeRequest ⟨mb.toNat / 32, h⟩ code.toNat (more.take len.toNat))
          else none
        else none
      | none, _ => none

end Sys2Proof
end

