-- ==== Sys2Proof/Machine/State.lean ====
section
/-! DEFINITION. Machine/State.lean: every piece of state the manual gives the part, block by block as
spec/00_scope.md names the blocks, the reply the part has sent, and the queue of commands that are waiting.
State is plain data. -/

namespace Sys2Proof.Machine

/-! ## The line profile (1.1) -/

/-- The line item (R5). -/
structure LineDef where
  count : Nat
  lineEnd : Nat
deriving DecidableEq, Repr

/-- A station item (R6): chainage and half-width in metres, stroke time in seconds. -/
structure Station where
  chainage : Nat
  halfWidth : Nat
  strokeTime : Nat
deriving DecidableEq, Repr

/-- A reach item (R8): area in cm², times in seconds. -/
structure Reach where
  area : Nat
  stallTime : Nat
  flowTimeout : Nat
deriving DecidableEq, Repr

/-- A signaller item (R9): chainage and window in metres. -/
structure Signaller where
  source : SigSource
  chainage : Nat
  firmness : Firmness
  window : Nat
deriving DecidableEq, Repr

/-- The tracking item (R11): period and hold-back in seconds. -/
structure Tracking where
  period : Nat
  holdBack : Nat
  weight : Nat
deriving DecidableEq, Repr

/-- The trap parameters both traps have (R12): step times in seconds, pressures in kPa. -/
structure TrapCommon where
  openDoorTime : Nat
  closeDoorTime : Nat
  fillTime : Nat
  lineUpTime : Nat
  isolateTime : Nat
  ventTime : Nat
  ventLimit : Nat
  equaliseBand : Nat
deriving DecidableEq, Repr

/-- The launch trap's item (R12). -/
structure LaunchItem where
  common : TrapCommon
  driveTime : Nat
  spacing : Nat
  overdueTime : Nat
deriving DecidableEq, Repr

/-- The receive trap's item (R12). -/
structure ReceiveItem where
  common : TrapCommon
  guardDistance : Nat
  capacity : Nat
deriving DecidableEq, Repr

/-- A watch item (R137): threshold and hysteresis in metres or seconds by the source, delays in seconds. -/
structure WatchCfg where
  enabled : Bool
  source : WatchSource
  threshold : Nat
  hysteresis : Nat
  makeDelay : Nat
  breakDelay : Nat
  latch : Bool
  startInhibit : Bool
  actions : Actions
deriving DecidableEq, Repr

/-- A channel item (R14, R88): widths and interval in milliseconds, spacing in millimetres. -/
structure ChanCfg where
  mode : ChanMode
  signaller : Option Nat
  minWidth : Nat
  maxWidth : Nat
  spacing : Nat
  interval : Nat
deriving DecidableEq, Repr

/-- The profile: every item of 1.1. Line, station, reach and signaller items may be undefined. -/
structure Profile where
  line : Option LineDef
  stations : Vector (Option Station) 16
  reaches : Vector (Option Reach) 15
  signallers : Vector (Option Signaller) 32
  tracking : Tracking
  launch : LaunchItem
  receive : ReceiveItem
  masters : Vector MasterClass 6
  watches : Vector WatchCfg 16
  channels : Vector ChanCfg 8
deriving DecidableEq, Repr

/-- The geometry fields of a profile (R4), over which the geometry mark is a check value (R193). -/
structure Geometry where
  line : Option LineDef
  stations : Vector (Option (Nat × Nat)) 16
  reaches : Vector (Option Nat) 15
  signallers : Vector (Option (SigSource × Nat)) 32
deriving DecidableEq, Repr

/-! ## The profile store (R1, R2, R17) -/

/-- One of the two nonvolatile images. `valid` says whether its check value matches its contents. -/
structure Image where
  writeCount : Nat
  valid : Bool
  contents : Profile
deriving DecidableEq, Repr

/-- Which image. -/
inductive Slot | first | second
deriving DecidableEq, Repr

/-- The image state (R17). -/
inductive ImageState | current | reverted | empty
deriving DecidableEq, Repr

/-- The profile store. `writing = none` is IDLE; otherwise the store is WRITING the image named. -/
structure ProfileStore where
  running : Profile
  firstImage : Image
  secondImage : Image
  currentImage : Option Slot
  writing : Option Slot
  imageState : ImageState
deriving DecidableEq, Repr

/-! ## The line clock (R190, R194) -/

/-- Causes of a restart (R194). -/
inductive RestartCause | powerOn | powerOnRetentionLost | commanded
deriving DecidableEq, Repr

/-- The restart cause record (R194). -/
structure RestartRecord where
  cause : RestartCause
  restartTime : Option Nat
  timeSet : Option Nat
deriving DecidableEq, Repr

/-- The line clock. `lineTime = none` is UNSET. -/
structure LineClock where
  lineTime : Option Nat
  record : RestartRecord
deriving DecidableEq, Repr

/-! ## The pig register (2.1, 2.3) -/

/-- Status of a pig record, in the order of R188. -/
inductive PigStatus | staged | running | overdue | stalled | unverified | arrived
deriving DecidableEq, Repr

/-- Where a pig's drive ratio comes from (R20). -/
inductive RatioSource | learnt | manual
deriving DecidableEq, Repr

/-- The flags of a pig record (R28). -/
structure PigFlags where
  early : Bool
  struck : Bool
  aged : Bool
deriving DecidableEq, Repr

/-- A last fix: signaller index, chainage in millimetres, event time. -/
structure LastFix where
  signaller : Nat
  chainage : Nat
  time : Nat
deriving DecidableEq, Repr

/-- The overdue fields, present together (R19). -/
structure OverdueAt where
  signaller : Nat
  since : Nat
deriving DecidableEq, Repr

/-- One pig record (2.1). Positions and distances are in millimetres. `estimate` is the estimate time that the
Position Tracker holds for an in-line pig (R47); it is not part of the retained record. -/
structure Pig where
  tag : Nat
  kind : PigKind
  status : PigStatus
  ratio : Nat
  source : RatioSource
  position : Nat
  speed : Nat
  fluid : Nat
  lastFix : Option LastFix
  overdueAt : Option OverdueAt
  launchTime : Option Nat
  arrivalTime : Option Nat
  error : Option Int
  flags : PigFlags
  estimate : Option Nat
deriving DecidableEq, Repr

/-- The pig register (R22, R24): the three ordered lists and the tag counter. -/
structure Register where
  receiveBarrel : List Pig
  inLine : List Pig
  launchBarrel : List Pig
  tagCounter : Nat
deriving DecidableEq, Repr

/-! ## The position tracker (3.1, 3.2) -/

/-- Flow states (R40). -/
inductive FlowState | fresh | stale | lapsed
deriving DecidableEq, Repr

/-- One entry of the reach flow table (R40). -/
structure FlowEntry where
  flow : Nat
  reverse : Bool
  reportTime : Option Nat
  state : FlowState
deriving DecidableEq, Repr

/-- The flow table and the update timer (R45). `running = false` is IDLE. -/
structure Tracker where
  flows : Vector FlowEntry 15
  running : Bool
  lastUpdate : Option Nat
  deadline : Option Nat
deriving DecidableEq, Repr

/-! ## Report intake (R62, R63) -/

/-- Where a passage report came from (R62). -/
inductive Origin | master (m : Master) | channel (c : Fin 8)
deriving DecidableEq, Repr

/-- One entry of the intake list. -/
structure IntakeEntry where
  signaller : Nat
  sequence : Nat
  time : Nat
  speed : Option Nat
  origin : Origin
deriving DecidableEq, Repr

/-- The six intake counts (R63). -/
structure IntakeCounts where
  accepted : Nat
  duplicates : Nat
  outOfService : Nat
  stale : Nat
  overruns : Nat
  futureClamps : Nat
deriving DecidableEq, Repr

/-- The intake list, first to become due first, and the counts. -/
structure Intake where
  entries : List IntakeEntry
  counts : IntakeCounts
deriving DecidableEq, Repr

/-- The runtime record of one signaller: the Fix Unit's three fields (R92) and Report Intake's two (R63). -/
structure SigRuntime where
  service : Service
  missed : Nat
  passages : Nat
  lastSequence : Option Nat
  gaps : Nat
deriving DecidableEq, Repr

/-! ## The signaller input unit (R78) -/

/-- Channel states (R78). -/
inductive ChanState | idle | armed | measuring | tripped | fault | guard
deriving DecidableEq, Repr

/-- A last measurement (R78): a pulse width, or a pair's interval and speed. -/
inductive Measurement | pulse (width : Nat) | pair (interval speed : Nat)
deriving DecidableEq, Repr

/-- A timing in flight (R78): the millisecond timer and the line time at the edge that started it. -/
structure Flight where
  ms : Nat
  time : Nat
deriving DecidableEq, Repr

/-- The runtime state of one channel (R78). -/
structure Channel where
  state : ChanState
  lastDetection : Option Nat
  measurement : Option Measurement
  noise : Nat
  faults : Nat
  incomplete : Nat
  reverse : Nat
  flight : Option Flight
deriving DecidableEq, Repr

/-- The eight inputs as they read (true is active, a contact closed), the eight channel records, and the latest
reading of the unit's millisecond timer. `pairEdge` is the model's own: the inputs whose level was last set by an edge of
a pair, whose going inactive no row of the table tells (notes/assumptions/13.md). -/
structure InputUnit where
  inputs : Vector Bool 8
  pairEdge : Vector Bool 8
  channels : Vector Channel 8
  msTimer : Nat
deriving DecidableEq, Repr

/-! ## The fix unit (R92, R109) -/

/-- Reasons of an unmatched entry (R93). -/
inductive UnmatchedReason | stray | staleFix | earlySoft
deriving DecidableEq, Repr

/-- One entry of the unmatched list (R109). -/
structure UnmatchedEntry where
  signaller : Nat
  sequence : Nat
  time : Nat
  reason : UnmatchedReason
  speed : Option Nat
  entered : Nat
deriving DecidableEq, Repr

/-- The unmatched list, oldest first, and its dropped count. -/
structure FixUnit where
  unmatched : List UnmatchedEntry
  dropped : Nat
deriving DecidableEq, Repr

/-! ## The valve interlock unit (R117) -/

/-- A hold set: master m in bit m, WATCH in bit 6, as R189 lays it out. -/
abbrev HoldSet := BitVec 7

/-- A stroke permit. -/
structure Permit where
  owner : Master
  direction : Direction
  expiry : Nat
deriving DecidableEq, Repr

/-- A lapsed permit. -/
structure LapsedPermit where
  owner : Master
  direction : Direction
deriving DecidableEq, Repr

/-- A last forced stroke; the time is absent when line time was unset. -/
structure ForcedStroke where
  direction : Direction
  time : Option Nat
deriving DecidableEq, Repr

/-- One valve record and the station's hold contact. -/
structure Valve where
  position : ValvePos
  hold : HoldSet
  permit : Option Permit
  lapsed : Option LapsedPermit
  forced : Option ForcedStroke
  contact : Bool
deriving DecidableEq, Repr

/-! ## The approach watch unit (R139) -/

/-- Watch states (R139). -/
inductive WatchState | off | clear | making | made | breaking | latched | inhibited
deriving DecidableEq, Repr

/-- A watched value: NONE, or a number, millimetres for DISTANCE and seconds for ETA (R140). -/
inductive WatchValue | noValue | value (n : Nat)
deriving DecidableEq, Repr

/-- A make or break delay in flight. -/
structure Delay where
  start : Nat
  deadline : Nat
deriving DecidableEq, Repr

/-- The runtime state of one watch; `value = none` is absent. -/
structure Watch where
  state : WatchState
  tag : Option Nat
  value : Option WatchValue
  delay : Option Delay
  lastJudged : Option Nat
deriving DecidableEq, Repr

/-- The sixteen watches, and whether the unit's first judgement after a restart is still to come (R146). -/
structure WatchUnit where
  watches : Vector Watch 16
  firstPending : Bool
deriving DecidableEq, Repr

/-! ## The trap sequencer (R152) -/

/-- A step in progress. -/
structure StepInHand where
  step : TrapStep
  owner : Master
  deadline : Nat
deriving DecidableEq, Repr

/-- A lapsed step. -/
structure LapsedStep where
  step : TrapStep
  owner : Master
deriving DecidableEq, Repr

/-- A reported pressure in kPa; the time is absent when it was taken while line time was unset. -/
structure Pressure where
  kPa : Nat
  time : Option Nat
deriving DecidableEq, Repr

/-- One trap record. -/
structure TrapRecord where
  state : TrapState
  step : Option StepInHand
  lapsed : Option LapsedStep
  barrel : Option Pressure
  line : Option Pressure
deriving DecidableEq, Repr

/-- The two trap records and the launch trap's launch overdue deadline. -/
structure Traps where
  launch : TrapRecord
  receive : TrapRecord
  launchOverdue : Option Nat
deriving DecidableEq, Repr

/-! ## The coordination port (R178, R180, R181) -/

/-- The refusal reasons, in the order of R187. -/
inductive Reason
  | cls | state | busy | full | range | noSuch | held | interlock | notOwner | stale | locked | timeUnset
deriving DecidableEq, Repr

/-- A last refusal (R178). -/
structure LastRefusal where
  code : Nat
  reason : Reason
  time : Option Nat
deriving DecidableEq, Repr

/-- One master context (R180). -/
structure Context where
  cls : MasterClass
  attention : AttnSet
  enables : AttnSet
  line : Bool
  cursorTag : Option Nat
  cursorMode : CursorMode
  lastRefusal : Option LastRefusal
deriving DecidableEq, Repr

/-- The subject of a posting (R180). -/
inductive Subject | tag (n : Nat) | signaller (n : Nat) | station (s : Nat) | trap (t : TrapId)
deriving DecidableEq, Repr

/-- One entry of the attention detail table (R181). -/
structure Detail where
  subject : Option Subject
  time : Option Nat
  count : Nat
deriving DecidableEq, Repr

/-- The six contexts, the detail table by bit number of the kind, and the drop record (R175). -/
structure Port where
  contexts : Vector Context 6
  detail : Vector Detail 16
  dropCount : Nat
  lastDrop : Option DropCause
deriving DecidableEq, Repr

/-! ## Replies (R177): the data each command's rule names -/

/-- The profile summary (R16). -/
structure ProfileSummary where
  complete : Bool
  lineDefined : Bool
  undefinedStations : List Nat
  undefinedReaches : List Nat
  launchSignaller : Bool
  receiveSignaller : Option Nat
  signallers : Nat
  locked : Bool
  writeCount : Nat
  imageState : ImageState
deriving DecidableEq, Repr

/-- Regions of the line (R18), in the order of the decode. -/
inductive Region | launchTrap | receiveTrap | valveZone (s : Nat) | reach (r : Nat)
deriving DecidableEq, Repr

/-- Parts of the register (R29), in the order of R188. -/
inductive RegisterPart | receiveBarrel | inLine | launchBarrel
deriving DecidableEq, Repr

/-- The pig summary (R29): positions, distances and error in whole metres. -/
structure PigSummary where
  tag : Nat
  kind : PigKind
  status : PigStatus
  ratio : Nat
  source : RatioSource
  part : RegisterPart
  ordinal : Nat
  records : Nat
  position : Option Nat
  speed : Nat
  fluid : Nat
  lastFix : Option LastFix
  overdueAt : Option OverdueAt
  launchTime : Option Nat
  arrivalTime : Option Nat
  error : Option Int
  flags : PigFlags
deriving DecidableEq, Repr

/-- The cause of a zero effective flow (R44). -/
inductive ZeroCause | lapsed | valveClosed
deriving DecidableEq, Repr

/-- The check that refused a stroke (R125). -/
inductive StrokeCheck | zone | unverified | approach
deriving DecidableEq, Repr

/-- The check that refused a trap step (R155). -/
inductive StepCheck | pressure | valve | spacing | guard
deriving DecidableEq, Repr

/-- One station's line of the READ VALVE summary (R134). -/
structure ValveLine where
  position : ValvePos
  members : Nat
  watch : Bool
  permit : Bool
  contact : Bool
deriving DecidableEq, Repr

/-- The data of a reply, one form for each that a rule names. -/
inductive ReplyData
  | nothing
  | lineItem (d : LineDef)
  | stationItem (s : Station) (index : Nat) (last : Bool)
  | reachItem (r : Reach)
  | signallerItem (s : Signaller) (receive : Bool)
  | trackingItem (t : Tracking)
  | launchItem (t : LaunchItem)
  | receiveItem (t : ReceiveItem)
  | masterItem (c : MasterClass)
  | watchItem (w : WatchCfg)
  | channelItem (c : ChanCfg)
  | profileSummary (p : ProfileSummary)
  | region (r : Region) (chainage : Nat) (clamped : Bool) (reach : Option Nat)
  | pig (p : PigSummary)
  | cursorTag (t : Option Nat)
  | ratioHeld (ratio : Nat) (source : RatioSource)
  | placed (metres : Nat) (clamped : Bool)
  | flowTaken (flow : Nat) (was : FlowState)
  | flowEntry (e : FlowEntry) (effective : Nat) (cause : Option ZeroCause) (area velocity : Nat)
  | trackerSummary (running : Bool) (period : Nat) (lastUpdate deadline : Option Nat) (inLine : Nat)
      (states : List FlowState)
  | eta (seconds : Option Nat) (distance speed target : Nat) (clamped : Bool) (status : PigStatus)
  | accepted (place : Nat) (handed : Bool) (left gap : Nat) (clamped : Bool)
  | lastSequence (s : Nat)
  | intakeSummary (entries : Nat) (first : Option Nat) (holdBack : Nat) (counts : IntakeCounts)
  | intakeEntry (e : IntakeEntry) (due : Nat)
  | sequenceState (last : Option Nat) (gaps entries : Nat)
  | flagState (s : ChanState) (active : Bool)
  | channelRecord (cfg : ChanCfg) (partner : Option Nat) (state : ChanState) (active : Bool) (bActive : Option Bool)
      (measurement : Option Measurement) (lastDetection : Option Nat) (noise faults incomplete reverse : Nat)
  | serviceHeld (s : Service) (missed : Nat)
  | assigned (metres ratio : Nat) (source : RatioSource) (status : PigStatus)
  | entriesLeft (n : Nat)
  | matchingSummary (entries dropped out : Nat)
  | unmatchedEntry (e : UnmatchedEntry)
  | serviceRecord (s : Service) (missed passages : Nat) (candidate : Option Nat)
  | valveTaken (was : ValvePos) (permit : Bool)
  | holdSet (h : HoldSet)
  | emptied (n : Nat)
  | expiry (t : Nat)
  | strokeInterlock (check : StrokeCheck) (tag : Nat) (eta : Option Nat)
  | struck (n : Nat) (owner : Option Master)
  | valveRecord (v : Valve) (strokeTime : Nat) (zoneStart zoneEnd : Int) (approachLimit : Nat)
  | valveSummary (l : List ValveLine)
  | watchState (s : WatchState)
  | watchRecord (w : Watch) (member : Bool)
  | pressures (barrel line difference : Option Nat)
  | deadline (t : Nat)
  | stepInterlock (check : StepCheck) (tag : Option Nat)
  | trapState (s : TrapState)
  | staged (tag ratio : Nat) (source : RatioSource) (staged : Nat)
  | removed (barrel register : Nat)
  | launchRecord (r : TrapRecord) (tags : List Nat) (overdue : Option Nat)
  | receiveRecord (r : TrapRecord) (tags : List Nat) (capacity : Nat) (overfull : Bool)
  | attention (set enables : AttnSet) (line : Bool) (last : Option LastRefusal) (drops : Nat) (cause : Option DropCause)
  | attentionDetail (d : Detail) (held : Bool)
  | attentionSet (set : AttnSet) (line : Bool)
  | clock (lineTime : Option Nat) (first : Bool) (record : RestartRecord)
  | restarted (record : RestartRecord)
deriving DecidableEq, Repr

/-- Why a report was discarded (R64). -/
inductive Discard | duplicate | outOfService
deriving DecidableEq, Repr

/-- An outcome with its reason and data (R177). -/
inductive Answer
  | done (d : ReplyData)
  | accepted (d : ReplyData)
  | discarded (why : Discard) (d : ReplyData)
  | late (d : ReplyData)
  | wait
  | endOfView
  | refused (r : Reason) (d : ReplyData)
deriving DecidableEq, Repr

/-- A reply frame: the master it answers, the outcome, and the two marks of R177. -/
structure Reply where
  master : Master
  answer : Answer
  attentionMark : Bool
  restartMark : Bool
deriving DecidableEq, Repr

/-! ## The machine -/

/-- The whole state. -/
structure State where
  /-- Whether the part has power and has completed its start-up sequence (R195). -/
  powered : Bool
  port : Port
  store : ProfileStore
  clock : LineClock
  /-- The geometry mark of retention memory (R193). The rest of retention memory is the register, the trap states
  and steps, the signallers' runtime records and the manual holds, each in its own field. -/
  geometryMark : Geometry
  register : Register
  tracker : Tracker
  intake : Intake
  signallers : Vector SigRuntime 32
  inputUnit : InputUnit
  fixUnit : FixUnit
  valves : Vector Valve 16
  watchUnit : WatchUnit
  traps : Traps
  /-- The reply frame sent for the command taken last; `none` where that command or event got none. -/
  reply : Option Reply
  /-- The model's own field: how many free values have been read (Config.tieBreak). -/
  freeCount : Nat
  /-- The commands that are waiting, first in, first out. -/
  pending : List Instr
deriving DecidableEq, Repr

/-- Why the part would stop. The manual describes no condition in which the part stops. -/
inductive Fault
  /-- Raised by no command and no event: safe. -/
  | partStopped
deriving DecidableEq, Repr

/-- Why a command would have no meaning. -/
inductive Refusal
  /-- Raised by an arm of `exec` whose command has no meaning in the model: safe. No arm raises it. -/
  | notModelled (mnemonic : String)
deriving DecidableEq, Repr

/-! ## Reset: a new part after its first power-on (R195), with no valid profile image and retention lost -/

def TrapCommon.default : TrapCommon := ⟨300, 300, 300, 300, 300, 300, 20, 100⟩
def WatchCfg.empty : WatchCfg := ⟨false, .distance, 2000, 200, 0, 0, false, true, ⟨false, false, false⟩⟩
def ChanCfg.empty : ChanCfg := ⟨.off, none, 20, 2000, 1000, 10000⟩

/-- The empty profile (1.7). -/
def Profile.empty : Profile where
  line := none
  stations := Vector.replicate 16 none
  reaches := Vector.replicate 15 none
  signallers := Vector.replicate 32 none
  tracking := ⟨2, 10, 4⟩
  launch := ⟨TrapCommon.default, 300, 1000, 600⟩
  receive := ⟨TrapCommon.default, 5000, 2⟩
  masters := #v[.service, .none, .none, .none, .none, .none]
  watches := Vector.replicate 16 WatchCfg.empty
  channels := Vector.replicate 8 ChanCfg.empty

def Geometry.empty : Geometry :=
  ⟨none, Vector.replicate 16 none, Vector.replicate 15 none, Vector.replicate 32 none⟩

/-- An image that has never been written: it fails its check. -/
def Image.blank : Image := ⟨0, false, Profile.empty⟩

/-- A flow table entry with no report (R40). -/
def FlowEntry.empty : FlowEntry := ⟨0, false, none, .lapsed⟩

/-- A runtime record as R9 sets it: IN service, every count 0, no last sequence. -/
def SigRuntime.fresh : SigRuntime := ⟨.inService, 0, 0, none, 0⟩

/-- A channel record as R91 starts it. -/
def Channel.idle : Channel := ⟨.idle, none, none, 0, 0, 0, 0, none⟩

/-- A valve record as R117 builds it, its contact de-energised. -/
def Valve.fresh : Valve := ⟨.unknown, 0#7, none, none, none, false⟩

/-- A watch in OFF that has not been judged (R151). -/
def Watch.off : Watch := ⟨.off, none, none, none, none⟩

/-- A trap record after retention is lost (R172). -/
def TrapRecord.unknown : TrapRecord := ⟨.unknown, none, none, none, none⟩

/-- A detail entry of a kind never posted (R181). -/
def Detail.empty : Detail := ⟨none, none, 0⟩

def IntakeCounts.zero : IntakeCounts := ⟨0, 0, 0, 0, 0, 0⟩

/-- A context as R186 sets it up: RESTARTED pending, nothing enabled, cursor empty with mode HOLD. -/
def Context.restarted (c : MasterClass) : Context := ⟨c, 1#16, 0#16, false, none, .hold, none⟩

/-- The state right after the start-up sequence of a new part. -/
def State.reset : State where
  powered := true
  port :=
    { contexts := #v[.restarted .service, .restarted .none, .restarted .none, .restarted .none, .restarted .none,
        .restarted .none]
      detail := (Vector.replicate 16 Detail.empty).set 0 ⟨none, none, 1⟩
      dropCount := 0
      lastDrop := none }
  store :=
    { running := Profile.empty
      firstImage := Image.blank
      secondImage := Image.blank
      currentImage := none
      writing := none
      imageState := .empty }
  clock := ⟨none, ⟨.powerOnRetentionLost, none, none⟩⟩
  geometryMark := Geometry.empty
  register := ⟨[], [], [], 1⟩
  tracker := ⟨Vector.replicate 15 FlowEntry.empty, false, none, none⟩
  intake := ⟨[], IntakeCounts.zero⟩
  signallers := Vector.replicate 32 SigRuntime.fresh
  inputUnit := ⟨Vector.replicate 8 false, Vector.replicate 8 false, Vector.replicate 8 Channel.idle, 0⟩
  fixUnit := ⟨[], 0⟩
  valves := Vector.replicate 16 Valve.fresh
  watchUnit := ⟨Vector.replicate 16 Watch.off, true⟩
  traps := ⟨TrapRecord.unknown, TrapRecord.unknown, none⟩
  reply := none
  freeCount := 0
  pending := []

end Sys2Proof.Machine
end

