-- ==== Sys2Proof/Machine/Ops.lean ====
section
/-! DEFINITION. Machine/Ops.lean: the named updates of the state, the arithmetic of times and counts, the lookups
of the profile, the check that a request passes before its command acts (R176), and the reply it gets (R177). -/

namespace Sys2Proof.Machine

/-- What a command or event answers. -/
abbrev Outcome := Host.Outcome State Fault Refusal

/-! ## Named updates, one for each field of `State` -/

def State.setPort (s : State) (x : Port) : State := { s with port := x }
def State.setStore (s : State) (x : ProfileStore) : State := { s with store := x }
def State.setClock (s : State) (x : LineClock) : State := { s with clock := x }
def State.setGeometryMark (s : State) (x : Geometry) : State := { s with geometryMark := x }
def State.setRegister (s : State) (x : Register) : State := { s with register := x }
def State.setTracker (s : State) (x : Tracker) : State := { s with tracker := x }
def State.setIntake (s : State) (x : Intake) : State := { s with intake := x }
def State.setSignallers (s : State) (x : Vector SigRuntime 32) : State := { s with signallers := x }
def State.setInputUnit (s : State) (x : InputUnit) : State := { s with inputUnit := x }
def State.setFixUnit (s : State) (x : FixUnit) : State := { s with fixUnit := x }
def State.setValves (s : State) (x : Vector Valve 16) : State := { s with valves := x }
def State.setWatchUnit (s : State) (x : WatchUnit) : State := { s with watchUnit := x }
def State.setTraps (s : State) (x : Traps) : State := { s with traps := x }
def State.setReply (s : State) (x : Option Reply) : State := { s with reply := x }
def State.setFreeCount (s : State) (x : Nat) : State := { s with freeCount := x }
def State.setPowered (s : State) (x : Bool) : State := { s with powered := x }
def State.setPending (s : State) (x : List Instr) : State := { s with pending := x }

/-- The running copy of the profile, which all blocks read (R1). -/
def State.profile (s : State) : Profile := s.store.running

/-- Line time, or `none` while it is UNSET (R190). -/
def State.now (s : State) : Option Nat := s.clock.lineTime

/-! ## Times and counts -/

/-- The last value of the line time count, where it stops (R190). -/
def maxTime : Nat := 4294967295

/-- A line time plus a duration in tenths, held at the last value of the count (R190). -/
def addTime (t d : Nat) : Nat := min (t + d) maxTime

/-- A duration in seconds as tenths. -/
def tenths (seconds : Nat) : Nat := seconds * 10

/-- A count that saturates at 65,535 rises by one. -/
def bump (n : Nat) : Nat := min (n + 1) 65535

/-- `n` lies in the range, both ends included. -/
def within (lo hi n : Nat) : Bool := lo ≤ n && n ≤ hi

/-- An omitted field passes its range check (R3). -/
def optWithin (lo hi : Nat) : Option Nat → Bool
  | none => true
  | some n => within lo hi n

/-- The least of a number and of a limit that may be absent. -/
def capAt (n : Nat) : Option Nat → Nat
  | none => n
  | some l => min n l

/-! ## Profile lookups -/

def Profile.station? (p : Profile) (i : Nat) : Option Station := (p.stations[i]?).join
def Profile.reach? (p : Profile) (i : Nat) : Option Reach := (p.reaches[i]?).join
def Profile.signaller? (p : Profile) (n : Nat) : Option Signaller := (p.signallers[n]?).join

/-- The station count, 0 while the line is undefined. -/
def Profile.count (p : Profile) : Nat := match p.line with | none => 0 | some l => l.count

/-- The line end L in metres, 0 while the line is undefined. -/
def Profile.lineEnd (p : Profile) : Nat := match p.line with | none => 0 | some l => l.lineEnd

/-- Whether the signaller is defined at the line end (R10). -/
def Profile.isReceive (p : Profile) (n : Nat) : Bool :=
  match p.line, p.signaller? n with
  | some l, some g => g.chainage == l.lineEnd
  | _, _ => false

/-- The receive signaller: the defined signaller at chainage L (R10). -/
def Profile.receiveIndex (p : Profile) : Option Nat := (List.range 32).find? p.isReceive

/-- Indices below `n` that are undefined. -/
def undefinedBelow (n : Nat) (defined : Nat → Bool) : List Nat := (List.range n).filter (fun i => !defined i)

def Profile.undefinedStations (p : Profile) : List Nat := undefinedBelow p.count (fun i => (p.station? i).isSome)
def Profile.undefinedReaches (p : Profile) : List Nat := undefinedBelow (p.count - 1) (fun i => (p.reach? i).isSome)

/-- Completeness of the profile, judged from the running copy (R15). -/
def Profile.complete (p : Profile) : Bool :=
  p.line.isSome && p.undefinedStations.isEmpty && p.undefinedReaches.isEmpty && (p.signaller? 0).isSome &&
    p.receiveIndex.isSome

/-- The geometry fields of the profile (R4, R193). -/
def geometryOf (p : Profile) : Geometry where
  line := p.line
  stations := p.stations.mapIdx (fun _ o => o.map (fun s => (s.chainage, s.halfWidth)))
  reaches := p.reaches.mapIdx (fun _ o => o.map (fun r => r.area))
  signallers := p.signallers.mapIdx (fun _ o => o.map (fun g => (g.source, g.chainage)))

/-- The valve zone's start in millimetres; that of station 0 lies below 0 (R7, R18). -/
def Station.zoneStart (st : Station) : Int := ((st.chainage : Int) - st.halfWidth) * 1000

/-- The valve zone's end in millimetres (R18). -/
def Station.zoneEnd (st : Station) : Nat := (st.chainage + st.halfWidth) * 1000

/-- The position lies within the valve zone, both ends included (R18, R126). -/
def Station.inZone (st : Station) (pos : Nat) : Bool := st.zoneStart ≤ (pos : Int) && pos ≤ st.zoneEnd

/-- Whether reach r contains the position, in millimetres: from station r, inclusive, to station r + 1, exclusive,
and the line end in the last reach (R18, R48). -/
def Profile.reachHolds (p : Profile) (pos r : Nat) : Bool :=
  match p.station? r, p.station? (r + 1) with
  | some a, some b =>
    a.chainage * 1000 ≤ pos && (pos < b.chainage * 1000 || (r + 2 == p.count && pos == b.chainage * 1000))
  | _, _ => false

/-- The reach that contains a position in millimetres (R48). -/
def Profile.reachAt (p : Profile) (pos : Nat) : Option Nat := (List.range (p.count - 1)).find? (p.reachHolds pos)

/-- The station index of a request, where it lies below the station count. -/
def Profile.stationIndex (p : Profile) (n : Nat) : Option (Fin 16) :=
  if h : n < 16 then if n < p.count then some ⟨n, h⟩ else none else none

/-- A watch index of a request, 0 to 15. -/
def watchIndex (n : Nat) : Option (Fin 16) := if h : n < 16 then some ⟨n, h⟩ else none

/-- A channel number of a request, 0 to 7. -/
def channelIndex (n : Nat) : Option (Fin 8) := if h : n < 8 then some ⟨n, h⟩ else none

/-- A signaller index of a request, 0 to 31. -/
def signallerIndex (n : Nat) : Option (Fin 32) := if h : n < 32 then some ⟨n, h⟩ else none

/-- The runtime record of a signaller index (R63, R92). -/
def State.runtime (s : State) (n : Nat) : SigRuntime := (s.signallers[n]?).getD SigRuntime.fresh

/-- Write the runtime record of a signaller index. -/
def State.setRuntime (s : State) (n : Nat) (r : SigRuntime) : State := s.setSignallers (s.signallers.setIfInBounds n r)

/-- The position of the valve of a station index, where a record stands for it. -/
def State.valveAt (s : State) (n : Nat) : Option ValvePos := (s.valves[n]?).map (·.position)

/-- Whether the valve of a station of the line stands CLOSED. -/
def State.valveClosed (s : State) (n : Nat) : Bool := n < s.profile.count && s.valveAt n == some .closed

/-! ## The register as a whole (R24) -/

/-- The ordered view of the register, from downstream to upstream. -/
def Register.view (r : Register) : List Pig := r.receiveBarrel ++ r.inLine ++ r.launchBarrel

/-- The number of records. -/
def Register.size (r : Register) : Nat := r.receiveBarrel.length + r.inLine.length + r.launchBarrel.length

/-- The geometry lock (R4): in force while the register holds any record. -/
def Register.locked (r : Register) : Bool := r.size != 0

/-- The record that carries a tag. -/
def Register.find (r : Register) (tag : Nat) : Option Pig := r.view.find? (fun p => p.tag == tag)

/-! ## Requests and replies -/

/-- Write one context. -/
def Port.setContext (p : Port) (m : Master) (c : Context) : Port := { p with contexts := p.contexts.set m c }

/-- The context of a master. -/
def State.context (s : State) (m : Master) : Context := s.port.contexts[m]

def State.setContext (s : State) (m : Master) (c : Context) : State := s.setPort (s.port.setContext m c)

/-- A refusal without data. -/
def refuse (r : Reason) (s : State) : State × Answer := (s, .refused r .nothing)

/-- A refusal with the data that its rule names for it. -/
def refuseWith (r : Reason) (d : ReplyData) (s : State) : State × Answer := (s, .refused r d)

/-- DONE with its data. -/
def done (d : ReplyData) (s : State) : State × Answer := (s, .done d)

/-- A REFUSED answer becomes the master's last refusal, whichever check gave it (R178). -/
def noteRefusal (m : Master) (code : Nat) (a : Answer) (s : State) : State :=
  match a with
  | .refused r _ => s.setContext m { s.context m with lastRefusal := some ⟨code, r, s.now⟩ }
  | .done _ | .accepted _ | .discarded _ _ | .late _ | .wait | .endOfView => s

/-- The reply frame, its marks taken from the master's context after the command has acted (R177). -/
def sendReply (m : Master) (a : Answer) (s : State) : State :=
  s.setReply (some ⟨m, a, (s.context m).attention != 0#16, (s.context m).attention.getLsbD 0⟩)

/-- Record a refusal and send the reply. -/
def respond (m : Master) (code : Nat) (r : State × Answer) : State := sendReply m r.2 (noteRefusal m code r.2 r.1)

/-- An event: it acts while the part has power, and no reply frame is sent. -/
def happen (f : State → State) (s : State) : Outcome := .next ((if s.powered then f s else s).setReply none)

end Sys2Proof.Machine
end

