-- ==== Sys2Proof/Machine/Operands.lean ====
section
/-! DEFINITION. Machine/Operands.lean: the command codes (R189), the classes each command is open to (R179), the
Port's check of a request (R176), and the range tests and defaults of the parameters. -/

namespace Sys2Proof

open Machine

/-- The command codes of R189. -/
def Command.code : Command → Nat
  | .defineLine => 1 | .defineStation => 2 | .defineReach => 3 | .defineSignaller => 4 | .defineTracking => 5
  | .defineTrap => 6 | .defineMaster => 7 | .readProfile => 8 | .decodeChainage => 9 | .readPig => 10
  | .cursorSet => 11 | .cursorRead => 12 | .setRatio => 13 | .writeOff => 14 | .confirm => 15 | .reportFlow => 16
  | .readFlow => 17 | .queryEta => 18 | .reportPassage => 19 | .readIntake => 20 | .resetFlag => 21
  | .setChannelMode => 22 | .readChannel => 23 | .setSignallerService => 24 | .assignPassage => 25
  | .discardPassage => 26 | .readMatching => 27 | .reportValve => 28 | .setHold => 29 | .releaseHold => 30
  | .clearHolds => 31 | .requestStroke => 32 | .strokeDone => 33 | .notifyForcedStroke => 34 | .readValve => 35
  | .setWatch => 36 | .acknowledgeWatch => 37 | .readWatch => 38 | .reportPressure => 39 | .trapStep => 40
  | .trapDone => 41 | .stagePig => 42 | .removePig => 43 | .recoverTrap => 44 | .readTrap => 45
  | .readAttention => 46 | .acknowledgeAttention => 47 | .setEnables => 48 | .setLineTime => 49 | .restart => 50

/-- The default drive ratio of each kind (R20). -/
def PigKind.defaultRatio : PigKind → Nat
  | .scraper => 950 | .brush => 900 | .foam => 850 | .sphere => 980 | .gauge => 950 | .bypass => 600

/-- Whether the trap has the parameter (R12). -/
def TrapParam.ofTrap : TrapId → TrapParam → Bool
  | .launch, .guardDistance => false
  | .launch, .barrelCapacity => false
  | .receive, .driveTime => false
  | .receive, .launchSpacing => false
  | .receive, .launchOverdueTime => false
  | _, _ => true

/-- The range of a trap parameter (R12). -/
def TrapParam.inRange : TrapParam → Nat → Bool
  | .openDoorTime, n | .closeDoorTime, n | .fillTime, n | .lineUpTime, n | .isolateTime, n | .ventTime, n
  | .driveTime, n => within 10 3600 n
  | .ventLimit, n => within 0 500 n
  | .equaliseBand, n => within 10 2000 n
  | .launchSpacing, n => within 0 50000 n
  | .launchOverdueTime, n => within 60 3600 n
  | .guardDistance, n => within 0 50000 n
  | .barrelCapacity, n => within 1 4 n

/-- The ranges of a pulse's widths, a pair's spacing and its interval (R14). -/
def ChannelArgs.inRange (x : ChannelArgs) : Bool :=
  optWithin 5 500 x.minWidth && optWithin 50 10000 x.maxWidth && optWithin 200 10000 x.spacing &&
    optWithin 100 30000 x.interval

/-- The range of a watch's threshold and hysteresis by its source (R137). -/
def WatchSource.limit : WatchSource → Nat
  | .distance => 50000
  | .eta => 36000

/-- One reading of a watched value is this many units of the threshold's: millimetres to the metre, seconds to the
second (R141). -/
def WatchSource.unit : WatchSource → Nat
  | .distance => 1000
  | .eta => 1

end Sys2Proof

namespace Sys2Proof.Machine

/-- Open to every class: the reads, the cursor and the attention commands (R179). -/
def openToAll : List Command :=
  [.readProfile, .decodeChainage, .readPig, .cursorSet, .cursorRead, .queryEta, .readFlow, .readIntake, .readChannel,
    .readMatching, .readValve, .readWatch, .readTrap, .readAttention, .acknowledgeAttention, .setEnables]

/-- What each class may use besides (the table of R179). -/
def openToClass : MasterClass → List Command
  | .none => []
  | .service => [.defineLine, .defineStation, .defineReach, .defineSignaller, .defineTracking, .defineTrap,
      .defineMaster, .setChannelMode, .setWatch, .restart]
  | .dispatch => [.setLineTime, .writeOff, .confirm, .setRatio, .assignPassage, .discardPassage,
      .setSignallerService, .setWatch, .acknowledgeWatch, .recoverTrap, .setHold, .releaseHold, .clearHolds,
      .notifyForcedStroke, .reportFlow, .resetFlag]
  | .link => [.reportPassage, .reportFlow, .reportValve, .reportPressure, .requestStroke, .strokeDone,
      .notifyForcedStroke, .setHold, .releaseHold, .stagePig, .removePig, .trapStep, .trapDone, .resetFlag]
  | .trap => [.reportPassage, .reportValve, .reportPressure, .requestStroke, .strokeDone, .stagePig, .removePig,
      .trapStep, .trapDone, .resetFlag]

/-- Whether a class may use a command. -/
def mayUse (c : MasterClass) (k : Command) : Bool := openToAll.contains k || (openToClass c).contains k

/-- A checked request (R176): refused CLASS where the caller's class, as its context holds it, may not use the
command; otherwise the command's own rule gives the outcome. A part without power takes no frame (R195). -/
def serve (m : Master) (k : Command) (body : State → State × Answer) (s : State) : Outcome :=
  if s.powered then
    if mayUse (s.context m).cls k then .next (respond m (k.code) (body s))
    else .next (respond m (k.code) (refuse .cls s))
  else .next (s.setReply none)

/-- The commands that R15 refuses STATE while the profile is incomplete begin so. -/
def whenComplete (body : State → State × Answer) (s : State) : State × Answer :=
  if s.profile.complete then body s else refuse .state s

/-- The profile commands and READ PROFILE are answered WAIT while the store is WRITING (R2). -/
def whenIdle (body : State → State × Answer) (s : State) : State × Answer :=
  if s.store.writing.isSome then (s, .wait) else body s

/-- Parameters that do not fit their layout are refused RANGE (R189). -/
def withParams {α : Type} (a : Carried α) (body : α → State → State × Answer) (s : State) : State × Answer :=
  match a with
  | none => refuse .range s
  | some x => body x s

/-- A chainage on the bus, 0 to 999,999 m. -/
def chainageOk (c : Nat) : Bool := c ≤ 999999

/-- Every write of a ratio is clamped into 100 to 1,000 (R20). -/
def clampRatio (r : Nat) : Nat := max 100 (min r 1000)

/-- The ratio and source that a ratio carried by a request gives: none or 0 the kind's default, LEARNT; any other
the value clamped, MANUAL (R23, R34). -/
def ratioFrom (k : PigKind) (r : Nat) : Nat × RatioSource :=
  if r = 0 then (clampRatio k.defaultRatio, .learnt) else (clampRatio r, .manual)

/-- Write a parameter both traps have. -/
def TrapCommon.put (c : TrapCommon) (p : TrapParam) (v : Nat) : TrapCommon :=
  match p with
  | .openDoorTime => { c with openDoorTime := v }
  | .closeDoorTime => { c with closeDoorTime := v }
  | .fillTime => { c with fillTime := v }
  | .lineUpTime => { c with lineUpTime := v }
  | .isolateTime => { c with isolateTime := v }
  | .ventTime => { c with ventTime := v }
  | .ventLimit => { c with ventLimit := v }
  | .equaliseBand => { c with equaliseBand := v }
  | .driveTime | .launchSpacing | .launchOverdueTime | .guardDistance | .barrelCapacity => c

/-- Write a parameter of the launch trap. -/
def LaunchItem.put (t : LaunchItem) (p : TrapParam) (v : Nat) : LaunchItem :=
  match p with
  | .driveTime => { t with driveTime := v }
  | .launchSpacing => { t with spacing := v }
  | .launchOverdueTime => { t with overdueTime := v }
  | _ => { t with common := t.common.put p v }

/-- Write a parameter of the receive trap. -/
def ReceiveItem.put (t : ReceiveItem) (p : TrapParam) (v : Nat) : ReceiveItem :=
  match p with
  | .guardDistance => { t with guardDistance := v }
  | .barrelCapacity => { t with capacity := v }
  | _ => { t with common := t.common.put p v }

/-- The profile with the pairs of a DEFINE TRAP taken in order. -/
def Profile.putTrap (p : Profile) (t : TrapId) (l : List (TrapParam × Nat)) : Profile :=
  match t with
  | .launch => { p with launch := l.foldl (fun i x => i.put x.1 x.2) p.launch }
  | .receive => { p with receive := l.foldl (fun i x => i.put x.1 x.2) p.receive }

/-- The parameters both traps have. -/
def Profile.trapCommon (p : Profile) : TrapId → TrapCommon
  | .launch => p.launch.common
  | .receive => p.receive.common

/-- The time of a step at a trap, in seconds (R12). DRIVE is a step of the launch trap. -/
def Profile.stepTime (p : Profile) (t : TrapId) : TrapStep → Nat
  | .openDoor => (p.trapCommon t).openDoorTime
  | .closeDoor => (p.trapCommon t).closeDoorTime
  | .fill => (p.trapCommon t).fillTime
  | .lineUp => (p.trapCommon t).lineUpTime
  | .drive => p.launch.driveTime
  | .isolate => (p.trapCommon t).isolateTime
  | .vent => (p.trapCommon t).ventTime

end Sys2Proof.Machine
end

