-- ==== Sys2Proof/Machine/Flags.lean ====
section
/-! DEFINITION. Machine/Flags.lean: the attention sets and lines (R181, R182), the hold sets and hold contacts
(R120, R133), and the flags of a pig (R28). -/

namespace Sys2Proof

/-- The bit of a kind in a set of kinds (R187). -/
def AttnKind.bit : AttnKind → Fin 16
  | .restarted => 0 | .passage => 1 | .overdue => 2 | .stalled => 3 | .orphan => 4 | .signallerFault => 5
  | .reportGap => 6 | .holdChange => 7 | .permitExpired => 8 | .forcedStroke => 9 | .trapEvent => 10
  | .approach => 11 | .flowStale => 12 | .launchOverdue => 13 | .barrelOverfill => 14 | .intakeFull => 15

/-- The set that holds one kind. -/
def AttnKind.mask (k : AttnKind) : AttnSet := BitVec.twoPow 16 k.bit.val

end Sys2Proof

namespace Sys2Proof.Machine

/-! ## Attention -/

/-- A master's line is asserted exactly while its attention set and enable set share a kind (R182). -/
def lineFor (attention enables : AttnSet) : Bool := attention &&& enables != 0#16

/-- A context whose attention set changes sets its line anew (R182). -/
def Context.attend (c : Context) (attention : AttnSet) : Context :=
  { c with attention := attention, line := lineFor attention c.enables }

/-- A context whose enable set changes sets its line anew (R182, R185). -/
def Context.enable (c : Context) (enables : AttnSet) : Context :=
  { c with enables := enables, line := lineFor c.attention enables }

/-- Post an attention kind (R181): every context takes it, and its detail entry takes the subject, the line time and
one more on its count. -/
def post (k : AttnKind) (subject : Option Subject) (s : State) : State :=
  s.setPort { s.port with
    contexts := s.port.contexts.mapIdx (fun _ c => c.attend (c.attention ||| k.mask))
    detail := s.port.detail.set k.bit ⟨subject, s.now, bump s.port.detail[k.bit].count⟩ }

/-- Post several kinds with one subject, in order. -/
def postAll (l : List AttnKind) (subject : Subject) (s : State) : State :=
  l.foldl (fun s k => post k (some subject) s) s

/-- The subject that a kind keeps after several postings at one moment, in an order that no rule states: one of the
subjects posted, the one that `choice` picks. -/
def keepSubject (k : AttnKind) (choice : Nat) (subjects : List Subject) (s : State) : State :=
  match subjects with
  | [] => s
  | x :: rest =>
    let kept := (x :: rest).getD (choice % (rest.length + 1)) x
    s.setPort { s.port with detail := s.port.detail.set k.bit { s.port.detail[k.bit] with subject := some kept } }

/-! ## Hold sets and hold contacts -/

/-- The member of a master. -/
def masterBit (m : Master) : HoldSet := BitVec.twoPow 7 m.val

/-- The member WATCH. -/
def watchBit : HoldSet := 0x40#7

/-- The manual holds of a set: its master members (R120). -/
def manualHolds (h : HoldSet) : HoldSet := h &&& 0x3F#7

/-- The number of members. -/
def holdCount (h : HoldSet) : Nat := (List.range 7).countP (fun i => h.getLsbD i)

/-- What a station's hold contact is set to (R133): energised while the part has power, line time is set, the
station is one of the line, and its hold set is empty. -/
def contactFor (s : State) (st : Fin 16) (h : HoldSet) : Bool :=
  s.powered && s.now.isSome && decide (st.val < s.profile.count) && h == 0#7

/-- Write one valve record. -/
def State.setValve (s : State) (st : Fin 16) (v : Valve) : State := s.setValves (s.valves.set st v)

/-- A change of a hold set's membership (R120): the contact is set anew, and HOLD_CHANGE is posted where the set
passes between empty and non-empty. -/
def changeHold (st : Fin 16) (h : HoldSet) (s : State) : State :=
  let v := s.valves[st]
  if h = v.hold then s
  else
    let s' := s.setValve st { v with hold := h, contact := contactFor s st h }
    if v.hold = 0#7 ∨ h = 0#7 then post .holdChange (some (.station st)) s' else s'

/-- Set every hold contact anew (R133). -/
def setContacts (s : State) : State :=
  s.setValves (s.valves.mapFinIdx (fun i v h => { v with contact := contactFor s ⟨i, h⟩ v.hold }))

/-! ## Pig flags -/

def PigFlags.none : PigFlags := ⟨false, false, false⟩

/-- A pig marked STRUCK (R132). -/
def Pig.strike (p : Pig) : Pig := { p with flags := { p.flags with struck := true } }

/-- A pig marked AGED (R55). -/
def Pig.age (p : Pig) : Pig := { p with flags := { p.flags with aged := true } }

end Sys2Proof.Machine
end

