-- ==== Sys2Proof/Machine/TrackOps.lean ====
section
/-! DEFINITION. Machine/TrackOps.lean: the arithmetic of position estimation: effective flow, fluid velocity,
limits, the step of one pig at one update, and the ETA (R42 to R59). -/

namespace Sys2Proof.Machine

/-! ## Flow (R42, R43, R48) -/

/-- The flow state that an entry's age gives at an update (R42). -/
def FlowEntry.judged (e : FlowEntry) (now timeout : Nat) : FlowState :=
  match e.reportTime with
  | none => .lapsed
  | some t =>
    if now - t ≤ tenths timeout then .fresh
    else if now - t ≤ 3 * tenths timeout then .stale
    else .lapsed

/-- The flow table entry of a reach index. -/
def State.flowAt (s : State) (r : Nat) : FlowEntry := (s.tracker.flows[r]?).getD FlowEntry.empty

/-- The cause named where a reach is LAPSED and a valve at one of its ends stands CLOSED: a free one of the two. -/
def bothCauses : ZeroCause := if Config.lapsedCauseFirst then .lapsed else .valveClosed

/-- The cause of a zero effective flow (R43, R44). -/
def zeroCause (s : State) (r : Nat) : Option ZeroCause :=
  let closed := s.valveClosed r || s.valveClosed (r + 1)
  if (s.flowAt r).state = .lapsed then some (if closed then bothCauses else .lapsed)
  else if closed then some .valveClosed
  else none

/-- The effective flow of a reach (R43). -/
def effectiveFlow (s : State) (r : Nat) : Nat :=
  match zeroCause s r with
  | some _ => 0
  | none => (s.flowAt r).flow

/-- The fluid velocity that a flow gives through an area, at most 15,000 mm/s (R48). -/
def fluidVelocity (flow area : Nat) : Nat := min (flow * 25000 / (9 * area)) 15000

/-- The fluid velocity in a reach (R48). -/
def velocityIn (s : State) (r : Nat) : Nat :=
  match s.profile.reach? r with
  | some rc => fluidVelocity (effectiveFlow s r) rc.area
  | none => 0

/-- The fluid velocity at a position in millimetres (R48, R57). -/
def velocityAt (s : State) (pos : Nat) : Nat :=
  match s.profile.reachAt pos with
  | some r => velocityIn s r
  | none => 0

/-- The pig speed (R49). -/
def pigSpeed (velocity ratio : Nat) : Nat := velocity * ratio / 1000

/-- The distance covered at a speed in mm/s over an interval in tenths (R50, R57, R97). -/
def travel (speed interval : Nat) : Nat := speed * interval / 10

/-! ## Limits (R51) -/

/-- The first signaller, in rising chainage, that is IN service and lies above a chainage in millimetres. -/
def nextSignaller (s : State) (above : Nat) : Option (Nat × Signaller) :=
  (List.range 32).findSome? (fun n =>
    match s.profile.signaller? n with
    | some g => if (s.runtime n).service = .inService ∧ above < g.chainage * 1000 then some (n, g) else none
    | none => none)

/-- The signaller limit that a signaller sets: its chainage plus its window, in millimetres. -/
def Signaller.limit (g : Signaller) : Nat := (g.chainage + g.window) * 1000

/-- The valve limit of a position: the lowest zone start at or above it of a station whose valve stands CLOSED. -/
def valveLimit (s : State) (pos : Nat) : Option Nat :=
  (List.range 16).foldl (fun best i =>
    match s.profile.station? i with
    | some st =>
      if s.valveClosed i ∧ (pos : Int) ≤ st.zoneStart then some (capAt st.zoneStart.toNat best) else best
    | none => best) none

/-! ## One pig at one update (R47 to R55) -/

/-- In-line statuses (R24). -/
def PigStatus.inLine : PigStatus → Bool
  | .running | .overdue | .stalled | .unverified => true
  | .staged | .arrived => false

/-- A pig's Δt at an update (R47). -/
def Pig.elapsed (p : Pig) (now : Nat) : Nat :=
  match p.estimate with
  | some t => now - t
  | none => 0

/-- The position is at or above a limit that may be absent. -/
def atLimit (pos : Nat) : Option Nat → Bool
  | none => false
  | some l => l ≤ pos

/-- The pig's next signaller (R51). -/
def Pig.next (p : Pig) (s : State) : Option (Nat × Signaller) :=
  match p.lastFix with
  | some f => nextSignaller s f.chainage
  | none => none

/-- Whether a pig moves at an update (R49): RUNNING, or OVERDUE and not at its clamp. -/
def Pig.moves (p : Pig) (limit : Option Nat) : Bool :=
  p.status = .running || (p.status = .overdue && !atLimit p.position limit)

/-- The new position (R52): the candidate cut to the limits that apply, and never backward. `ahead` is the position
that the pig ahead has just been given. -/
def advanced (s : State) (ahead limit : Option Nat) (p : Pig) (d : Nat) : Nat :=
  max p.position
    (min (capAt (capAt (capAt (p.position + d) limit) (valveLimit s p.position)) (ahead.map (· - 1000)))
      (s.profile.lineEnd * 1000))

/-- A fluid distance since fix saturates at 999,999,999 mm, whichever block writes it (2.1, R50). -/
def saturateFluid (d : Nat) : Nat := min d 999999999

/-- The fluid distance since fix after an update (R50). -/
def Pig.fluidAfter (p : Pig) (velocity elapsed : Nat) : Nat :=
  if p.status = .running ∨ p.status = .overdue then saturateFluid (p.fluid + travel velocity elapsed) else p.fluid

/-- The entry into OVERDUE (R53): the pig, and the kinds it posts. -/
def Pig.enterOverdue (p : Pig) (now : Nat) (next : Option (Nat × Signaller)) : Pig × List AttnKind :=
  match next with
  | some (n, g) =>
    if g.limit ≤ p.position ∧
        (p.status = .running ∨ (p.status = .overdue ∧ p.overdueAt.map (·.signaller) ≠ some n)) then
      ({ p with status := .overdue, overdueAt := some ⟨n, now⟩ }, [.overdue])
    else (p, [])
  | none => (p, [])

/-- The entry into STALLED (R54). -/
def Pig.enterStalled (s : State) (p : Pig) (now : Nat) : Pig × List AttnKind :=
  match p.overdueAt, (s.profile.reachAt p.position).bind s.profile.reach? with
  | some o, some rc =>
    if p.status = .overdue ∧ tenths rc.stallTime < now - o.since then ({ p with status := .stalled }, [.stalled])
    else (p, [])
  | _, _ => (p, [])

/-- The speed field after the step (R49). -/
def Pig.speedAfter (p : Pig) (limit : Option Nat) (v : Nat) : Nat :=
  if p.status = .stalled ∨ p.status = .unverified ∨ (p.status = .overdue ∧ atLimit p.position limit) then 0 else v

/-- The pig's reach is STALE or LAPSED (R55). -/
def flowAged (s : State) (pos : Nat) : Bool :=
  match s.profile.reachAt pos with
  | some r => (s.flowAt r).state != .fresh
  | none => false

/-- One pig at one update, and the kinds it posts (R47 to R55). -/
def treatPig (s : State) (now : Nat) (ahead : Option Nat) (p : Pig) : Pig × List AttnKind :=
  let next := p.next s
  let limit := next.map (fun n => n.2.limit)
  let v := velocityAt s p.position
  let speed := pigSpeed v p.ratio
  let dt := p.elapsed now
  let p1 := if flowAged s p.position then p.age else p
  let p2 := { p1 with
    position := advanced s ahead limit p (if p.moves limit then travel speed dt else 0)
    fluid := p.fluidAfter v dt
    estimate := some now }
  let (p3, posts3) := p2.enterOverdue now next
  let (p4, posts4) := Pig.enterStalled s p3 now
  ({ p4 with speed := p4.speedAfter limit speed }, posts3 ++ posts4)

/-- Every pig of the in-line list, from the head to the tail, each whole before the next (R46). -/
def treatPigs (s : State) (now : Nat) : Option Nat → List Pig → List (Pig × List AttnKind)
  | _, [] => []
  | ahead, p :: rest =>
    let r := treatPig s now ahead p
    r :: treatPigs s now (some r.1.position) rest

/-- Replace the in-line list. -/
def State.setInLine (s : State) (l : List Pig) : State := s.setRegister { s.register with inLine := l }

/-- Write one flow table entry. -/
def State.setFlow (s : State) (r : Fin 15) (e : FlowEntry) : State :=
  s.setTracker { s.tracker with flows := s.tracker.flows.set r e }

/-- The judgement of one reach at an update (R42); a reach that leaves FRESH posts FLOW_STALE. -/
def judgeFlow (now : Nat) (s : State) (r : Fin 15) : State :=
  match s.profile.reach? r with
  | none => s
  | some rc =>
    let e := s.tracker.flows[r]
    let judged := e.judged now rc.flowTimeout
    let s' := s.setFlow r { e with state := judged }
    if e.state = .fresh ∧ judged ≠ .fresh then post .flowStale (some (.station r)) s' else s'

/-- The judgement of every defined reach, in rising order (R42). -/
def judgeFlows (now : Nat) (s : State) : State := (List.finRange 15).foldl (judgeFlow now) s

/-- The pigs of an update, and what each posts, in order. -/
def advancePigs (now : Nat) (s : State) : State :=
  let treated := treatPigs s now none s.register.inLine
  treated.foldl (fun s r => postAll r.2 (.tag r.1.tag) s) (s.setInLine (treated.map (·.1)))

/-! ## ETA (R59) -/

/-- The ETA over a distance in millimetres at a speed in mm/s: NONE at speed 0, otherwise the quotient rounded up. -/
def etaOver (distance speed : Nat) : Option Nat :=
  if speed = 0 then none else some ((distance + speed - 1) / speed)

end Sys2Proof.Machine
end

