-- ==== Sys2Proof/Machine/WatchOps.lean ====
section
/-! DEFINITION. Machine/WatchOps.lean: what an approach watch sees, its judgement, its delays and its actions
(R139 to R148). -/

namespace Sys2Proof.Machine

/-- The configuration of a watch (R14). -/
def State.watchCfg (s : State) (st : Fin 16) : WatchCfg := s.profile.watches[st]

/-- The station of a watch, where its item is defined on the line (R139). -/
def State.watchStation (s : State) (st : Fin 16) : Option Station :=
  if st.val < s.profile.count then s.profile.station? st else none

/-- The watched pig (R140): the first in-line pig from the head that is not beyond the zone end. -/
def watchedPig (station : Station) (inLine : List Pig) : Option Pig :=
  inLine.find? (fun p => p.position ≤ station.zoneEnd)

/-- The value of a watched pig (R140): its distance to the valve, 0 at or beyond it, or the ETA over it. -/
def watchReading (src : WatchSource) (station : Station) (p : Pig) : WatchValue :=
  let d := station.chainage * 1000 - p.position
  match src with
  | .distance => .value d
  | .eta =>
    if d = 0 then .value 0
    else match etaOver d p.speed with
      | some t => .value t
      | none => .noValue

/-- The value of a watch at a judgement (R140). -/
def watchValue (src : WatchSource) (station : Station) (inLine : List Pig) : WatchValue :=
  match watchedPig station inLine with
  | some p => watchReading src station p
  | none => .noValue

/-- The make condition (R141). -/
def WatchCfg.makes (c : WatchCfg) : WatchValue → Bool
  | .noValue => false
  | .value n => n ≤ c.threshold * c.source.unit

/-- The break condition (R141). -/
def WatchCfg.breaks (c : WatchCfg) : WatchValue → Bool
  | .noValue => true
  | .value n => (c.threshold + c.hysteresis) * c.source.unit < n

/-- Where a watch goes when it breaks: LATCHED or CLEAR, by latch (R144, R145). -/
def WatchCfg.broken (c : WatchCfg) : WatchState := if c.latch then .latched else .clear

/-- What a judgement does to a watch: its state and delay after it, and whether it entered MADE (R143 to R146).
`first` is the unit's first judgement after a restart. -/
structure Verdict where
  state : WatchState
  delay : Option Delay
  made : Bool
deriving DecidableEq, Repr

/-- The judgement of a watch that is not to be OFF, from the value (R143, R144, R146). OFF is judged as CLEAR
(R139). -/
def WatchCfg.judge (c : WatchCfg) (first : Bool) (now : Nat) (w : Watch) (v : WatchValue) : Verdict :=
  match w.state with
  | .off | .clear =>
    if c.makes v then
      if first && c.startInhibit then ⟨.inhibited, none, false⟩
      else if c.makeDelay = 0 then ⟨.made, none, true⟩
      else ⟨.making, some ⟨now, addTime now (tenths c.makeDelay)⟩, false⟩
    else ⟨.clear, none, false⟩
  | .making => if c.makes v then ⟨.making, w.delay, false⟩ else ⟨.clear, none, false⟩
  | .made =>
    if c.breaks v then
      if c.breakDelay = 0 then ⟨c.broken, none, false⟩
      else ⟨.breaking, some ⟨now, addTime now (tenths c.breakDelay)⟩, false⟩
    else ⟨.made, none, false⟩
  | .breaking => if c.breaks v then ⟨.breaking, w.delay, false⟩ else ⟨.made, none, true⟩
  | .latched => if c.makes v then ⟨.made, none, true⟩ else ⟨.latched, none, false⟩
  | .inhibited => if c.breaks v then ⟨.clear, none, false⟩ else ⟨.inhibited, none, false⟩

/-- The states in which a watch with HOLD holds its valve (R147). -/
def WatchState.holds : WatchState → Bool
  | .made | .breaking | .latched | .inhibited => true
  | .off | .clear | .making => false

/-- Whether WATCH is to be a member of the station's hold set (R147). -/
def watchHolds (c : WatchCfg) (state : WatchState) : Bool := c.actions.hold && state.holds

/-- Write one watch. -/
def State.setWatch (s : State) (st : Fin 16) (w : Watch) : State :=
  s.setWatchUnit { s.watchUnit with watches := s.watchUnit.watches.set st w }

/-- The HOLD action (R147): add or withdraw WATCH to match the watch's state. -/
def applyHold (st : Fin 16) (s : State) : State :=
  let h := s.valves[st].hold
  changeHold st
    (if watchHolds (s.watchCfg st) s.watchUnit.watches[st].state then h ||| watchBit else manualHolds h) s

/-- The actions on entry to MADE besides HOLD: NOTIFY, then ARM_CHECK (R148). -/
def madeActions (st : Fin 16) (s : State) : State :=
  let a := (s.watchCfg st).actions
  let s1 := if a.notify then post .approach (some (.station st)) s else s
  if a.armCheck ∧ s1.traps.receive.state ≠ .linedUp then post .trapEvent (some (.trap .receive)) s1 else s1

/-- After a transition: the HOLD action, and on entry to MADE the other actions (R147, R148). -/
def settleWatch (st : Fin 16) (made : Bool) (s : State) : State :=
  let s1 := applyHold st s
  if made then madeActions st s1 else s1

/-- The watch must be OFF: it is disabled, or its station is undefined (R139). -/
def State.watchOff (s : State) (st : Fin 16) : Bool := !(s.watchCfg st).enabled || (s.watchStation st).isNone

/-- One watch judged whole: value, transition, then actions (R139 to R148). -/
def judgeWatch (first : Bool) (now : Nat) (s : State) (st : Fin 16) : State :=
  match s.watchStation st with
  | some station =>
    if (s.watchCfg st).enabled then
      let c := s.watchCfg st
      let v := watchValue c.source station s.register.inLine
      let verdict := c.judge first now s.watchUnit.watches[st] v
      settleWatch st verdict.made
        (s.setWatch st ⟨verdict.state, (watchedPig station s.register.inLine).map (·.tag), some v, verdict.delay,
          some now⟩)
    else settleWatch st false (s.setWatch st ⟨.off, none, none, none, some now⟩)
  | none => settleWatch st false (s.setWatch st ⟨.off, none, none, none, some now⟩)

/-- One re-evaluation of one watch, if line time is set (R138, R149). Start inhibit is not in play. -/
def judgeOne (st : Fin 16) (s : State) : State :=
  match s.now with
  | none => s
  | some now => judgeWatch false now s st

/-- Every watch judged in rising station index, if line time is set (R142); the first time after a restart it is
the first judgement that start inhibit waits for (R146). -/
def judgeAll (s : State) : State :=
  match s.now with
  | none => s
  | some now =>
    let s' := (List.finRange 16).foldl (judgeWatch s.watchUnit.firstPending now) s
    s'.setWatchUnit { s'.watchUnit with firstPending := false }

/-- The running out of a watch's make or break delay (R145). -/
def expireDelay (st : Fin 16) (s : State) : State :=
  let w := s.watchUnit.watches[st]
  match w.state with
  | .making => settleWatch st true (s.setWatch st { w with state := .made, delay := none })
  | .breaking => settleWatch st false (s.setWatch st { w with state := (s.watchCfg st).broken, delay := none })
  | _ => s

/-- Whether a delay in flight has reached its deadline. -/
def Watch.delayDue (w : Watch) (now : Nat) : Bool :=
  match w.delay with
  | some d => d.deadline ≤ now
  | none => false

/-- The runtime state a watch starts with (R138, R151): OFF when disabled or its station undefined, CLEAR otherwise. -/
def State.watchStart (s : State) (st : Fin 16) : Watch :=
  ⟨if s.watchOff st then .off else .clear, none, none, none, none⟩

/-- A write of a valve's position; one that changes it is handed to the approach watches (R118). -/
def writePosition (st : Fin 16) (pos : ValvePos) (s : State) : State :=
  let v := s.valves[st]
  if v.position = pos then s else judgeAll (s.setValve st { v with position := pos })

end Sys2Proof.Machine
end

