-- ==== Sys2Proof/Machine/FixOps.lean ====
section
/-! DEFINITION. Machine/FixOps.lean: which pig caused a passage, and what the passage does: a fix, a launch, an
arrival, or an entry of the unmatched list (R92 to R112). -/

namespace Sys2Proof.Machine

/-- A passage as the Fix Unit takes it: from the intake list (R93) or from the unmatched list (R112). -/
structure Passage where
  signaller : Nat
  sequence : Nat
  time : Nat
  speed : Option Nat
deriving DecidableEq, Repr

def IntakeEntry.passage (e : IntakeEntry) : Passage := ⟨e.signaller, e.sequence, e.time, e.speed⟩
def UnmatchedEntry.passage (e : UnmatchedEntry) : Passage := ⟨e.signaller, e.sequence, e.time, e.speed⟩

/-! ## The candidate (R94) -/

/-- An in-line pig not yet seen at or past a chainage in metres. -/
def unseenAt (chainage : Nat) (p : Pig) : Bool :=
  p.status.inLine &&
    match p.lastFix with
    | some f => f.chainage < chainage * 1000
    | none => false

/-- The candidate of a passage at a signaller at this moment (R94). -/
def candidate (s : State) (n : Nat) : Option Pig :=
  match s.profile.signaller? n with
  | none => none
  | some g =>
    if n = 0 then (if s.traps.launch.state = .driving then s.register.launchBarrel.head? else none)
    else if s.profile.isReceive n ∧ s.traps.receive.state ≠ .linedUp then none
    else s.register.inLine.find? (unseenAt g.chainage)

/-- The passage is earlier than the pig's last fix (R95). A staged pig has none. -/
def Pig.fixedAfter (p : Pig) (t : Nat) : Bool :=
  match p.lastFix with
  | some f => t < f.time
  | none => false

/-- A RUNNING pig below the window (R96). -/
def Pig.early (p : Pig) (g : Signaller) : Bool :=
  p.status = .running && p.position + g.window * 1000 < g.chainage * 1000

/-- Outcomes of a passage before it is applied (R93). -/
inductive Judgement | launch | fix (early : Bool) | unmatched (reason : UnmatchedReason)
deriving DecidableEq, Repr

/-- The judgement of a handed entry (R93 to R96, R105, R107). -/
def judgePassage (s : State) (x : Passage) : Judgement :=
  match s.profile.signaller? x.signaller, candidate s x.signaller with
  | some g, some p =>
    if x.signaller = 0 then .launch
    else if p.fixedAfter x.time then .unmatched .staleFix
    else if p.early g then
      match g.firmness with
      | .firm => .fix true
      | .soft => .unmatched .earlySoft
    else .fix false
  | _, _ => .unmatched .stray

/-! ## The fix (R97 to R104) -/

/-- The speed of the extrapolation: the measured one, or v_p from the ratio before learning. -/
def extrapolationSpeed (velocity ratio : Nat) : Option Nat → Nat
  | some v => v
  | none => pigSpeed velocity ratio

/-- The fluid that went past between the passage and the fix time, in millimetres (R98, R104, R106). The field that a
fix or a launch writes from it saturates. -/
def fluidSince (s : State) (now : Nat) (g : Signaller) (t : Nat) : Nat :=
  travel (velocityAt s (g.chainage * 1000)) (now - t)

/-- The position of a pig placed at a signaller: the least of the five of R97. `ahead` is the position of the pig
ahead. -/
def fixPosition (s : State) (now : Nat) (g : Signaller) (x : Passage) (ratio : Nat) (ahead : Option Nat) : Nat :=
  let v := extrapolationSpeed (velocityAt s (g.chainage * 1000)) ratio x.speed
  min
    (capAt
      (capAt
        (capAt (g.chainage * 1000 + travel v (now - x.time))
          ((nextSignaller s (g.chainage * 1000)).map (fun n => n.2.limit)))
        (valveLimit s (g.chainage * 1000)))
      (ahead.map (· - 1000)))
    (s.profile.lineEnd * 1000)

/-- The adjusted fluid distance (R104). -/
def adjustedFluid (s : State) (now : Nat) (g : Signaller) (t : Nat) (p : Pig) : Nat := p.fluid - fluidSince s now g t

/-- The observed distance, from the old last fix to the signaller, in millimetres (R104). -/
def observedDistance (g : Signaller) (p : Pig) : Nat :=
  match p.lastFix with
  | some f => g.chainage * 1000 - f.chainage
  | none => 0

/-- The learnt ratio: the quotient rounded half up and clamped (R104). -/
def learntRatio (observed adjusted : Nat) : Nat := clampRatio ((2 * (observed * 1000) + adjusted) / (2 * adjusted))

/-- The old and learnt ratios blended by the learning weight (R104). -/
def blend (old learnt weight : Nat) : Nat := (old * (16 - weight) + learnt * weight + 8) / 16

/-- Whether a fix teaches the ratio (R103). -/
def teaches (early : Bool) (adjusted : Nat) (p : Pig) : Bool :=
  p.source = .learnt && !early && p.status != .stalled && p.status != .unverified && adjusted != 0

/-- The ratio after a fix (R103, R104). -/
def ratioAfterFix (s : State) (now : Nat) (g : Signaller) (x : Passage) (early : Bool) (p : Pig) : Nat :=
  let adjusted := adjustedFluid s now g x.time p
  if teaches early adjusted p then
    clampRatio (blend p.ratio (learntRatio (observedDistance g p) adjusted) s.profile.tracking.weight)
  else p.ratio

/-- The record a fix writes (R98). -/
def fixedPig (s : State) (now : Nat) (g : Signaller) (x : Passage) (early : Bool) (ahead : Option Nat) (p : Pig) :
    Pig :=
  { p with
    error := some ((p.position : Int) - (g.chainage * 1000 : Nat))
    position := fixPosition s now g x p.ratio ahead
    lastFix := some ⟨x.signaller, g.chainage * 1000, x.time⟩
    status := .running
    overdueAt := none
    flags := { p.flags with aged := false, early := early }
    ratio := ratioAfterFix s now g x early p
    fluid := saturateFluid (fluidSince s now g x.time)
    estimate := some now }

/-- The pigs behind a placed pig, pushed back to keep the separation (R99). -/
def pushBack : Nat → List Pig → List Pig
  | _, [] => []
  | front, p :: rest =>
    if front - 1000 < p.position then { p with position := front - 1000 } :: pushBack (front - 1000) rest
    else p :: rest

/-- The in-line list with its candidate written and the pigs behind it pushed back. -/
def fixList (write : Option Nat → Pig → Pig) (isCandidate : Pig → Bool) : Option Nat → List Pig → List Pig
  | _, [] => []
  | ahead, p :: rest =>
    if isCandidate p then write ahead p :: pushBack (write ahead p).position rest
    else p :: fixList write isCandidate (some p.position) rest

/-- A passage counts at its own signaller (R100, R106). -/
def countPassage (n : Nat) (s : State) : State :=
  s.setRuntime n { s.runtime n with passages := bump (s.runtime n).passages, missed := 0 }

/-- One signaller is counted missed where it lies IN service strictly between two chainages in millimetres; at three
it is set OUT and SIGNALLER_FAULT is posted (R100). -/
def countMissed (lo hi : Nat) (s : State) (n : Nat) : State :=
  match s.profile.signaller? n with
  | none => s
  | some g =>
    let r := s.runtime n
    if r.service = .inService ∧ lo < g.chainage * 1000 ∧ g.chainage * 1000 < hi then
      if 3 ≤ r.missed + 1 then
        post .signallerFault (some (.signaller n)) (s.setRuntime n { r with missed := 3, service := .out })
      else s.setRuntime n { r with missed := r.missed + 1 }
    else s

/-- A signaller that a fix sets OUT: IN service, strictly between two chainages in millimetres, and missed for the third
time (R100). -/
def faultsAt (lo hi : Nat) (s : State) (n : Nat) : Bool :=
  match s.profile.signaller? n with
  | none => false
  | some g =>
    (s.runtime n).service = .inService && 3 ≤ (s.runtime n).missed + 1 && lo < g.chainage * 1000 && g.chainage * 1000 < hi

/-- SIGNALLER_FAULT keeps one of the signallers set OUT as its subject; which one is a free value (R100 states no
order). -/
def lastFaulted (faulted : List Nat) : State → State :=
  keepSubject .signallerFault (Config.faultedLast faulted) (faulted.map .signaller)

/-- The counts a fix makes at the signallers (R100). -/
def countFix (n : Nat) (g : Signaller) (p : Pig) (s : State) : State :=
  match p.lastFix with
  | some f =>
    let lo := f.chainage
    let hi := g.chainage * 1000
    lastFaulted ((List.range 32).filter (faultsAt lo hi s)) ((List.range 32).foldl (countMissed lo hi) (countPassage n s))
  | none => countPassage n s

/-- A fix: the record, the cascade, the counts, and PASSAGE (R97 to R101). The watches are handed it after the
arrival, where there is one. -/
def makeFix (now : Nat) (g : Signaller) (x : Passage) (early : Bool) (p : Pig) (s : State) : State :=
  post .passage (some (.tag p.tag))
    (countFix x.signaller g p
      (s.setInLine (fixList (fixedPig s now g x early) (unseenAt g.chainage) none s.register.inLine)))

/-- The record of an arrival (R108). -/
def arrivedPig (t : Nat) (p : Pig) : Pig :=
  { p with status := .arrived, arrivalTime := some t, speed := 0, estimate := none }

/-- The arrival that follows a fix at the receive signaller (R108). -/
def makeArrival (t tag : Nat) (s : State) : State :=
  match s.register.inLine.find? (fun p => p.tag == tag) with
  | none => s
  | some p =>
    let s' := s.setRegister { s.register with
      inLine := s.register.inLine.eraseP (fun p => p.tag == tag)
      receiveBarrel := s.register.receiveBarrel ++ [arrivedPig t p] }
    if s'.profile.receive.capacity < s'.register.receiveBarrel.length then
      post .barrelOverfill (some (.trap .receive)) s'
    else s'

/-! ## The launch (R106) -/

/-- The record a launch writes. `ahead` is the position of the tail before the launch. -/
def launchedPig (s : State) (now : Nat) (g : Signaller) (x : Passage) (ahead : Option Nat) (p : Pig) : Pig :=
  { p with
    status := .running
    launchTime := some x.time
    lastFix := some ⟨x.signaller, g.chainage * 1000, x.time⟩
    position := fixPosition s now g x p.ratio ahead
    fluid := saturateFluid (fluidSince s now g x.time)
    estimate := some now }

/-- The launch overdue deadline (R167). -/
def State.setLaunchOverdue (s : State) (d : Option Nat) : State := s.setTraps { s.traps with launchOverdue := d }

/-- The launch overdue deadline counted from a line time. -/
def launchDeadline (s : State) (t : Nat) : Nat := addTime t (tenths s.profile.launch.overdueTime)

/-- A launch (R106): the first staged record joins the tail of the in-line list. The watches are re-evaluated and the
launch overdue deadline is reset or cleared (R167). -/
def makeLaunch (now : Nat) (g : Signaller) (x : Passage) (p : Pig) (s : State) : State :=
  let launched := launchedPig s now g x (s.register.inLine.getLast?.map (·.position)) p
  let s1 := s.setRegister { s.register with
    inLine := s.register.inLine ++ [launched]
    launchBarrel := s.register.launchBarrel.tail }
  let s2 := judgeAll (post .passage (some (.tag p.tag)) (countPassage x.signaller s1))
  s2.setLaunchOverdue (if s2.register.launchBarrel.isEmpty then none else some (launchDeadline s2 now))

/-! ## Taking a passage (R93, R109, R112) -/

/-- A passage given to a pig: a launch at the launch signaller, a fix at any other, with the arrival at the receive
signaller. -/
def applyPassage (now : Nat) (g : Signaller) (x : Passage) (early : Bool) (p : Pig) (s : State) : State :=
  if x.signaller = 0 then makeLaunch now g x p s
  else
    let s1 := makeFix now g x early p s
    judgeAll (if s1.profile.isReceive x.signaller then makeArrival x.time p.tag s1 else s1)

/-- An entry of the unmatched list; the oldest of eight makes room for it. ORPHAN is posted (R109). -/
def noteUnmatched (now : Nat) (x : Passage) (r : UnmatchedReason) (s : State) : State :=
  let full := 8 ≤ s.fixUnit.unmatched.length
  let kept := if full then s.fixUnit.unmatched.tail else s.fixUnit.unmatched
  post .orphan (some (.signaller x.signaller))
    (s.setFixUnit
      ⟨kept ++ [⟨x.signaller, x.sequence, x.time, r, x.speed, now⟩],
        if full then bump s.fixUnit.dropped else s.fixUnit.dropped⟩)

/-- A handed entry, taken whole (R93). -/
def takeEntry (now : Nat) (x : Passage) (s : State) : State :=
  match judgePassage s x, s.profile.signaller? x.signaller, candidate s x.signaller with
  | .unmatched r, _, _ => noteUnmatched now x r s
  | .launch, some g, some p => applyPassage now g x false p s
  | .fix early, some g, some p => applyPassage now g x early p s
  | _, _, _ => noteUnmatched now x .stray s

end Sys2Proof.Machine
end

