-- ==== Sys2Proof/Machine/IntakeOps.lean ====
section
/-! DEFINITION. Machine/IntakeOps.lean: the judgement of a passage report, the intake list, and the handing of due
entries to the Fix Unit (R62 to R74). -/

namespace Sys2Proof.Machine

/-! ## Figures of a report (R66 to R68) -/

/-- How much newer a sequence number is than the last one; `none` where it is not newer (R66). -/
def newerBy (last : Option Nat) (seq : Nat) : Option Nat :=
  match last with
  | none => some 1
  | some m =>
    let d := (seq + 65536 - m) % 65536
    if within 1 32767 d then some d else none

/-- The event time lies more than the future tolerance after line time (R68). -/
def tooFarAhead (now time : Nat) : Bool := now + 50 < time

/-- The event time after the clamp (R68). -/
def clampedTime (now time : Nat) : Nat := if tooFarAhead now time then now else time

/-- The measured speed in range (R68). -/
def takenSpeed : Option Nat → Option Nat
  | none => none
  | some v => if v = 0 then none else some (min v 15000)

/-- The event time is stale (R67). -/
def isStale (now time : Nat) : Bool := time + 36000 < now

/-! ## The intake list (R62, R70, R71) -/

/-- The line time at which an entry becomes due (R71). -/
def dueTime (p : Profile) (e : IntakeEntry) : Nat := addTime e.time (tenths p.tracking.holdBack)

/-- Whether an entry is due. -/
def isDue (p : Profile) (now : Nat) (e : IntakeEntry) : Bool := dueTime p e ≤ now

/-- The list with an entry inserted after every entry at or below its event time (R70). -/
def insertEntry (e : IntakeEntry) : List IntakeEntry → List IntakeEntry
  | [] => [e]
  | x :: rest => if x.time ≤ e.time then x :: insertEntry e rest else e :: x :: rest

/-- The place at which an entry is inserted, counted from 1 (R70). -/
def placeOf (e : IntakeEntry) (l : List IntakeEntry) : Nat := (l.takeWhile (fun x => x.time ≤ e.time)).length + 1

/-- Replace the intake list. -/
def State.setEntries (s : State) (l : List IntakeEntry) : State := s.setIntake { s.intake with entries := l }

/-- Change the intake counts. -/
def State.countIntake (s : State) (f : IntakeCounts → IntakeCounts) : State :=
  s.setIntake { s.intake with counts := f s.intake.counts }

/-- Hand the first entry, where it is due, to the Fix Unit (R71). -/
def handFirst (now : Nat) (s : State) : State :=
  match s.intake.entries with
  | [] => s
  | e :: rest => if isDue s.profile now e then takeEntry now e.passage (s.setEntries rest) else s

/-- Hand at most `n` due entries from the front of the list, one after another. -/
def handDue (now : Nat) : Nat → State → State
  | 0, s => s
  | n + 1, s => handDue now n (handFirst now s)

/-! ## Taking a report (R64 to R70) -/

/-- What becomes of a report. -/
inductive Taken
  | outOfService
  | duplicate
  | stale
  | full
  | accepted (place : Nat) (handed : Bool) (left gap : Nat) (clamped : Bool)
deriving DecidableEq, Repr

/-- A newer report at an OUT signaller becomes the last sequence (R65). -/
def takeOutOfService (e : IntakeEntry) (s : State) : State :=
  let r := s.runtime e.signaller
  let s1 := s.countIntake (fun c => { c with outOfService := bump c.outOfService })
  match newerBy r.lastSequence e.sequence with
  | some _ => s1.setRuntime e.signaller { r with lastSequence := some e.sequence }
  | none => s1

/-- The last sequence of an accepted report, and its gap where it shows one (R66, R70). -/
def noteSequence (e : IntakeEntry) (diff : Nat) (s : State) : State :=
  let r := s.runtime e.signaller
  if 1 < diff then
    post .reportGap (some (.signaller e.signaller))
      (s.setRuntime e.signaller { r with lastSequence := some e.sequence, gaps := bump r.gaps })
  else s.setRuntime e.signaller { r with lastSequence := some e.sequence }

/-- The acceptance of a report whose figures are in range (R70). -/
def acceptReport (now : Nat) (e : IntakeEntry) (diff : Nat) (clamped : Bool) (s : State) : State × Taken :=
  let place := placeOf e s.intake.entries
  let due := isDue s.profile now e
  let s1 := noteSequence e diff s
  let s2 := (s1.setEntries (insertEntry e s1.intake.entries)).countIntake
    (fun c => { c with accepted := bump c.accepted })
  let s3 := if due then handDue now place s2 else s2
  (s3, .accepted place due s3.intake.entries.length (diff - 1) clamped)

/-- Checks 7 to 9 of a report, its figures first brought into range (R67 to R70). -/
def takeInService (now : Nat) (e : IntakeEntry) (diff : Nat) (s : State) : State × Taken :=
  let clamped := tooFarAhead now e.time
  let e' := { e with time := clampedTime now e.time, speed := takenSpeed e.speed }
  let s1 := if clamped then s.countIntake (fun c => { c with futureClamps := bump c.futureClamps }) else s
  if isStale now e'.time then (s1.countIntake (fun c => { c with stale := bump c.stale }), .stale)
  else if 24 ≤ s1.intake.entries.length then
    (post .intakeFull (some (.signaller e.signaller))
      (s1.countIntake (fun c => { c with overruns := bump c.overruns })), .full)
  else acceptReport now e' diff clamped s1

/-- An entry of the same signaller and sequence number waits in the list (R62). -/
def waitsFor (e : IntakeEntry) (l : List IntakeEntry) : Bool :=
  l.any (fun x => x.signaller == e.signaller && x.sequence == e.sequence)

/-- A report discarded DUPLICATE (R66). -/
def takeDuplicate (s : State) : State × Taken :=
  (s.countIntake (fun c => { c with duplicates := bump c.duplicates }), .duplicate)

/-- Checks 5 to 9 of a report, remote or local (R64, R74). A newer report whose signaller and sequence number are those
of a waiting entry is a DUPLICATE too: R62 allows no two such entries, and R64 names no other outcome that makes none
(DESIGN CHOICE, notes/assumptions/31.md). -/
def takeReport (now : Nat) (e : IntakeEntry) (s : State) : State × Taken :=
  if (s.runtime e.signaller).service = .out then (takeOutOfService e s, .outOfService)
  else
    match newerBy (s.runtime e.signaller).lastSequence e.sequence with
    | none => takeDuplicate s
    | some d => if waitsFor e s.intake.entries then takeDuplicate s else takeInService now e d s

/-- The sequence number given to a local report (R74). -/
def nextSequence : Option Nat → Nat
  | none => 0
  | some m => (m + 1) % 65536

/-- A local report for a channel's assigned signaller (R74). -/
def localReport (now : Nat) (c : Fin 8) (time : Nat) (speed : Option Nat) (s : State) : State :=
  match s.profile.channels[c].signaller with
  | none => s
  | some n => (takeReport now ⟨n, nextSequence (s.runtime n).lastSequence, time, speed, .channel c⟩ s).1

end Sys2Proof.Machine
end

