-- ==== Sys2Proof/Machine/Register.lean ====
section
/-! DEFINITION. Machine/Register.lean: the register's own operations and commands: the pig summary, the cursor, removal,
READ PIG, CURSOR SET, CURSOR READ, SET RATIO, WRITE OFF and CONFIRM (R19 to R36). -/

namespace Sys2Proof.Machine

/-! ## The view (R24, R29) -/

/-- The ordinal of a tag in the view, counted from 1. -/
def Register.ordinal (r : Register) (tag : Nat) : Nat := r.view.findIdx (fun p => p.tag == tag) + 1

/-- The part of the register that holds a tag. -/
def Register.part (r : Register) (tag : Nat) : RegisterPart :=
  if r.receiveBarrel.any (fun p => p.tag == tag) then .receiveBarrel
  else if r.inLine.any (fun p => p.tag == tag) then .inLine
  else .launchBarrel

/-- The pig summary (R29): positions, fluid distance and error in whole metres, truncated. -/
def pigSummary (r : Register) (p : Pig) : PigSummary where
  tag := p.tag
  kind := p.kind
  status := p.status
  ratio := p.ratio
  source := p.source
  part := r.part p.tag
  ordinal := r.ordinal p.tag
  records := r.size
  position := if p.status.inLine then some (p.position / 1000) else none
  speed := p.speed
  fluid := p.fluid / 1000
  lastFix := p.lastFix.map (fun f => { f with chainage := f.chainage / 1000 })
  overdueAt := p.overdueAt
  launchTime := p.launchTime
  arrivalTime := p.arrivalTime
  error := p.error.map (fun e => e.tdiv 1000)
  flags := p.flags

/-- The record of a tag, for a command that refuses tag 0 RANGE and an absent tag NO_SUCH. -/
def withPig (tag : Nat) (body : Pig → State → State × Answer) (s : State) : State × Answer :=
  if tag = 0 then refuse .range s
  else
    match s.register.find tag with
    | none => refuse .noSuch s
    | some p => body p s

/-- Write the record of a tag. -/
def Register.update (r : Register) (tag : Nat) (f : Pig → Pig) : Register :=
  let g := fun (p : Pig) => if p.tag = tag then f p else p
  { r with
    receiveBarrel := r.receiveBarrel.map g
    inLine := r.inLine.map g
    launchBarrel := r.launchBarrel.map g }

/-! ## Removal (R27, R33) -/

/-- The register without a tag. -/
def Register.remove (r : Register) (tag : Nat) : Register :=
  { r with
    receiveBarrel := r.receiveBarrel.filter (fun p => p.tag != tag)
    inLine := r.inLine.filter (fun p => p.tag != tag)
    launchBarrel := r.launchBarrel.filter (fun p => p.tag != tag) }

/-- A cursor on a removed tag becomes empty and keeps its mode (R33). -/
def Context.dropTag (c : Context) (tag : Nat) : Context :=
  if c.cursorTag = some tag then { c with cursorTag := none } else c

/-- A record is removed: its list, the cursors on it, then the watches (R27). -/
def removePig (tag : Nat) (s : State) : State :=
  let s1 := s.setRegister (s.register.remove tag)
  judgeAll (s1.setPort { s1.port with contexts := s1.port.contexts.mapIdx (fun _ c => c.dropTag tag) })

/-! ## READ PIG (R29) -/

def readPig (tag : Nat) : State → State × Answer :=
  withPig tag (fun p s => done (.pig (pigSummary s.register p)) s)

def execReadPig (m : Master) (a : Carried Nat) (s : State) : Outcome :=
  serve m .readPig (whenComplete (withParams a readPig)) s

/-! ## The cursor (R30 to R32) -/

/-- Write a master's cursor. -/
def setCursor (m : Master) (tag : Option Nat) (mode : CursorMode) (s : State) : State :=
  s.setContext m { s.context m with cursorTag := tag, cursorMode := mode }

/-- The tag a CURSOR SET without a tag takes (R31). -/
def Register.startTag (r : Register) : CursorMode → Option Nat
  | .towardLaunch => r.view.head?.map (·.tag)
  | .towardReceive => r.view.getLast?.map (·.tag)
  | .hold => none

def cursorSet (m : Master) (x : CursorArgs) (s : State) : State × Answer :=
  match x.tag with
  | some t =>
    withPig t (fun _ s => (setCursor m (some t) x.mode s, .done (.cursorTag (some t)))) s
  | none =>
    let t := s.register.startTag x.mode
    (setCursor m t x.mode s, .done (.cursorTag t))

def execCursorSet (m : Master) (a : Carried CursorArgs) (s : State) : Outcome :=
  serve m .cursorSet (whenComplete (withParams a (cursorSet m))) s

/-- Where a cursor moves from a tag at a read (R32). -/
def Register.stepCursor (r : Register) (tag : Nat) : CursorMode → Option Nat
  | .hold => some tag
  | .towardReceive => if r.ordinal tag = 1 then none else (r.view[r.ordinal tag - 2]?).map (·.tag)
  | .towardLaunch => (r.view[r.ordinal tag]?).map (·.tag)

/-- CURSOR READ with the cursor empty is answered END (R32). -/
def cursorRead (m : Master) (_ : Unit) (s : State) : State × Answer :=
  let c := s.context m
  match c.cursorTag.bind s.register.find with
  | none => (s, .endOfView)
  | some p =>
    (setCursor m (s.register.stepCursor p.tag c.cursorMode) c.cursorMode s, .done (.pig (pigSummary s.register p)))

def execCursorRead (m : Master) (a : Carried Unit) (s : State) : Outcome :=
  serve m .cursorRead (whenComplete (withParams a (cursorRead m))) s

/-! ## SET RATIO (R34) -/

def setRatio (x : RatioArgs) : State → State × Answer :=
  withPig x.tag (fun p s =>
    let held := ratioFrom p.kind x.ratio
    (s.setRegister (s.register.update x.tag (fun p => { p with ratio := held.1, source := held.2 })),
      .done (.ratioHeld held.1 held.2)))

def execSetRatio (m : Master) (a : Carried RatioArgs) (s : State) : Outcome :=
  serve m .setRatio (whenComplete (withParams a setRatio)) s

/-! ## WRITE OFF (R35) -/

def writeOff (tag : Nat) : State → State × Answer :=
  withPig tag (fun p s =>
    if p.status.inLine then (removePig tag s, .done .nothing) else refuse .state s)

def execWriteOff (m : Master) (a : Carried Nat) (s : State) : Outcome :=
  serve m .writeOff (whenComplete (withParams a writeOff)) s

/-! ## CONFIRM (R36) -/

/-- The positions of the pigs ahead of and behind a tag in the in-line list. -/
def neighbours (tag : Nat) : Option Nat → List Pig → Option Nat × Option Nat
  | _, [] => (none, none)
  | ahead, p :: rest =>
    if p.tag = tag then (ahead, rest.head?.map (·.position)) else neighbours tag (some p.position) rest

/-- The lower bound of a confirmed position. -/
def lowerBound : Option Nat → Nat
  | some behind => behind + 1000
  | none => 0

/-- The upper bound of a confirmed position. -/
def upperBound (s : State) (ahead : Option Nat) : Nat :=
  min ((ahead.map (· - 1000)).getD (s.profile.lineEnd * 1000)) (s.profile.lineEnd * 1000)

/-- The position a CONFIRM takes (R36). By R25 the lower bound never exceeds the upper one. In a list with a pig below
1,000 mm, where R25 cannot be kept, it may, and there the upper bound wins (DESIGN CHOICE, notes/assumptions/23.md). -/
def confirmedPosition (s : State) (tag chainage : Nat) : Nat :=
  let n := neighbours tag none s.register.inLine
  min (upperBound s n.1) (max (lowerBound n.2) (chainage * 1000))

/-- The record a CONFIRM writes; its estimate time is the line time of the write (R47). -/
def Pig.confirm (p : Pig) (position : Nat) (now : Option Nat) : Pig :=
  { p with position := position, status := .running, overdueAt := none, speed := 0, estimate := now }

def confirm (x : TagChainage) (s : State) : State × Answer :=
  if !chainageOk x.chainage then refuse .range s
  else
    withPig x.tag (fun p s =>
      if p.status = .stalled ∨ p.status = .unverified then
        let pos := confirmedPosition s x.tag x.chainage
        (s.setRegister (s.register.update x.tag (fun p => p.confirm pos s.now)),
          .done (.placed (pos / 1000) (pos != x.chainage * 1000)))
      else refuse .state s) s

def execConfirm (m : Master) (a : Carried TagChainage) (s : State) : Outcome :=
  serve m .confirm (whenComplete (withParams a confirm)) s

end Sys2Proof.Machine
end

