-- ==== Sys2Proof/Machine/Tracker.lean ====
section
/-! DEFINITION. Machine/Tracker.lean: REPORT FLOW, READ FLOW, QUERY ETA and the update of the position tracker (R40 to
R59). -/

namespace Sys2Proof.Machine

/-- A command refused TIME_UNSET while line time is unset begins so (R190). -/
def whenTime (body : Nat → State → State × Answer) (s : State) : State × Answer :=
  match s.now with
  | none => refuse .timeUnset s
  | some now => body now s

/-- A reach index of a request, below the station count less one. -/
def Profile.reachIndex (p : Profile) (n : Nat) : Option (Fin 15) :=
  if h : n < 15 then if n < p.count - 1 then some ⟨n, h⟩ else none else none

/-! ## REPORT FLOW (R41) -/

def reportFlow (x : FlowArgs) (now : Nat) (s : State) : State × Answer :=
  match s.profile.reachIndex x.reach with
  | none => refuse .range s
  | some r =>
    let flow := if x.reverse then 0 else x.flow
    (s.setFlow r ⟨flow, x.reverse, some now, .fresh⟩, .done (.flowTaken flow s.tracker.flows[r].state))

def execReportFlow (m : Master) (a : Carried FlowArgs) (s : State) : Outcome :=
  serve m .reportFlow (whenComplete (whenTime (fun now => withParams a (fun x => reportFlow x now)))) s

/-! ## READ FLOW (R44) -/

/-- The flow states of the defined reaches, in rising order. -/
def flowStates (s : State) : List FlowState :=
  ((List.range 15).filter (fun r => (s.profile.reach? r).isSome)).map (fun r => (s.flowAt r).state)

/-- The last update time that READ FLOW gives is the timer's own: from the timer's start until its first update, the line
time of the start (R45, R61; DEDUCED, notes/assumptions/37.md). -/
def readFlow (x : Option Nat) (s : State) : State × Answer :=
  match x with
  | none =>
    done (.trackerSummary s.tracker.running s.profile.tracking.period s.tracker.lastUpdate s.tracker.deadline
      s.register.inLine.length (flowStates s)) s
  | some n =>
    match s.profile.reachIndex n with
    | none => refuse .range s
    | some r =>
      done (.flowEntry s.tracker.flows[r] (effectiveFlow s n) (zeroCause s n)
        (((s.profile.reach? n).map (·.area)).getD 0) (velocityIn s n)) s

def execReadFlow (m : Master) (a : Carried (Option Nat)) (s : State) : Outcome :=
  serve m .readFlow (whenComplete (withParams a readFlow)) s

/-! ## QUERY ETA (R58) -/

def queryEta (x : TagChainage) (s : State) : State × Answer :=
  if !chainageOk x.chainage then refuse .range s
  else
    withPig x.tag (fun p s =>
      let target := min x.chainage s.profile.lineEnd
      if !p.status.inLine then refuse .state s
      else if target * 1000 < p.position then refuse .range s
      else
        let d := target * 1000 - p.position
        done (.eta (etaOver d p.speed) (d / 1000) p.speed target (s.profile.lineEnd < x.chainage) p.status) s) s

def execQueryEta (m : Master) (a : Carried TagChainage) (s : State) : Outcome :=
  serve m .queryEta (whenComplete (withParams a queryEta)) s

/-! ## The update (R45, R46) -/

/-- The deadline after an update: none at the last value of the count (R45). -/
def nextDeadline (p : Profile) (now : Nat) : Option Nat :=
  if now = maxTime then none else some (addTime now (tenths p.tracking.period))

/-- One update: the reaches, the pigs, the last update time and the next deadline, then the watches (R46). -/
def trackerUpdate (now : Nat) (s : State) : State :=
  let s1 := advancePigs now (judgeFlows now s)
  judgeAll (s1.setTracker { s1.tracker with lastUpdate := some now, deadline := nextDeadline s1.profile now })

/-- A deadline that may be absent has been reached. -/
def reached (now : Nat) : Option Nat → Bool
  | some d => d ≤ now
  | none => false

/-- The update timer has expired. -/
def updateDue (now : Nat) (s : State) : Bool := s.tracker.running && reached now s.tracker.deadline

/-- What comes about while line time is set. -/
def timed (f : Nat → State → State) (s : State) : State :=
  match s.now with
  | none => s
  | some now => f now s

def execTrackerUpdate (s : State) : Outcome :=
  happen (timed (fun now s => if updateDue now s then trackerUpdate now s else s)) s

end Sys2Proof.Machine
end

