-- ==== Sys2Proof/Machine/Intake.lean ====
section
/-! DEFINITION. Machine/Intake.lean: REPORT PASSAGE, READ INTAKE and the entry that becomes due (R64, R71, R75). -/

namespace Sys2Proof.Machine

/-- The answer to a report that reached the checks of its signaller (R64 to R70). `last` is the last sequence held
after it. -/
def takenAnswer (last : Nat) : Taken → Answer
  | .outOfService => .discarded .outOfService (.lastSequence last)
  | .duplicate => .discarded .duplicate (.lastSequence last)
  | .stale => .refused .stale .nothing
  | .full => .refused .full .nothing
  | .accepted place handed left gap clamped => .accepted (.accepted place handed left gap clamped)

/-- Checks 3 to 9 of a remote report (R64). -/
def reportPassage (m : Master) (x : PassageArgs) (now : Nat) (s : State) : State × Answer :=
  if 31 < x.signaller then refuse .range s
  else
    match s.profile.signaller? x.signaller with
    | none => refuse .noSuch s
    | some g =>
      match g.source with
      | .localInput => refuse .state s
      | .remote =>
        let r := takeReport now ⟨x.signaller, x.sequence, x.time, x.speed, .master m⟩ s
        (r.1, takenAnswer (((r.1.runtime x.signaller).lastSequence).getD 0) r.2)

def execReportPassage (m : Master) (a : Carried PassageArgs) (s : State) : Outcome :=
  serve m .reportPassage (whenComplete (whenTime (fun now => withParams a (fun x => reportPassage m x now)))) s

/-- An index k of a list, counted from 1, of at most `limit` places. -/
def readPlace {α : Type} (l : List α) (limit k : Nat) (f : α → ReplyData) (s : State) : State × Answer :=
  if within 1 limit k then
    match l[k - 1]? with
    | some x => done (f x) s
    | none => refuse .noSuch s
  else refuse .range s

def readIntake (sel : IntakeSel) (s : State) : State × Answer :=
  match sel with
  | .summary =>
    done (.intakeSummary s.intake.entries.length (s.intake.entries.head?.map (·.time)) s.profile.tracking.holdBack
      s.intake.counts) s
  | .entry k => readPlace s.intake.entries 24 k (fun e => .intakeEntry e (dueTime s.profile e)) s
  | .signaller n =>
    if 31 < n then refuse .range s
    else if (s.profile.signaller? n).isNone then refuse .noSuch s
    else
      done (.sequenceState (s.runtime n).lastSequence (s.runtime n).gaps
        (s.intake.entries.countP (fun e => e.signaller == n))) s

def execReadIntake (m : Master) (a : Carried IntakeSel) (s : State) : Outcome :=
  serve m .readIntake (whenComplete (withParams a readIntake)) s

def execEntryDue (s : State) : Outcome := happen (timed handFirst) s

end Sys2Proof.Machine
end

