-- ==== Sys2Proof/Machine/ChannelOps.lean ====
section
/-! DEFINITION. Machine/ChannelOps.lean: the local channels: their inputs, arming, and the judgement of edges and of
timings that run out (R78 to R89). -/

namespace Sys2Proof.Machine

/-- The configuration of a channel (R14). -/
def State.chanCfg (s : State) (c : Fin 8) : ChanCfg := s.profile.channels[c]

/-- The record of a channel (R78). -/
def State.channel (s : State) (c : Fin 8) : Channel := s.inputUnit.channels[c]

def State.setChannel (s : State) (c : Fin 8) (x : Channel) : State :=
  s.setInputUnit { s.inputUnit with channels := s.inputUnit.channels.set c x }

/-- The level of an input; numbers above 7 name none. -/
def State.input (s : State) (n : Nat) : Bool := (s.inputUnit.inputs[n]?).getD false

/-- An input takes a level at a reading of the millisecond timer. `pair` says that an edge of a pair sets it. -/
def setLevel (n : Nat) (level pair : Bool) (ms : Nat) (s : State) : State :=
  s.setInputUnit { s.inputUnit with
    inputs := s.inputUnit.inputs.setIfInBounds n level
    pairEdge := s.inputUnit.pairEdge.setIfInBounds n pair
    msTimer := max s.inputUnit.msTimer ms }

/-- The millisecond timer reads `ms`. -/
def tickTo (ms : Nat) (s : State) : State :=
  s.setInputUnit { s.inputUnit with msTimer := max s.inputUnit.msTimer ms }

/-- An input may go active: it reads inactive, or it was last set by an edge of a pair, after which it goes inactive
unseen (notes/assumptions/13.md). -/
def State.mayRise (s : State) (n : Nat) : Bool := !s.input n || (s.inputUnit.pairEdge[n]?).getD false

/-- An input goes inactive: it takes its level whether or not the part has power, and a part with power judges it. -/
def falling (n : Nat) (ms : Nat) (f : State → State) (s : State) : Outcome :=
  .next ((if s.powered then f (setLevel n false false ms s) else setLevel n false false 0 s).setReply none)

/-- An input goes active. Only a change from inactive to active is a leading edge (R79): an input that is active already
starts nothing. -/
def rising (n : Nat) (pair : Bool) (ms : Nat) (f : State → State) (s : State) : Outcome :=
  .next ((if s.powered then (if s.mayRise n then f (setLevel n true pair ms s) else tickTo ms s)
    else if s.mayRise n then setLevel n true pair 0 s else s).setReply none)

/-! ## Arming and restarting (R79, R89, R91) -/

/-- The state a channel is armed in: IDLE for mode OFF, TRIPPED for a closed contact, ARMED otherwise. -/
def armedState (mode : ChanMode) (input : Bool) : ChanState :=
  match mode with
  | .off => .idle
  | .contact => if input then .tripped else .armed
  | .pulse | .pair => .armed

/-- A record as its channel is armed. -/
def Channel.arm (x : Channel) (mode : ChanMode) (input : Bool) : Channel :=
  { x with state := armedState mode input, flight := none }

/-- Every channel armed (R79). -/
def armAll (s : State) : State :=
  s.setInputUnit { s.inputUnit with
    channels := s.inputUnit.channels.mapFinIdx (fun i x h =>
      x.arm (s.chanCfg ⟨i, h⟩).mode (s.input i)) }

/-- A channel whose mode or assigned signaller changed starts anew (R89). -/
def restartChannel (c : Fin 8) (s : State) : State :=
  s.setChannel c
    (if s.now.isSome then Channel.idle.arm (s.chanCfg c).mode (s.input c) else Channel.idle)

/-! ## Judging -/

/-- Milliseconds since the edge that started a timing. -/
def Flight.elapsed (f : Flight) (ms : Nat) : Nat := ms - f.ms

/-- The edge starts a timing: the channel is MEASURING from this reading and line time (R80, R82, R84). -/
def beginMeasuring (c : Fin 8) (ms now : Nat) (s : State) : State :=
  s.setChannel c { s.channel c with state := .measuring, flight := some ⟨ms, now⟩ }

/-- A leading edge on a channel of a mode: where it is ARMED and line time is set, it becomes MEASURING. -/
def leadingEdge (mode : ChanMode) (c : Fin 8) (ms : Nat) (s : State) : State :=
  match s.now with
  | none => s
  | some now =>
    if (s.chanCfg c).mode = mode ∧ (s.channel c).state = .armed then beginMeasuring c ms now s else s

/-- A passage: the channel takes its new record, and a local report is handed (R74). -/
def detect (c : Fin 8) (x : Channel) (now time : Nat) (speed : Option Nat) (s : State) : State :=
  localReport now c time speed (s.setChannel c { x with lastDetection := some time, flight := none })

/-- A contact closed for 50 ms (R80): a passage at the closure start. -/
def closure (c : Fin 8) (f : Flight) (now : Nat) (s : State) : State :=
  detect c { s.channel c with state := .tripped } now f.time none s

/-- The timing of a channel of a mode that is MEASURING, and line time. -/
def measuring (mode : ChanMode) (c : Fin 8) (s : State) : Option (Flight × Nat) :=
  match s.now, (s.channel c).flight with
  | some now, some f =>
    if (s.chanCfg c).mode = mode ∧ (s.channel c).state = .measuring then some (f, now) else none
  | _, _ => none

/-- A contact opens (R80): before 50 ms it was noise; from 50 ms on the closure had been made. -/
def contactOpens (c : Fin 8) (ms : Nat) (s : State) : State :=
  match measuring .contact c s with
  | none => s
  | some (f, now) =>
    if f.elapsed ms < 50 then
      let x := s.channel c
      s.setChannel c { x with state := .armed, noise := bump x.noise, flight := none }
    else closure c f now s

/-- A contact has read closed since its leading edge (R80). -/
def contactHeld (c : Fin 8) (ms : Nat) (s : State) : State :=
  match measuring .contact c s with
  | none => s
  | some (f, now) => if 50 ≤ f.elapsed ms then closure c f now s else s

/-- The width of a pulse as the last measurement holds it. -/
def pulseMeasured (w : Nat) : Option Measurement := some (.pulse (min w 65535))

/-- A pulse ends while MEASURING (R82); one wider than the maximum had already become a fault (R83). -/
def pulseEnds (c : Fin 8) (w now : Nat) (s : State) : State :=
  let x := s.channel c
  let cfg := s.chanCfg c
  let x' := { x with state := .armed, measurement := pulseMeasured w, flight := none }
  if w < cfg.minWidth then s.setChannel c { x' with noise := bump x.noise }
  else if w ≤ cfg.maxWidth then detect c x' now (now - w / 200) none s
  else s.setChannel c { x' with faults := bump x.faults }

/-- The input of a FAULT channel goes inactive (R83). -/
def faultEnds (c : Fin 8) (w : Nat) (s : State) : State :=
  s.setChannel c { s.channel c with state := .armed, measurement := pulseMeasured w, flight := none }

/-- The input of a PULSE channel goes inactive (R82, R83). -/
def pulseInactive (c : Fin 8) (ms : Nat) (s : State) : State :=
  match measuring .pulse c s with
  | some (f, now) => pulseEnds c (f.elapsed ms) now s
  | none =>
    match (s.channel c).flight with
    | some f =>
      if (s.chanCfg c).mode = .pulse ∧ (s.channel c).state = .fault then faultEnds c (f.elapsed ms) s else s
    | none => s

/-- A pulse still active past the maximum width (R83). The timing runs on, for the whole width. -/
def pulseTooLong (c : Fin 8) (ms : Nat) (s : State) : State :=
  match measuring .pulse c s with
  | none => s
  | some (f, _) =>
    let x := s.channel c
    if (s.chanCfg c).maxWidth < f.elapsed ms then s.setChannel c { x with state := .fault, faults := bump x.faults }
    else s

/-- A pair that ended without a B edge (R86): a passage at the A edge, without speed. -/
def pairEndsIncomplete (c : Fin 8) (f : Flight) (now : Nat) (s : State) : State :=
  let x := s.channel c
  detect c { x with state := .armed, incomplete := bump x.incomplete } now f.time none s

/-- A completed pair (R85). -/
def pairCompletes (c : Fin 8) (f : Flight) (ms now : Nat) (s : State) : State :=
  let i := max 1 (f.elapsed ms)
  let speed := (s.chanCfg c).spacing * 1000 / i
  detect c { s.channel c with state := .armed, measurement := some (.pair i speed) } now now (some speed) s

/-- A PAIR channel whose maximum interval, counted from its edge, has run out by `overrun` or more: a pair in flight
ends incomplete (R86), a GUARD returns to ARMED (R87). -/
def pairRunsOut (overrun : Nat) (c : Fin 8) (ms : Nat) (s : State) : State :=
  match measuring .pair c s with
  | some (f, now) =>
    if (s.chanCfg c).interval + overrun ≤ f.elapsed ms then pairEndsIncomplete c f now s else s
  | none => s

/-- The GUARD of a PAIR channel, run out by `overrun` or more (R87). -/
def guardRunsOut (overrun : Nat) (c : Fin 8) (ms : Nat) (s : State) : State :=
  let x := s.channel c
  match x.flight with
  | some f =>
    if (s.chanCfg c).mode = .pair ∧ x.state = .guard ∧ (s.chanCfg c).interval + overrun ≤ f.elapsed ms then
      s.setChannel c { x with state := .armed, flight := none }
    else s
  | none => s

/-- A leading edge on B (R85, R87). -/
def pairSeesB (c : Fin 8) (ms : Nat) (s : State) : State :=
  match measuring .pair c s with
  | some (f, now) => pairCompletes c f ms now s
  | none =>
    let x := s.channel c
    match s.now with
    | none => s
    | some now =>
      if (s.chanCfg c).mode = .pair ∧ x.state = .armed then
        s.setChannel c { x with state := .guard, reverse := bump x.reverse, flight := some ⟨ms, now⟩ }
      else s

/-- A timing whose maximum interval ran out before this reading is settled before an edge is judged (R86, R87). -/
def settlePair (c : Fin 8) (ms : Nat) (s : State) : State := guardRunsOut 1 c ms (pairRunsOut 1 c ms s)

end Sys2Proof.Machine
end

