-- ==== Sys2Proof/Machine/Profile.lean ====
section
/-! DEFINITION. Machine/Profile.lean: the profile commands of the line, its stations, reaches, signallers, tracking,
traps and masters, READ PROFILE, DECODE CHAINAGE, and the end of a store write (R1 to R18). -/

namespace Sys2Proof.Machine

/-! ## Taking a profile command (R1, R2) -/

/-- The image in a slot. -/
def ProfileStore.image (x : ProfileStore) : Slot → Image
  | .first => x.firstImage
  | .second => x.secondImage

def ProfileStore.setImage (x : ProfileStore) (slot : Slot) (i : Image) : ProfileStore :=
  match slot with
  | .first => { x with firstImage := i }
  | .second => { x with secondImage := i }

/-- The image that a write fills: the one that is not current, or the first where neither is (R1). -/
def ProfileStore.target (x : ProfileStore) : Slot :=
  match x.currentImage with
  | some .first => .second
  | some .second => .first
  | none => .first

/-- The write count of the current image, 0 when there is none (R16). -/
def ProfileStore.count (x : ProfileStore) : Nat :=
  match x.currentImage with
  | some c => (x.image c).writeCount
  | none => 0

/-- A store write begins: the whole running copy goes into the target image under a count one above the current one
(R1, R2). Until the write completes the image fails its check (R17). -/
def ProfileStore.startWrite (x : ProfileStore) : ProfileStore :=
  { x.setImage x.target ⟨x.count + 1, false, x.running⟩ with writing := some x.target }

/-- A profile command is taken: the running copy changes at once and a store write begins (R1, R2). The geometry mark
is rewritten when a geometry field is taken (R193). -/
def takeProfile (p : Profile) (s : State) : State :=
  let s' := s.setStore ({ s.store with running := p } : ProfileStore).startWrite
  if geometryOf p = geometryOf s.profile then s' else s'.setGeometryMark (geometryOf p)

/-- The checks 4 to 8 of R3 over the profile that the command would make, and what the command does besides, where it
is taken. `conflict` and `breaks` are checks 6 and 7. -/
def judgeProfile (p : Profile) (conflict breaks : Bool) (after : State → State) (s : State) : State × Answer :=
  if p = s.profile then done .nothing s
  else if geometryOf p ≠ geometryOf s.profile ∧ s.register.locked then refuse .locked s
  else if conflict then refuse .state s
  else if breaks then refuse .range s
  else done .nothing (after (takeProfile p s))

/-! ## DEFINE LINE (R5) -/

/-- A channel has a mode other than OFF. -/
def Profile.channelInUse (p : Profile) : Bool := p.channels.toList.any (fun c => c.mode != .off)

/-- The profile with a changed line: no station, reach or signaller is defined (R5). -/
def Profile.withLine (p : Profile) (d : LineDef) : Profile :=
  { p with
    line := some d
    stations := Vector.replicate 16 none
    reaches := Vector.replicate 15 none
    signallers := Vector.replicate 32 none }

/-- A watch whose station has become undefined (R139). -/
def Watch.toOff (w : Watch) : Watch := { Watch.off with lastJudged := w.lastJudged }

/-- What a changed line does besides: the signallers' runtime records (R9), the flow table (R40), the intake list
(R73), the unmatched list (R110), the valve records and contacts (R117, R133), and the watches (R139). -/
def clearLine (s : State) : State :=
  setContacts
    (((((((s.setSignallers (Vector.replicate 32 SigRuntime.fresh)).setTracker
      { s.tracker with flows := Vector.replicate 15 FlowEntry.empty }).setIntake
      { s.intake with entries := [] }).setFixUnit
      { s.fixUnit with unmatched := [] }).setValves
      (Vector.replicate 16 Valve.fresh)).setWatchUnit
      { s.watchUnit with watches := s.watchUnit.watches.mapIdx (fun _ w => w.toOff) }))

def defineLine (x : LineArgs) (s : State) : State × Answer :=
  if !(within 2 16 x.count && within 1000 999999 x.lineEnd) then refuse .range s
  else if s.profile.line = some ⟨x.count, x.lineEnd⟩ then done .nothing s
  else
    judgeProfile (s.profile.withLine ⟨x.count, x.lineEnd⟩) (s.profile.line.isSome && s.profile.channelInUse) false
      clearLine s

def execDefineLine (m : Master) (a : Carried LineArgs) (s : State) : Outcome :=
  serve m .defineLine (whenIdle (withParams a defineLine)) s

/-! ## DEFINE STATION (R6, R7) -/

/-- The nearest defined item below an index. -/
def nearestBelow {α : Type} (f : Nat → Option α) (n : Nat) : Option α := (List.range n).reverse.findSome? f

/-- The nearest defined item above an index, of those below `count`. -/
def nearestAbove {α : Type} (f : Nat → Option α) (n count : Nat) : Option α :=
  (List.range count).findSome? (fun i => if n < i then f i else none)

/-- The place of a station: 0 for the first, L for the last, strictly between for any other (R6). -/
def Profile.stationPlaceOk (p : Profile) (index chainage : Nat) : Bool :=
  if index = 0 then chainage == 0
  else if index + 1 = p.count then chainage == p.lineEnd
  else 0 < chainage && chainage < p.lineEnd

/-- Two neighbouring stations lie at least 500 m apart and their zones do not touch (R7). -/
def apart (lower upper : Station) : Bool :=
  lower.chainage + 500 ≤ upper.chainage &&
    lower.chainage + (lower.halfWidth + upper.halfWidth) < upper.chainage

/-- The tests of a station against its nearest defined neighbours (R7). -/
def Profile.stationFits (p : Profile) (index : Nat) (st : Station) : Bool :=
  (nearestBelow p.station? index).all (fun l => apart l st) &&
    (nearestAbove p.station? index p.count).all (fun u => apart st u)

/-- The station a DEFINE STATION would make (R6). -/
def stationFrom (x : StationArgs) (held : Option Station) : Station :=
  ⟨x.chainage, x.halfWidth.getD ((held.map (·.halfWidth)).getD 200),
    x.strokeTime.getD ((held.map (·.strokeTime)).getD 60)⟩

def Profile.setStation (p : Profile) (i : Nat) (st : Station) : Profile :=
  { p with stations := p.stations.setIfInBounds i (some st) }

def defineStation (x : StationArgs) (s : State) : State × Answer :=
  if !(x.index < s.profile.count && chainageOk x.chainage && optWithin 5 2000 x.halfWidth &&
      optWithin 5 600 x.strokeTime) then refuse .range s
  else
    let st := stationFrom x (s.profile.station? x.index)
    let moved := (s.profile.station? x.index).map (fun h => (h.chainage, h.halfWidth)) ≠ some (st.chainage, st.halfWidth)
    judgeProfile (s.profile.setStation x.index st) false
      (moved && !(s.profile.stationPlaceOk x.index st.chainage && s.profile.stationFits x.index st)) id s

/-- DEFINE STATION while the line is undefined is refused STATE before its fields are looked at (R3). -/
def execDefineStation (m : Master) (a : Carried StationArgs) (s : State) : Outcome :=
  serve m .defineStation (whenIdle (fun s => if s.profile.line.isNone then refuse .state s
    else withParams a defineStation s)) s

/-! ## DEFINE REACH (R8) -/

/-- The reach a DEFINE REACH would make. -/
def reachFrom (x : ReachArgs) (held : Option Reach) : Reach :=
  ⟨x.area, x.stallTime.getD ((held.map (·.stallTime)).getD 900),
    x.flowTimeout.getD ((held.map (·.flowTimeout)).getD 120)⟩

def Profile.setReach (p : Profile) (i : Nat) (r : Reach) : Profile :=
  { p with reaches := p.reaches.setIfInBounds i (some r) }

def defineReach (x : ReachArgs) (s : State) : State × Answer :=
  if !(x.index < s.profile.count - 1 && within 50 20000 x.area && optWithin 60 7200 x.stallTime &&
      optWithin 10 600 x.flowTimeout) then refuse .range s
  else judgeProfile (s.profile.setReach x.index (reachFrom x (s.profile.reach? x.index))) false false id s

/-- DEFINE REACH while the line is undefined is refused STATE before its fields are looked at (R3). -/
def execDefineReach (m : Master) (a : Carried ReachArgs) (s : State) : Outcome :=
  serve m .defineReach (whenIdle (fun s => if s.profile.line.isNone then refuse .state s
    else withParams a defineReach s)) s

/-! ## DEFINE SIGNALLER (R9, R10) -/

/-- The signaller a DEFINE SIGNALLER with a source would make (R9). -/
def signallerFrom (x : SignallerPlace) (held : Option Signaller) : Signaller :=
  ⟨x.source, x.chainage, x.firmness.getD ((held.map (·.firmness)).getD .firm),
    x.window.getD ((held.map (·.window)).getD 2000)⟩

/-- Two neighbouring signallers rise strictly, and by at least 100 m where neither is signaller 0 (R10). -/
def signallersApart (lowerIndex : Nat) (lower upper : Nat) : Bool :=
  lower < upper && (lowerIndex == 0 || lower + 100 ≤ upper)

/-- The place of a signaller against the line and its nearest defined neighbours (R10). -/
def Profile.signallerFits (p : Profile) (n chainage : Nat) : Bool :=
  (if n = 0 then within 10 200 chainage else chainage ≤ p.lineEnd) &&
    (nearestBelow (fun i => (p.signaller? i).map (fun g => (i, g.chainage))) n).all
      (fun l => signallersApart l.1 l.2 chainage) &&
    (nearestAbove (fun i => (p.signaller? i).map (·.chainage)) n 32).all (fun u => signallersApart n chainage u)

/-- A channel in a mode other than OFF is assigned to the signaller (R10). -/
def Profile.channelOn (p : Profile) (n : Nat) : Bool :=
  p.channels.toList.any (fun c => c.mode != .off && c.signaller == some n)

def Profile.setSignaller (p : Profile) (n : Nat) (g : Option Signaller) : Profile :=
  { p with signallers := p.signallers.setIfInBounds n g }

/-- Every waiting and every unmatched passage of a signaller is dropped (R73, R110). -/
def dropPassages (n : Nat) (s : State) : State :=
  (s.setEntries (s.intake.entries.filter (fun e => e.signaller != n))).setFixUnit
    { s.fixUnit with unmatched := s.fixUnit.unmatched.filter (fun e => e.signaller != n) }

/-- What a taken DEFINE SIGNALLER does besides (R9, R73, R110): `held` and `made` are the definition before and
after. -/
def resignal (n : Nat) (held made : Option Signaller) (s : State) : State :=
  let s1 := if held.isSome ∧ held.map (fun g => (g.source, g.chainage)) ≠ made.map (fun g => (g.source, g.chainage))
    then dropPassages n s else s
  if held.isSome = made.isSome then s1 else s1.setRuntime n SigRuntime.fresh

def defineSignaller (x : SignallerArgs) (s : State) : State × Answer :=
  let held := s.profile.signaller? x.index
  match x.place with
  | none =>
    if 31 < x.index then refuse .range s
    else judgeProfile (s.profile.setSignaller x.index none) (s.profile.channelOn x.index) false
      (resignal x.index held none) s
  | some pl =>
    if !(x.index ≤ 31 && chainageOk pl.chainage && optWithin 10 20000 pl.window) then refuse .range s
    else
      let g := signallerFrom pl held
      let moved := held.map (fun h => (h.source, h.chainage)) ≠ some (g.source, g.chainage)
      judgeProfile (s.profile.setSignaller x.index (some g)) (moved && s.profile.channelOn x.index)
        (moved && !s.profile.signallerFits x.index g.chainage) (resignal x.index held (some g)) s

/-- DEFINE SIGNALLER while the line is undefined is refused STATE before its fields are looked at (R3). -/
def execDefineSignaller (m : Master) (a : Carried SignallerArgs) (s : State) : Outcome :=
  serve m .defineSignaller (whenIdle (fun s => if s.profile.line.isNone then refuse .state s
    else withParams a defineSignaller s)) s

/-! ## DEFINE TRACKING, DEFINE TRAP, DEFINE MASTER (R11 to R13) -/

/-- A shortened hold-back hands every entry that is due under it at once (R11, R72). -/
def shortenHoldBack (old : Nat) (s : State) : State :=
  match s.now with
  | some now => if s.profile.tracking.holdBack < old then handDue now s.intake.entries.length s else s
  | none => s

def defineTracking (x : TrackingArgs) (s : State) : State × Answer :=
  if !(within 1 60 x.period && optWithin 0 120 x.holdBack && optWithin 0 16 x.weight) then refuse .range s
  else
    let t := s.profile.tracking
    judgeProfile { s.profile with tracking := ⟨x.period, x.holdBack.getD t.holdBack, x.weight.getD t.weight⟩ } false
      false (shortenHoldBack t.holdBack) s

def execDefineTracking (m : Master) (a : Carried TrackingArgs) (s : State) : Outcome :=
  serve m .defineTracking (whenIdle (withParams a defineTracking)) s

/-- The pairs of a DEFINE TRAP: one to six, each of the trap, in range, none named twice (R12). -/
def trapArgsOk (x : TrapArgs) : Bool :=
  within 1 6 x.settings.length && x.settings.all (fun p => p.1.ofTrap x.trap && p.1.inRange p.2) &&
    (x.settings.map (·.1)).Nodup

def defineTrap (x : TrapArgs) (s : State) : State × Answer :=
  if !trapArgsOk x then refuse .range s else judgeProfile (s.profile.putTrap x.trap x.settings) false false id s

def execDefineTrap (m : Master) (a : Carried TrapArgs) (s : State) : Outcome :=
  serve m .defineTrap (whenIdle (withParams a defineTrap)) s

/-- The class is taken into the master's context at once (R13). -/
def setClass (k : Master) (c : MasterClass) (s : State) : State := s.setContext k { s.context k with cls := c }

/-- A master number of a request, 0 to 5. -/
def masterIndex (n : Nat) : Option Master := if h : n < 6 then some ⟨n, h⟩ else none

def defineMaster (x : MasterArgs) (s : State) : State × Answer :=
  match masterIndex x.master with
  | none => refuse .range s
  | some k =>
    let masters := s.profile.masters.set k x.cls
    if masters.toList.contains .service then
      judgeProfile { s.profile with masters := masters } false false (setClass k x.cls) s
    else refuse .range s

def execDefineMaster (m : Master) (a : Carried MasterArgs) (s : State) : Outcome :=
  serve m .defineMaster (whenIdle (withParams a defineMaster)) s

/-! ## READ PROFILE (R16) -/

/-- The summary of the profile. -/
def summaryOf (s : State) : ProfileSummary where
  complete := s.profile.complete
  lineDefined := s.profile.line.isSome
  undefinedStations := s.profile.undefinedStations
  undefinedReaches := s.profile.undefinedReaches
  launchSignaller := (s.profile.signaller? 0).isSome
  receiveSignaller := s.profile.receiveIndex
  signallers := (List.range 32).countP (fun n => (s.profile.signaller? n).isSome)
  locked := s.register.locked
  writeCount := s.store.count
  imageState := s.store.imageState

/-- The answer for an item that is in range and may be undefined. -/
def readItem {α : Type} (o : Option α) (f : α → ReplyData) (s : State) : State × Answer :=
  match o with
  | some x => done (f x) s
  | none => refuse .noSuch s

/-- The reason that refuses an item of a line that is undefined, at an index within the item's range: a free one of the
two that R16 names. -/
def undefinedLineReason : Reason := if Config.undefinedLineIsRange then .range else .noSuch

/-- READ PROFILE of a station or reach: RANGE from `limit` on, and from the number of items of the defined line on. -/
def readLineItem {α : Type} (limit count i : Nat) (o : Option α) (f : α → ReplyData) (s : State) : State × Answer :=
  if s.profile.line.isNone ∧ i < limit then refuse undefinedLineReason s
  else if i < count then readItem o f s
  else refuse .range s

def readProfile (sel : ProfileSel) (s : State) : State × Answer :=
  let p := s.profile
  match sel with
  | .line => readItem p.line .lineItem s
  | .station i => readLineItem 16 p.count i (p.station? i) (fun st => .stationItem st i (i + 1 == p.count)) s
  | .reach i => readLineItem 15 (p.count - 1) i (p.reach? i) .reachItem s
  | .signaller n =>
    if n ≤ 31 then readItem (p.signaller? n) (fun g => .signallerItem g (p.isReceive n)) s else refuse .range s
  | .tracking => done (.trackingItem p.tracking) s
  | .trap .launch => done (.launchItem p.launch) s
  | .trap .receive => done (.receiveItem p.receive) s
  | .master i =>
    match masterIndex i with
    | some k => done (.masterItem p.masters[k]) s
    | none => refuse .range s
  | .watch i =>
    match watchIndex i with
    | some k => done (.watchItem p.watches[k]) s
    | none => refuse .range s
  | .channel i =>
    match channelIndex i with
    | some k => done (.channelItem p.channels[k]) s
    | none => refuse .range s
  | .summary => done (.profileSummary (summaryOf s)) s

def execReadProfile (m : Master) (a : Carried ProfileSel) (s : State) : Outcome :=
  serve m .readProfile (whenIdle (withParams a readProfile)) s

/-! ## DECODE CHAINAGE (R18) -/

/-- A chainage in metres lies in the zone of a station of the line. -/
def Profile.zoneHolds (p : Profile) (c i : Nat) : Bool :=
  match p.station? i with
  | some st => st.chainage ≤ c + st.halfWidth && c ≤ st.chainage + st.halfWidth
  | none => false

/-- The station in whose zone a chainage lies. -/
def Profile.zoneAt (p : Profile) (c : Nat) : Option Nat := (List.range p.count).find? (p.zoneHolds c)

/-- The region of a chainage, by the fixed priority (R18). `none` never arises in a complete profile. -/
def Profile.regionOf (p : Profile) (c : Nat) : Option Region :=
  if c < ((p.signaller? 0).map (·.chainage)).getD 0 then some .launchTrap
  else if p.lineEnd ≤ c then some .receiveTrap
  else
    match p.zoneAt c with
    | some i => some (.valveZone i)
    | none => (p.reachAt (c * 1000)).map .reach

/-- The answer for a chainage in range while the profile is complete. -/
def placeChainage (c : Nat) (s : State) : State × Answer :=
  let p := s.profile
  let used := min c p.lineEnd
  match p.regionOf c with
  | some .receiveTrap => done (.region .receiveTrap used (p.lineEnd < c) none) s
  | some r => done (.region r used false (p.reachAt (c * 1000))) s
  | none => refuse .state s

/-- R18 refuses RANGE before STATE, and R176 keeps a rule's own order. -/
def decodeChainage (c : Nat) (s : State) : State × Answer :=
  if chainageOk c then whenComplete (placeChainage c) s else refuse .range s

def execDecodeChainage (m : Master) (a : Carried Nat) (s : State) : Outcome :=
  serve m .decodeChainage (withParams a decodeChainage) s

/-! ## The end of a store write (R2) -/

/-- The written image becomes the current image, and the store returns to IDLE (R1, R2, R17). -/
def ProfileStore.finishWrite (x : ProfileStore) : ProfileStore :=
  match x.writing with
  | none => x
  | some slot =>
    { x.setImage slot { x.image slot with valid := true } with
      currentImage := some slot
      imageState := .current
      writing := none }

def execStoreWriteComplete (s : State) : Outcome := happen (fun s => s.setStore s.store.finishWrite) s

end Sys2Proof.Machine
end

