-- ==== Sys2Proof/Machine/Channels.lean ====
section
/-! DEFINITION. Machine/Channels.lean: SET CHANNEL MODE, RESET FLAG, READ CHANNEL, and the events of the local channels
(R78 to R90). -/

namespace Sys2Proof.Machine

/-! ## SET CHANNEL MODE (R88, R89) -/

/-- The configuration a SET CHANNEL MODE would make: mode OFF clears the signaller and keeps the limits. -/
def channelFrom (x : ChannelArgs) (held : ChanCfg) : ChanCfg where
  mode := x.mode
  signaller := if x.mode = .off then none else x.signaller.or held.signaller
  minWidth := x.minWidth.getD held.minWidth
  maxWidth := x.maxWidth.getD held.maxWidth
  spacing := x.spacing.getD held.spacing
  interval := x.interval.getD held.interval

/-- Mode OFF carries nothing further (R88). -/
def offCarries (x : ChannelArgs) : Bool :=
  x.mode = .off && (x.signaller.isSome || x.minWidth.isSome || x.maxWidth.isSome || x.spacing.isSome || x.interval.isSome)

/-- The signaller is defined and LOCAL (R88). -/
def Profile.isLocal (p : Profile) (n : Nat) : Bool :=
  match p.signaller? n with
  | some g => g.source = .localInput
  | none => false

/-- The mode of a channel number; numbers above 7 have none. -/
def Profile.channelMode (p : Profile) (n : Nat) : ChanMode := ((p.channels[n]?).map (·.mode)).getD .off

/-- The range check of R88 over the configuration that would result. -/
def channelInRange (p : Profile) (c : Fin 8) (x : ChannelArgs) (cfg : ChanCfg) : Bool :=
  x.inRange && !offCarries x && cfg.minWidth < cfg.maxWidth && (cfg.mode = .off || cfg.signaller.any p.isLocal) &&
    (cfg.mode != .pair || (c.val % 2 == 0 && p.channelMode (c.val + 1) == .off))

/-- The channel conflict check of R88. -/
def channelConflict (p : Profile) (c : Fin 8) (cfg : ChanCfg) : Bool :=
  cfg.mode != .off &&
    ((List.finRange 8).any (fun i =>
        i != c && p.channels[i].mode != .off && p.channels[i].signaller == cfg.signaller) ||
      (c.val % 2 == 1 && p.channelMode (c.val - 1) == .pair))

/-- What a taken SET CHANNEL MODE does to the channel's runtime (R89). -/
def rechannel (c : Fin 8) (old new : ChanCfg) (s : State) : State :=
  if old.mode = new.mode ∧ old.signaller = new.signaller then pairRunsOut 0 c s.inputUnit.msTimer s
  else restartChannel c s

def setChannelMode (x : ChannelArgs) (s : State) : State × Answer :=
  match channelIndex x.channel with
  | none => refuse .range s
  | some c =>
    let old := s.chanCfg c
    let cfg := channelFrom x old
    if channelInRange s.profile c x cfg then
      judgeProfile { s.profile with channels := s.profile.channels.set c cfg } (channelConflict s.profile c cfg) false
        (rechannel c old cfg) s
    else refuse .range s

def execSetChannelMode (m : Master) (a : Carried ChannelArgs) (s : State) : Outcome :=
  serve m .setChannelMode (whenIdle (withParams a setChannelMode)) s

/-! ## RESET FLAG (R81) -/

/-- The data of RESET FLAG: the channel state and the contact as read. -/
def flagData (c : Fin 8) (s : State) : ReplyData := .flagState (s.channel c).state (s.input c)

/-- Checks 2 to 7 of R81. The reply to a request that names a channel, a refusal too, carries its state and its contact. -/
def resetFlag (n : Nat) (s : State) : State × Answer :=
  match channelIndex n with
  | none => refuse .range s
  | some c =>
    if (s.chanCfg c).mode ≠ .contact then refuseWith .state (flagData c s) s
    else if s.now.isNone then refuseWith .timeUnset (flagData c s) s
    else if (s.channel c).state = .tripped then
      if s.input c then refuseWith .state (flagData c s) s
      else
        let s' := s.setChannel c { s.channel c with state := .armed }
        (s', .done (flagData c s'))
    else done (flagData c s) s

def execResetFlag (m : Master) (a : Carried Nat) (s : State) : Outcome :=
  serve m .resetFlag (whenComplete (withParams a resetFlag)) s

/-! ## READ CHANNEL (R90) -/

/-- The even partner in PAIR mode of an odd channel. -/
def partnerOf (p : Profile) (c : Nat) : Option Nat :=
  if c % 2 = 1 ∧ p.channelMode (c - 1) = .pair then some (c - 1) else none

def readChannel (n : Nat) (s : State) : State × Answer :=
  match channelIndex n with
  | none => refuse .range s
  | some c =>
    let cfg := s.chanCfg c
    let x := s.channel c
    done (.channelRecord cfg (partnerOf s.profile n) x.state (s.input n)
      (if cfg.mode = .pair then some (s.input (n + 1)) else none)
      x.measurement x.lastDetection x.noise x.faults x.incomplete x.reverse) s

def execReadChannel (m : Master) (a : Carried Nat) (s : State) : Outcome :=
  serve m .readChannel (whenComplete (withParams a readChannel)) s

/-! ## Events (R80 to R87) -/

def execContactLeadingEdge (c : Fin 8) (ms : Nat) (s : State) : Outcome :=
  rising c false ms (leadingEdge .contact c ms) s

def execContactBounce (c : Fin 8) (ms : Nat) (s : State) : Outcome :=
  falling c ms (contactOpens c ms) s

def execContactClosure (c : Fin 8) (ms : Nat) (s : State) : Outcome :=
  happen (fun s => contactHeld c ms (tickTo ms s)) s

def execPulseLeadingEdge (c : Fin 8) (ms : Nat) (s : State) : Outcome :=
  rising c false ms (leadingEdge .pulse c ms) s

def execPulseTrailingEdge (c : Fin 8) (ms : Nat) (s : State) : Outcome :=
  falling c ms (pulseInactive c ms) s

def execPulseFault (c : Fin 8) (ms : Nat) (s : State) : Outcome :=
  happen (fun s => pulseTooLong c ms (tickTo ms s)) s

def execPulseFaultEnd (c : Fin 8) (ms : Nat) (s : State) : Outcome :=
  falling c ms (pulseInactive c ms) s

def execPairAEdge (c : Fin 8) (ms : Nat) (s : State) : Outcome :=
  rising c true ms (fun s => leadingEdge .pair c ms (settlePair c ms s)) s

def execPairBEdge (c : Fin 8) (ms : Nat) (s : State) : Outcome :=
  rising (c + 1) true ms (fun s => pairSeesB c ms (settlePair c ms s)) s

def execPairIncomplete (c : Fin 8) (ms : Nat) (s : State) : Outcome :=
  happen (fun s => pairRunsOut 0 c ms (tickTo ms s)) s

def execGuardExpiry (c : Fin 8) (ms : Nat) (s : State) : Outcome :=
  happen (fun s => guardRunsOut 0 c ms (tickTo ms s)) s

end Sys2Proof.Machine
end

