-- ==== Sys2Proof/Machine/TrapOps.lean ====
section
/-! DEFINITION. Machine/TrapOps.lean: the table of trap steps and their preconditions, the ends of a step, and the launch
overdue deadline (R152 to R168). -/

namespace Sys2Proof.Machine

/-- The record of a trap. -/
def Traps.record (x : Traps) : TrapId → TrapRecord
  | .launch => x.launch
  | .receive => x.receive

def State.trap (s : State) (t : TrapId) : TrapRecord := s.traps.record t

def State.setTrap (s : State) (t : TrapId) (r : TrapRecord) : State :=
  match t with
  | .launch => s.setTraps { s.traps with launch := r }
  | .receive => s.setTraps { s.traps with receive := r }

/-- The barrel list of a trap (R24, R152). -/
def State.barrel (s : State) : TrapId → List Pig
  | .launch => s.register.launchBarrel
  | .receive => s.register.receiveBarrel

/-! ## The table of R155 -/

/-- The from-states of a step. -/
def stepFrom : TrapStep → List TrapState
  | .openDoor => [.vented]
  | .closeDoor => [.doorOpen]
  | .fill => [.vented]
  | .lineUp => [.pressurised]
  | .drive => [.linedUp]
  | .isolate => [.linedUp, .driving]
  | .vent => [.pressurised]

/-- The to-state of a step. -/
def stepTo : TrapStep → TrapState
  | .openDoor => .doorOpen
  | .closeDoor => .vented
  | .fill => .pressurised
  | .lineUp => .linedUp
  | .drive => .driving
  | .isolate => .pressurised
  | .vent => .vented

/-! ## Preconditions (R156 to R159) -/

/-- A refusal of a step's precondition. -/
structure StepRefusal where
  reason : Reason
  data : ReplyData

/-- An INTERLOCK that names its check and, where it found one, a pig. -/
def interlocked (c : StepCheck) (tag : Option Nat) : Option StepRefusal := some ⟨.interlock, .stepInterlock c tag⟩

/-- OPEN DOOR: a barrel pressure at or below the vent limit (R156). -/
def openDoorRefused (r : TrapRecord) (ventLimit : Nat) : Option StepRefusal :=
  match r.barrel with
  | some b => if b.kPa ≤ ventLimit then none else interlocked .pressure none
  | none => interlocked .pressure none

/-- The difference of two pressures, without its sign. -/
def pressureGap (a b : Nat) : Nat := (a - b) + (b - a)

/-- Both pressures present and within the equalise band (R157). -/
def equalised (r : TrapRecord) (band : Nat) : Bool :=
  match r.barrel, r.line with
  | some b, some l => pressureGap b.kPa l.kPa ≤ band
  | _, _ => false

/-- LINE UP (R157). -/
def lineUpRefused (s : State) (t : TrapId) : Option StepRefusal :=
  if equalised (s.trap t) (s.profile.trapCommon t).equaliseBand then
    match t with
    | .launch => none
    | .receive =>
      if s.profile.receive.capacity ≤ s.register.receiveBarrel.length then some ⟨.full, .nothing⟩ else none
  else interlocked .pressure none

/-- The chainage of signaller 0 in metres. -/
def Profile.launchChainage (p : Profile) : Nat := ((p.signaller? 0).map (·.chainage)).getD 0

/-- DRIVE (R158). -/
def driveRefused (s : State) : Option StepRefusal :=
  if s.register.launchBarrel.isEmpty then some ⟨.state, .nothing⟩
  else if s.valveAt 0 ≠ some .opened then interlocked .valve none
  else
    match s.register.inLine.getLast? with
    | some tail =>
      if tail.position < (s.profile.launchChainage + s.profile.launch.spacing) * 1000 then
        interlocked .spacing (some tail.tag)
      else none
    | none => none

/-- A pig within the receive guard distance of the line end (R159). -/
def guarded (p : Profile) (pig : Pig) : Bool := (p.lineEnd - p.receive.guardDistance) * 1000 ≤ pig.position

/-- ISOLATE: at the receive trap no in-line pig within the guard distance (R159). -/
def isolateRefused (s : State) : TrapId → Option StepRefusal
  | .launch => none
  | .receive =>
    match s.register.inLine.find? (guarded s.profile) with
    | some p => interlocked .guard (some p.tag)
    | none => none

/-- The preconditions of a step. -/
def stepRefused (s : State) (t : TrapId) : TrapStep → Option StepRefusal
  | .openDoor => openDoorRefused (s.trap t) (s.profile.trapCommon t).ventLimit
  | .closeDoor => none
  | .fill => none
  | .lineUp => lineUpRefused s t
  | .drive => driveRefused s
  | .isolate => isolateRefused s t
  | .vent => none

/-! ## Changes of state (R160 to R168) -/

/-- TRAP_EVENT with the trap as the subject. -/
def trapEvent (t : TrapId) (s : State) : State := post .trapEvent (some (.trap t)) s

/-- The launch overdue deadline after a trap leaves a state for another: cleared on leaving DRIVING (R167). -/
def leaveDriving (t : TrapId) (old new : TrapState) (s : State) : State :=
  if t = .launch ∧ old = .driving ∧ new ≠ .driving then s.setLaunchOverdue none else s

/-- Entry to DRIVING by TRAP DONE sets the deadline (R162, R167). -/
def enterDriving (t : TrapId) (new : TrapState) (s : State) : State :=
  if t = .launch ∧ new = .driving then s.setLaunchOverdue (s.now.map (launchDeadline s)) else s

/-- A step in progress ends in its to-state (R160, R162). -/
def finishStep (t : TrapId) (x : TrapStep) (s : State) : State :=
  let r := s.trap t
  enterDriving t (stepTo x)
    (leaveDriving t r.state (stepTo x) (trapEvent t (s.setTrap t { r with state := stepTo x, step := none })))

/-- A step's deadline runs out (R161). -/
def expireStep (t : TrapId) (s : State) : State :=
  let r := s.trap t
  match r.step with
  | none => s
  | some h =>
    leaveDriving t r.state .unknown
      (trapEvent t (s.setTrap t { r with state := .unknown, step := none, lapsed := some ⟨h.step, h.owner⟩ }))

/-- A trap step has reached its deadline. -/
def stepDue (now : Nat) (t : TrapId) (s : State) : Bool := reached now ((s.trap t).step.map (·.deadline))

/-- The launch overdue deadline has been reached. -/
def launchDue (now : Nat) (s : State) : Bool := reached now s.traps.launchOverdue

/-- The launch overdue deadline runs out (R168). -/
def expireLaunch (s : State) : State := (post .launchOverdue (some (.trap .launch)) s).setLaunchOverdue none

/-! ## Tags and staging (R21 to R23) -/

/-- The tag after another: 1 follows 255. -/
def tagAfter (t : Nat) : Nat := if 255 ≤ t then 1 else t + 1

/-- The first free tag from a counter (R22). -/
def Register.freeTag (r : Register) : Nat → Nat → Nat
  | 0, t => t
  | fuel + 1, t => if (r.find t).isSome then r.freeTag fuel (tagAfter t) else t

/-- The tag a new record takes. -/
def Register.newTag (r : Register) : Nat := r.freeTag 256 r.tagCounter

/-- The register can take one more record into the launch barrel (R21). -/
def Register.hasRoom (r : Register) : Bool := r.size < 12 && r.launchBarrel.length < 2

/-- A staged record (R23). -/
def stagedPig (tag : Nat) (x : StageArgs) : Pig where
  tag := tag
  kind := x.kind
  status := .staged
  ratio := (ratioFrom x.kind (x.ratio.getD 0)).1
  source := (ratioFrom x.kind (x.ratio.getD 0)).2
  position := 0
  speed := 0
  fluid := 0
  lastFix := none
  overdueAt := none
  launchTime := none
  arrivalTime := none
  error := none
  flags := PigFlags.none
  estimate := none

/-- A record is created at the end of the launch barrel list, and the tag counter moves on (R22 to R24). -/
def Register.stage (r : Register) (x : StageArgs) : Register :=
  { r with
    launchBarrel := r.launchBarrel ++ [stagedPig r.newTag x]
    tagCounter := tagAfter r.newTag }

end Sys2Proof.Machine
end

