-- ==== Sys2Proof/Machine/Valves.lean ====
section
/-! DEFINITION. Machine/Valves.lean: REPORT VALVE, the hold commands, the stroke permits, forced strokes and READ VALVE
(R117 to R134). -/

namespace Sys2Proof.Machine

/-- The station of a request, below the station count: RANGE otherwise. -/
def withStation (n : Nat) (body : Fin 16 → State → State × Answer) (s : State) : State × Answer :=
  match s.profile.stationIndex n with
  | some st => body st s
  | none => refuse .range s

/-! ## REPORT VALVE (R119) -/

def reportValve (x : ValveArgs) : State → State × Answer :=
  withStation x.station (fun st s =>
    let v := s.valves[st]
    (writePosition st x.position s, .done (.valveTaken v.position v.permit.isSome)))

def execReportValve (m : Master) (a : Carried ValveArgs) (s : State) : Outcome :=
  serve m .reportValve (whenComplete (withParams a reportValve)) s

/-! ## Hold sets (R121 to R123) -/

/-- DONE with the hold set now held. -/
def holdAnswer (st : Fin 16) (s : State) : State × Answer := done (.holdSet s.valves[st].hold) s

def setHold (m : Master) (n : Nat) : State → State × Answer :=
  withStation n (fun st s => holdAnswer st (changeHold st (s.valves[st].hold ||| masterBit m) s))

def execSetHold (m : Master) (a : Carried Nat) (s : State) : Outcome :=
  serve m .setHold (whenComplete (withParams a (setHold m))) s

def releaseHold (m : Master) (n : Nat) : State → State × Answer :=
  withStation n (fun st s =>
    if s.valves[st].hold.getLsbD m then
      holdAnswer st (changeHold st (s.valves[st].hold &&& ~~~ masterBit m) s)
    else refuse .notOwner s)

def execReleaseHold (m : Master) (a : Carried Nat) (s : State) : Outcome :=
  serve m .releaseHold (whenComplete (withParams a (releaseHold m))) s

/-- Every master number leaves a station's hold set. -/
def clearHold (s : State) (st : Fin 16) : State := changeHold st (s.valves[st].hold &&& watchBit) s

/-- The hold set is not empty, and no member but a master is in it: it becomes empty when the masters leave. -/
def empties (s : State) (st : Fin 16) : Bool :=
  s.valves[st].hold != 0#7 && s.valves[st].hold &&& watchBit == 0#7

/-- The stations of the line, in rising index. -/
def State.stations (s : State) : List (Fin 16) := (List.finRange 16).filter (fun st => st.val < s.profile.count)

/-- HOLD_CHANGE keeps one of the stations emptied as its subject; which one is a free value (R123 states no order). -/
def lastCleared (emptied : List (Fin 16)) : State → State :=
  keepSubject .holdChange (Config.clearedLast (emptied.map (·.val))) (emptied.map (fun st => .station st))

def clearHolds (x : Option Nat) (s : State) : State × Answer :=
  match x with
  | none =>
    (lastCleared (s.stations.filter (empties s)) (s.stations.foldl clearHold s),
      .done (.emptied (s.stations.countP (empties s))))
  | some n => withStation n (fun st s => (clearHold s st, .done (.emptied (if empties s st then 1 else 0)))) s

def execClearHolds (m : Master) (a : Carried (Option Nat)) (s : State) : Outcome :=
  serve m .clearHolds (whenComplete (withParams a clearHolds)) s

/-! ## REQUEST STROKE (R125 to R128) -/

/-- The position a direction asks for. -/
def targetPosition : Direction → ValvePos
  | .toOpen => .opened
  | .toClose => .closed

/-- A pig that the ZONE case finds; at the zone start exactly it is not counted for OPEN (R126). -/
def zoneFinds (station : Station) (d : Direction) (p : Pig) : Bool :=
  station.inZone p.position && !(d = .toOpen && (p.position : Int) == station.zoneStart)

/-- A pig that the UNVERIFIED case finds (R126): UNVERIFIED, in the reach below the station or the one above. -/
def unverifiedFinds (s : State) (st : Fin 16) (p : Pig) : Bool :=
  p.status = .unverified &&
    match s.profile.reachAt p.position with
    | some r => r + 1 == st.val || r == st.val
    | none => false

/-- The approach limit in seconds: the stroke time and the permit margin (R127). -/
def Station.approachLimit (station : Station) : Nat := station.strokeTime + 30

/-- The ETA of a pig below the zone start to it (R127). -/
def zoneEta (station : Station) (p : Pig) : Option Nat :=
  if (p.position : Int) < station.zoneStart then etaOver (station.zoneStart - p.position).toNat p.speed else none

/-- A pig that the approach interlock finds (R127). -/
def approachFinds (station : Station) (p : Pig) : Bool :=
  match zoneEta station p with
  | some t => t ≤ station.approachLimit
  | none => false

/-- The zone and approach interlocks, in their order (R125 to R127). -/
def strokeFinds (s : State) (st : Fin 16) (station : Station) (d : Direction) : Option ReplyData :=
  match s.register.inLine.find? (zoneFinds station d) with
  | some p => some (.strokeInterlock .zone p.tag none)
  | none =>
    match s.register.inLine.find? (unverifiedFinds s st) with
    | some p => some (.strokeInterlock .unverified p.tag none)
    | none =>
      match s.register.inLine.find? (approachFinds station) with
      | some p => some (.strokeInterlock .approach p.tag (zoneEta station p))
      | none => none

/-- The expiry of a permit granted at a line time (R128). -/
def permitExpiry (station : Station) (now : Nat) : Nat := addTime now (tenths station.approachLimit)

/-- Checks 4 to 9 of R125. -/
def judgeStroke (m : Master) (now : Nat) (d : Direction) (st : Fin 16) (station : Station) (s : State) :
    State × Answer :=
  let v := s.valves[st]
  if v.permit.isSome then refuse .busy s
  else if v.position = targetPosition d then refuse .state s
  else if v.hold ≠ 0#7 then (s, .refused .held (.holdSet v.hold))
  else
    match strokeFinds s st station d with
    | some found => (s, .refused .interlock found)
    | none =>
      let e := permitExpiry station now
      (s.setValve st { v with permit := some ⟨m, d, e⟩, lapsed := none }, .done (.expiry e))

def requestStroke (m : Master) (x : StrokeArgs) (now : Nat) : State → State × Answer :=
  withStation x.station (fun st s =>
    match s.profile.station? st with
    | some station => judgeStroke m now x.direction st station s
    | none => refuse .range s)

def execRequestStroke (m : Master) (a : Carried StrokeArgs) (s : State) : Outcome :=
  serve m .requestStroke (whenComplete (whenTime (fun now => withParams a (fun x => requestStroke m x now)))) s

/-! ## STROKE DONE and the expiry (R129, R130) -/

def strokeDone (m : Master) (x : ValveArgs) (s : State) : State × Answer :=
  if x.position = .moving then refuse .range s
  else
    withStation x.station (fun st s =>
      let v := s.valves[st]
      match v.permit with
      | some p =>
        if p.owner = m then (writePosition st x.position (s.setValve st { v with permit := none }), .done .nothing)
        else refuse .notOwner s
      | none =>
        if v.lapsed.map (·.owner) = some m then
          (writePosition st x.position (s.setValve st { v with lapsed := none }), .late .nothing)
        else refuse .state s) s

def execStrokeDone (m : Master) (a : Carried ValveArgs) (s : State) : Outcome :=
  serve m .strokeDone (whenComplete (withParams a (strokeDone m))) s

/-- The watches are judged where a position has changed (R118). -/
def handPosition (old new : ValvePos) (s : State) : State := if old = new then s else judgeAll s

/-- The expiry of an outstanding permit (R130). -/
def expirePermit (st : Fin 16) (s : State) : State :=
  let v := s.valves[st]
  match v.permit with
  | none => s
  | some p =>
    handPosition v.position .unknown
      (post .permitExpired (some (.station st))
        (s.setValve st { v with position := .unknown, permit := none, lapsed := some ⟨p.owner, p.direction⟩ }))

/-- A permit at the station has reached its expiry. -/
def permitDue (now : Nat) (st : Fin 16) (s : State) : Bool := reached now (s.valves[st].permit.map (·.expiry))

def execPermitExpiry (station : Fin 16) (s : State) : Outcome :=
  happen (timed (fun now s => if permitDue now station s then expirePermit station s else s)) s

/-! ## NOTIFY FORCED STROKE (R132) -/

/-- Pigs within the zone of a station. -/
def State.inZone (s : State) (st : Fin 16) (p : Pig) : Bool :=
  match s.profile.station? st with
  | some station => station.inZone p.position
  | none => false

def notifyForcedStroke (x : StrokeArgs) : State → State × Answer :=
  withStation x.station (fun st s =>
    let v := s.valves[st]
    let struck := s.register.inLine.countP (s.inZone st)
    let s1 := s.setValve st { v with
      permit := none
      lapsed := none
      position := .moving
      forced := some ⟨x.direction, s.now⟩ }
    let s2 := s1.setInLine (s.register.inLine.map (fun p => if s.inZone st p then p.strike else p))
    (handPosition v.position .moving (post .forcedStroke (some (.station st)) s2),
      .done (.struck struck (v.permit.map (·.owner)))))

def execNotifyForcedStroke (m : Master) (a : Carried StrokeArgs) (s : State) : Outcome :=
  serve m .notifyForcedStroke (whenComplete (withParams a notifyForcedStroke)) s

/-! ## READ VALVE (R134) -/

/-- One station's line of the summary. -/
def valveLine (v : Valve) : ValveLine where
  position := v.position
  members := holdCount v.hold
  watch := v.hold &&& watchBit != 0#7
  permit := v.permit.isSome
  contact := v.contact

def readValve (x : Option Nat) (s : State) : State × Answer :=
  match x with
  | none => done (.valveSummary (s.stations.map (fun st => valveLine s.valves[st]))) s
  | some n =>
    withStation n (fun st s =>
      match s.profile.station? st with
      | some station =>
        done (.valveRecord s.valves[st] station.strokeTime ((station.chainage : Int) - station.halfWidth)
          (station.chainage + station.halfWidth : Nat) station.approachLimit) s
      | none => refuse .range s) s

def execReadValve (m : Master) (a : Carried (Option Nat)) (s : State) : Outcome :=
  serve m .readValve (whenComplete (withParams a readValve)) s

end Sys2Proof.Machine
end

