-- ==== Sys2Proof/Machine/Watches.lean ====
section
/-! DEFINITION. Machine/Watches.lean: SET WATCH, ACKNOWLEDGE WATCH, READ WATCH and the running out of a watch's delay
(R137 to R150). -/

namespace Sys2Proof.Machine

/-! ## SET WATCH (R137, R138) -/

/-- The configuration a SET WATCH would make: an omitted field keeps the value held. -/
def watchFrom (x : WatchArgs) (held : WatchCfg) : WatchCfg where
  enabled := x.enabled.getD held.enabled
  source := x.source.getD held.source
  threshold := x.threshold.getD held.threshold
  hysteresis := x.hysteresis.getD held.hysteresis
  makeDelay := x.makeDelay.getD held.makeDelay
  breakDelay := x.breakDelay.getD held.breakDelay
  latch := x.latch.getD held.latch
  startInhibit := x.startInhibit.getD held.startInhibit
  actions := x.actions.getD held.actions

/-- The range check of R137: the unit is that of the source the watch will have, and a change of source needs both
the threshold and the hysteresis. -/
def watchInRange (x : WatchArgs) (held : WatchCfg) : Bool :=
  let src := x.source.getD held.source
  optWithin 0 src.limit x.threshold && optWithin 0 src.limit x.hysteresis && optWithin 0 3600 x.makeDelay &&
    optWithin 0 3600 x.breakDelay && (src == held.source || (x.threshold.isSome && x.hysteresis.isSome))

/-- A delay in flight keeps its start and takes the delay now set (R138). -/
def Watch.redelay (w : Watch) (c : WatchCfg) : Watch :=
  let seconds := if w.state = .making then c.makeDelay else c.breakDelay
  { w with delay := w.delay.map (fun d => ⟨d.start, addTime d.start (tenths seconds)⟩) }

/-- A LATCHED watch whose latch is no moves to CLEAR (R138). -/
def Watch.unlatch (w : Watch) (c : WatchCfg) : Watch :=
  if w.state = .latched ∧ c.latch = false then { w with state := .clear } else w

/-- A delay whose deadline has passed runs out (R145). -/
def settleDelay (st : Fin 16) (s : State) : State :=
  match s.now with
  | none => s
  | some now => if s.watchUnit.watches[st].delayDue now then expireDelay st s else s

/-- What a taken SET WATCH does to the watch's runtime (R138). -/
def rewatch (st : Fin 16) (old new : WatchCfg) (s : State) : State :=
  if old.enabled ≠ new.enabled ∨ old.source ≠ new.source then
    judgeOne st (applyHold st (s.setWatch st { s.watchStart st with lastJudged := s.watchUnit.watches[st].lastJudged }))
  else
    judgeOne st (applyHold st (settleDelay st (s.setWatch st ((s.watchUnit.watches[st].unlatch new).redelay new))))

def setWatch (x : WatchArgs) (s : State) : State × Answer :=
  match watchIndex x.station with
  | none => refuse .range s
  | some st =>
    let old := s.watchCfg st
    let cfg := watchFrom x old
    if watchInRange x old then
      judgeProfile { s.profile with watches := s.profile.watches.set st cfg } false false (rewatch st old cfg) s
    else refuse .range s

def execSetWatch (m : Master) (a : Carried WatchArgs) (s : State) : Outcome :=
  serve m .setWatch (whenIdle (withParams a setWatch)) s

/-! ## ACKNOWLEDGE WATCH (R149) -/

/-- The watch index of a request, 0 to 15: RANGE otherwise. -/
def withWatch (n : Nat) (body : Fin 16 → State → State × Answer) (s : State) : State × Answer :=
  match watchIndex n with
  | some st => body st s
  | none => refuse .range s

/-- R149. The reply to a request that names a watch, a refusal too, carries its state after the command. -/
def acknowledgeWatch (n : Nat) : State → State × Answer :=
  withWatch n (fun st s =>
    let w := s.watchUnit.watches[st]
    if w.state = .latched then
      let s' := judgeOne st (applyHold st (s.setWatch st { w with state := .clear }))
      (s', .done (.watchState s'.watchUnit.watches[st].state))
    else refuseWith .state (.watchState w.state) s)

def execAcknowledgeWatch (m : Master) (a : Carried Nat) (s : State) : Outcome :=
  serve m .acknowledgeWatch (whenComplete (withParams a acknowledgeWatch)) s

/-! ## READ WATCH (R150) -/

def readWatch (n : Nat) : State → State × Answer :=
  withWatch n (fun st s =>
    done (.watchRecord s.watchUnit.watches[st] (s.valves[st].hold &&& watchBit != 0#7)) s)

def execReadWatch (m : Master) (a : Carried Nat) (s : State) : Outcome :=
  serve m .readWatch (whenComplete (withParams a readWatch)) s

/-! ## The running out of a delay (R145) -/

/-- The delay of a watch has reached its deadline. -/
def watchDue (now : Nat) (st : Fin 16) (s : State) : Bool := s.watchUnit.watches[st].delayDue now

def execWatchDelayExpiry (station : Fin 16) (s : State) : Outcome :=
  happen (timed (fun now s => if watchDue now station s then expireDelay station s else s)) s

end Sys2Proof.Machine
end

