-- ==== Sys2Proof/Machine/ClockOps.lean ====
section
/-! DEFINITION. Machine/ClockOps.lean: the first setting of line time, the deadlines that a forward setting reaches, and
the states that a restart leaves each block in (R190 to R196). -/

namespace Sys2Proof.Machine

/-! ## Line time (R190, R191) -/

def State.setTime (s : State) (t : Nat) : State := s.setClock { s.clock with lineTime := some t }

/-- The update timer starts (R45). -/
def startTimer (now : Nat) (s : State) : State :=
  s.setTracker { s.tracker with
    running := true
    lastUpdate := some now
    deadline := some (addTime now (tenths s.profile.tracking.period)) }

/-- The first setting after a restart (R191): the clock and its record, the update timer, the channels, the hold
contacts and the first judgement of the watches. -/
def firstSetting (v : Nat) (s : State) : State :=
  let s1 := s.setClock ⟨some v, { s.clock.record with timeSet := some v }⟩
  judgeAll (setContacts (armAll (startTimer v s1)))

/-! ## The deadlines of a forward setting (R192) -/

/-- What runs out at a line time. -/
inductive Timer
  | update | entry | permit (st : Fin 16) | step (t : TrapId) | delay (st : Fin 16) | launch
deriving DecidableEq, Repr

/-- The deadline of a timer, where it has one. -/
def deadlineOf (s : State) : Timer → Option Nat
  | .update => if s.tracker.running then s.tracker.deadline else none
  | .entry => s.intake.entries.head?.map (dueTime s.profile)
  | .permit st => s.valves[st].permit.map (·.expiry)
  | .step t => (s.trap t).step.map (·.deadline)
  | .delay st =>
    let w := s.watchUnit.watches[st]
    if w.state = .making ∨ w.state = .breaking then w.delay.map (·.deadline) else none
  | .launch => s.traps.launchOverdue

/-- The running out of a timer, as its owning rule states. -/
def runOut (now : Nat) (s : State) : Timer → State
  | .update => trackerUpdate now s
  | .entry => handFirst now s
  | .permit st => expirePermit st s
  | .step t => expireStep t s
  | .delay st => expireDelay st s
  | .launch => expireLaunch s

/-- Every timer. -/
def allTimers : List Timer :=
  [.update, .entry] ++ (List.finRange 16).map .permit ++ [.step .launch, .step .receive] ++
    (List.finRange 16).map .delay ++ [.launch]

/-- The earliest of some deadlines. -/
def earliest (l : List Nat) : Option Nat :=
  l.foldl (fun best d => some (capAt d best)) none

/-- The timers that have been reached and have the earliest deadline of those. -/
def nextTimers (now : Nat) (s : State) : List Timer :=
  let due := allTimers.filter (fun t => reached now (deadlineOf s t))
  let first := earliest (due.filterMap (deadlineOf s))
  due.filter (fun t => deadlineOf s t == first)

/-- Every deadline reached runs out, each where its own deadline falls (R192). Which of several equal deadlines runs
out first is not stated: it is a free value. `fuel` bounds the recursion. notes/assumptions/3.md. -/
def runDeadlines (now : Nat) : Nat → State → State
  | 0, s => s
  | fuel + 1, s =>
    match nextTimers now s with
    | [] => s
    | [t] => runDeadlines now fuel (runOut now s t)
    | t :: rest =>
      let l := t :: rest
      let chosen := (l[Config.tieBreak s.freeCount % l.length]?).getD t
      runDeadlines now fuel (runOut now (s.setFreeCount (s.freeCount + 1)) chosen)

/-- A forward setting (R192). The fuel is more than can be used: each of the entries, the permits and the update may
start the delays of sixteen watches anew, which run out at once only where the count stands at its last value. -/
def jumpTo (v : Nat) (s : State) : State := runDeadlines v (18 * s.intake.entries.length + 512) (s.setTime v)

/-! ## What a restart leaves (R186, R194) -/

/-- The contexts are set up, the detail table and the drop record cleared, and RESTARTED is posted (R186). -/
def restartPort (s : State) : State :=
  s.setPort
    { contexts := s.profile.masters.mapIdx (fun _ c => Context.restarted c)
      detail := (Vector.replicate 16 Detail.empty).set 0 ⟨none, s.now, 1⟩
      dropCount := 0
      lastDrop := none }

/-- The tracker with an empty flow table, RUNNING from the restart where line time is set (R60, R61). -/
def restartTracker (s : State) : State :=
  s.setTracker
    ⟨Vector.replicate 15 FlowEntry.empty, s.now.isSome, s.now,
      s.now.map (fun t => addTime t (tenths s.profile.tracking.period))⟩

/-- The estimate time of every in-line pig is that of the restart, absent while line time is unset (R61). -/
def restartEstimates (s : State) : State :=
  s.setInLine (s.register.inLine.map (fun p => { p with estimate := s.now }))

/-- The intake list empty and every intake count 0 (R76, R77). -/
def restartIntake (s : State) : State := s.setIntake ⟨[], IntakeCounts.zero⟩

/-- Every channel as R91 starts it, armed where line time is set. -/
def restartChannels (s : State) : State :=
  let s1 := s.setInputUnit { s.inputUnit with channels := Vector.replicate 8 Channel.idle }
  if s.now.isSome then armAll s1 else s1

/-- The unmatched list empty and its dropped count 0 (R116). -/
def restartMatching (s : State) : State := s.setFixUnit ⟨[], 0⟩

/-- Every watch as R151 starts it, the first judgement pending. -/
def restartWatches (s : State) : State :=
  s.setWatchUnit ⟨s.watchUnit.watches.mapFinIdx (fun i _ h => s.watchStart ⟨i, h⟩), true⟩

/-- A trap record after a restart that keeps it (R171, R173). -/
def TrapRecord.restarted (r : TrapRecord) : TrapRecord :=
  ⟨if r.step.isSome then .unknown else r.state, none, none, none, none⟩

/-- Both traps after a restart that keeps them. -/
def Traps.restarted (x : Traps) : Traps := ⟨x.launch.restarted, x.receive.restarted, none⟩

/-! ## RESTART (R136, R196) -/

/-- A valve record after a RESTART: the manual holds and the last forced stroke are kept (R136). -/
def Valve.restarted (v : Valve) : Valve :=
  ⟨.unknown, manualHolds v.hold, none, none, v.forced, v.contact⟩

/-- Every block's RESTART state, the contexts, then the first judgement where line time is set (R196). -/
def restartAll (s : State) : State :=
  let s1 := s.setClock { s.clock with record := ⟨.commanded, s.now, none⟩ }
  let s2 := restartMatching (restartChannels (restartIntake (restartEstimates (restartTracker s1))))
  let s3 := setContacts (s2.setValves (s2.valves.mapIdx (fun _ v => v.restarted)))
  let s4 := (restartWatches s3).setTraps s3.traps.restarted
  judgeAll (restartPort s4)

/-! ## Power (R17, R37, R38, R135, R171, R172, R193, R195) -/

/-- An image after power returns: it fails its check where its memory lost its contents. -/
def Image.kept (i : Image) (k : Bool) : Image := { i with valid := i.valid && k }

/-- The image a power-on takes, and the image state (R17). -/
def chooseImage (a b : Image) : Option Slot × ImageState :=
  match a.valid, b.valid with
  | true, true => (if a.writeCount < b.writeCount then some .second else some .first, .current)
  | true, false => (some .first, if a.writeCount < b.writeCount then .reverted else .current)
  | false, true => (some .second, if b.writeCount < a.writeCount then .reverted else .current)
  | false, false => (none, .empty)

/-- The store at power-on (R17). -/
def loadImages (a b : Image) : ProfileStore where
  running :=
    match (chooseImage a b).1 with
    | some .first => a.contents
    | some .second => b.contents
    | none => Profile.empty
  firstImage := a
  secondImage := b
  currentImage := (chooseImage a b).1
  writing := none
  imageState := (chooseImage a b).2

/-- Retention is valid at power-on (R193). -/
def retentionValid (kept : Bool) (store : ProfileStore) (mark : Geometry) : Bool :=
  kept && store.imageState != .empty && mark == geometryOf store.running

/-- An in-line record at power-on: RUNNING, OVERDUE and STALLED become UNVERIFIED (R37), the estimate time is absent
(R60). -/
def Pig.afterPower (p : Pig) : Pig :=
  let p' := { p with estimate := none }
  match p.status with
  | .running | .overdue | .stalled => { p' with status := .unverified, overdueAt := none, speed := 0 }
  | .staged | .unverified | .arrived => p'

/-- The register at power-on with retention valid. -/
def Register.afterPower (r : Register) : Register := { r with inLine := r.inLine.map Pig.afterPower }

/-- A valve record at power-on, with the manual holds that retention kept (R135). -/
def Valve.afterPower (v : Valve) (valid : Bool) : Valve :=
  ⟨.unknown, if valid then manualHolds v.hold else 0#7, none, none, none, false⟩

/-- The retained records at power-on: kept where retention is valid, written afresh where it is lost (R193). -/
def loadRetention (valid : Bool) (s : State) : State :=
  if valid then ((s.setRegister s.register.afterPower).setTraps s.traps.restarted)
  else
    (((s.setRegister ⟨[], [], [], 1⟩).setTraps ⟨TrapRecord.unknown, TrapRecord.unknown, none⟩).setSignallers
      (Vector.replicate 32 SigRuntime.fresh)).setGeometryMark (geometryOf s.profile)

/-- The start-up sequence (R195). -/
def startUp (first second retention : Bool) (s : State) : State :=
  let store := loadImages (s.store.firstImage.kept first) (s.store.secondImage.kept second)
  let valid := retentionValid retention store s.geometryMark
  let cause := if valid then RestartCause.powerOn else RestartCause.powerOnRetentionLost
  let s1 := ((s.setPowered true).setStore store).setClock ⟨none, ⟨cause, none, none⟩⟩
  let s2 := loadRetention valid s1
  let s3 := restartMatching (restartIntake (restartTracker s2))
  let s4 := s3.setInputUnit { s3.inputUnit with channels := Vector.replicate 8 Channel.idle, msTimer := 0 }
  let s5 := s4.setValves (s4.valves.mapIdx (fun _ v => v.afterPower valid))
  restartPort (restartWatches s5)

/-- The loss of power (R133, R182, R193): every hold contact is de-energised and every attention line de-asserted.
Retention stands as it was. -/
def losePower (s : State) : State :=
  ((s.setPowered false).setValves (s.valves.mapIdx (fun _ v => { v with contact := false }))).setPort
    { s.port with contexts := s.port.contexts.mapIdx (fun _ c => { c with line := false }) }

end Sys2Proof.Machine
end

