-- ==== Sys2Proof/Machine/Clock.lean ====
section
/-! DEFINITION. Machine/Clock.lean: SET LINE TIME, RESTART, power-on, power loss and the advance of the count (R190 to
R196). -/

namespace Sys2Proof.Machine

/-- The data of SET LINE TIME (R191). -/
def clockData (first : Bool) (s : State) : ReplyData := .clock s.now first s.clock.record

def setLineTime (x : Option Nat) (s : State) : State × Answer :=
  match x, s.now with
  | none, _ => done (clockData false s) s
  | some v, none => done (clockData true (firstSetting v s)) (firstSetting v s)
  | some v, some now =>
    if now < v then done (clockData false (jumpTo v s)) (jumpTo v s) else refuse .state s

def execSetLineTime (m : Master) (a : Carried (Option Nat)) (s : State) : Outcome :=
  serve m .setLineTime (withParams a setLineTime) s

def restart (_ : Unit) (s : State) : State × Answer :=
  let s' := restartAll s
  done (.restarted s'.clock.record) s'

def execRestart (m : Master) (a : Carried Unit) (s : State) : Outcome := serve m .restart (withParams a restart) s

/-- Power-on. A part that has power loses it first. -/
def execPowerOn (firstImage secondImage retention : Bool) (s : State) : Outcome :=
  .next ((startUp firstImage secondImage retention s).setReply none)

def execPowerLoss (s : State) : Outcome := .next ((losePower s).setReply none)

/-- While SET the count rises by one and stops at its last value (R190). -/
def execLineTimeAdvance (s : State) : Outcome := happen (timed (fun now s => s.setTime (addTime now 1))) s

end Sys2Proof.Machine
end

