-- ==== Sys2Proof/Machine/Fixes.lean ====
section
/-! DEFINITION. Machine/Fixes.lean: SET SIGNALLER SERVICE, ASSIGN PASSAGE, DISCARD PASSAGE and READ MATCHING (R102,
R111 to R114). -/

namespace Sys2Proof.Machine

/-- Signaller 0 to 31, and defined: RANGE and NO_SUCH otherwise. -/
def withSignaller (n : Nat) (body : State → State × Answer) (s : State) : State × Answer :=
  if 31 < n then refuse .range s
  else if (s.profile.signaller? n).isNone then refuse .noSuch s
  else body s

/-! ## SET SIGNALLER SERVICE (R102) -/

/-- The runtime record after a service setting: IN also clears the missed count. -/
def SigRuntime.serviced (r : SigRuntime) : Service → SigRuntime
  | .inService => { r with service := .inService, missed := 0 }
  | .out => { r with service := .out }

def setSignallerService (x : ServiceArgs) : State → State × Answer :=
  withSignaller x.signaller (fun s =>
    let r := (s.runtime x.signaller).serviced x.service
    (s.setRuntime x.signaller r, .done (.serviceHeld r.service r.missed)))

def execSetSignallerService (m : Master) (a : Carried ServiceArgs) (s : State) : Outcome :=
  serve m .setSignallerService (whenComplete (withParams a setSignallerService)) s

/-! ## ASSIGN PASSAGE (R111, R112) -/

/-- An unmatched entry carries this signaller and sequence number. -/
def UnmatchedEntry.named (signaller sequence : Nat) (e : UnmatchedEntry) : Bool :=
  e.signaller == signaller && e.sequence == sequence

/-- The older entry of that name leaves the unmatched list. -/
def dropUnmatched (signaller sequence : Nat) (s : State) : State :=
  s.setFixUnit { s.fixUnit with unmatched := s.fixUnit.unmatched.eraseP (UnmatchedEntry.named signaller sequence) }

/-- The data of ASSIGN PASSAGE: the pig as the assignment left it. -/
def assignedData (tag : Nat) (s : State) : ReplyData :=
  match s.register.find tag with
  | some p => .assigned (p.position / 1000) p.ratio p.source p.status
  | none => .nothing

/-- Checks 5 to 7 of R111, for a named entry and a named pig. -/
def assignEntry (now : Nat) (e : UnmatchedEntry) (p : Pig) (s : State) : State × Answer :=
  match s.profile.signaller? e.signaller, candidate s e.signaller with
  | some g, some c =>
    if c.tag ≠ p.tag then refuse .interlock s
    else if c.fixedAfter e.time then refuse .stale s
    else
      let s' := dropUnmatched e.signaller e.sequence (applyPassage now g e.passage false c s)
      (s', .done (assignedData p.tag s'))
  | _, _ => refuse .interlock s

def assignPassage (x : AssignArgs) (now : Nat) (s : State) : State × Answer :=
  if 31 < x.signaller ∨ x.tag = 0 then refuse .range s
  else
    match s.fixUnit.unmatched.find? (UnmatchedEntry.named x.signaller x.sequence), s.register.find x.tag with
    | some e, some p => assignEntry now e p s
    | _, _ => refuse .noSuch s

def execAssignPassage (m : Master) (a : Carried AssignArgs) (s : State) : Outcome :=
  serve m .assignPassage (whenComplete (whenTime (fun now => withParams a (fun x => assignPassage x now)))) s

/-! ## DISCARD PASSAGE (R113) -/

def discardPassage (x : DiscardArgs) (s : State) : State × Answer :=
  if 31 < x.signaller then refuse .range s
  else if s.fixUnit.unmatched.any (UnmatchedEntry.named x.signaller x.sequence) then
    let s' := dropUnmatched x.signaller x.sequence s
    (s', .done (.entriesLeft s'.fixUnit.unmatched.length))
  else refuse .noSuch s

def execDiscardPassage (m : Master) (a : Carried DiscardArgs) (s : State) : Outcome :=
  serve m .discardPassage (whenComplete (withParams a discardPassage)) s

/-! ## READ MATCHING (R114) -/

/-- The number of defined signallers OUT of service. -/
def outCount (s : State) : Nat :=
  (List.range 32).countP (fun n => (s.profile.signaller? n).isSome && (s.runtime n).service = .out)

def readMatching (sel : MatchingSel) (s : State) : State × Answer :=
  match sel with
  | .summary => done (.matchingSummary s.fixUnit.unmatched.length s.fixUnit.dropped (outCount s)) s
  | .unmatched k => readPlace s.fixUnit.unmatched 8 k .unmatchedEntry s
  | .signaller n =>
    withSignaller n (fun s =>
      let r := s.runtime n
      done (.serviceRecord r.service r.missed r.passages ((candidate s n).map (·.tag))) s) s

def execReadMatching (m : Master) (a : Carried MatchingSel) (s : State) : Outcome :=
  serve m .readMatching (whenComplete (withParams a readMatching)) s

end Sys2Proof.Machine
end

