-- ==== Sys2Proof/Machine/PortFamily.lean ====
section
/-! DEFINITION. Machine/PortFamily.lean: the attention commands, a command code that names no command, and dropped frames
(R175, R176, R183 to R185). -/

namespace Sys2Proof.Machine

/-! ## READ ATTENTION (R183) -/

/-- Whether a kind is in a set. -/
def holdsKind (set : AttnSet) (k : AttnKind) : Bool := set.getLsbD k.bit

def readAttention (m : Master) (x : Option AttnKind) (s : State) : State × Answer :=
  let c := s.context m
  match x with
  | none => done (.attention c.attention c.enables c.line c.lastRefusal s.port.dropCount s.port.lastDrop) s
  | some k => done (.attentionDetail s.port.detail[k.bit] (holdsKind c.attention k)) s

def execReadAttention (m : Master) (a : Carried (Option AttnKind)) (s : State) : Outcome :=
  serve m .readAttention (withParams a (readAttention m)) s

/-! ## ACKNOWLEDGE ATTENTION and SET ENABLES (R184, R185) -/

/-- DONE with a set of the caller's and its line, from the context as the command left it. -/
def setAnswer (m : Master) (which : Context → AttnSet) (s : State) : State × Answer :=
  done (.attentionSet (which (s.context m)) (s.context m).line) s

def acknowledgeAttention (m : Master) (kinds : AttnSet) (s : State) : State × Answer :=
  let c := s.context m
  setAnswer m (·.attention) (s.setContext m (c.attend (c.attention &&& ~~~kinds)))

def execAcknowledgeAttention (m : Master) (a : Carried AttnSet) (s : State) : Outcome :=
  serve m .acknowledgeAttention (withParams a (acknowledgeAttention m)) s

def setEnables (m : Master) (kinds : AttnSet) (s : State) : State × Answer :=
  setAnswer m (·.enables) (s.setContext m ((s.context m).enable kinds))

def execSetEnables (m : Master) (a : Carried AttnSet) (s : State) : Outcome :=
  serve m .setEnables (withParams a (setEnables m)) s

/-! ## A code that names no command (R176, R178) -/

/-- Refused RANGE; the code recorded is the one carried. -/
def execUnknownCommandCode (m : Master) (code : Nat) (s : State) : Outcome :=
  if s.powered then .next (respond m code (refuse .range s)) else .next (s.setReply none)

/-! ## Dropped frames (R175) -/

/-- A frame is dropped: its cause is counted and recorded, and no reply is sent. -/
def dropFrame (cause : DropCause) (s : State) : State :=
  s.setPort { s.port with dropCount := bump s.port.dropCount, lastDrop := some cause }

/-- A frame of no fault is not dropped. -/
def dropFor (cause : Option DropCause) (s : State) : State :=
  match cause with
  | some c => dropFrame c s
  | none => s

def execFrameDropped (frame : List Byte) (s : State) : Outcome := happen (dropFor (dropCause frame)) s

/-- More than 2 ms between two bytes: the frame is abandoned as MALFORMED. -/
def execByteGapTimeout (s : State) : Outcome := happen (dropFrame .malformed) s

end Sys2Proof.Machine
end

