-- ==== Sys2Proof/Machine/TrapFamily.lean ====
section
/-! DEFINITION. Machine/TrapFamily.lean: the commands and timers of the traps (R154 to R170). -/

namespace Sys2Proof.Machine

/-! ## REPORT PRESSURE (R154) -/

/-- A pressure on the bus, 0 to 20,000 kPa. -/
def pressuresOk (x : PressureArgs) : Bool :=
  optWithin 0 20000 x.barrel && optWithin 0 20000 x.line && (x.barrel.isSome || x.line.isSome)

/-- A pressure after a report: an omitted one keeps the value and time held. -/
def newPressure (carried : Option Nat) (now : Option Nat) (held : Option Pressure) : Option Pressure :=
  match carried with
  | some k => some ⟨k, now⟩
  | none => held

/-- The data of REPORT PRESSURE: both pressures held and their difference. -/
def pressureData (r : TrapRecord) : ReplyData :=
  let b := r.barrel.map (·.kPa)
  let l := r.line.map (·.kPa)
  .pressures b l (b.bind (fun x => l.map (pressureGap x)))

def reportPressure (x : PressureArgs) (s : State) : State × Answer :=
  if pressuresOk x then
    let r := s.trap x.trap
    let r' := { r with barrel := newPressure x.barrel s.now r.barrel, line := newPressure x.line s.now r.line }
    (s.setTrap x.trap r', .done (pressureData r'))
  else refuse .range s

def execReportPressure (m : Master) (a : Carried PressureArgs) (s : State) : Outcome :=
  serve m .reportPressure (whenComplete (withParams a reportPressure)) s

/-! ## TRAP STEP and TRAP DONE (R155, R159, R160) -/

/-- Checks 3 to 7 of R155. -/
def trapStep (m : Master) (x : StepArgs) (now : Nat) (s : State) : State × Answer :=
  let r := s.trap x.trap
  if x.step = .drive ∧ x.trap = .receive then refuse .range s
  else if r.step.isSome then refuse .busy s
  else if !(stepFrom x.step).contains r.state then refuse .state s
  else
    match stepRefused s x.trap x.step with
    | some why => (s, .refused why.reason why.data)
    | none =>
      let d := addTime now (tenths (s.profile.stepTime x.trap x.step))
      (s.setTrap x.trap { r with step := some ⟨x.step, m, d⟩, lapsed := none }, .done (.deadline d))

def execTrapStep (m : Master) (a : Carried StepArgs) (s : State) : Outcome :=
  serve m .trapStep (whenComplete (whenTime (fun now => withParams a (fun x => trapStep m x now)))) s

/-- The cases of R160. Each of their replies, a refusal too, carries the trap's state after the command. -/
def trapDone (m : Master) (x : StepArgs) (s : State) : State × Answer :=
  let r := s.trap x.trap
  match r.step with
  | some h =>
    if h.owner ≠ m then refuseWith .notOwner (.trapState r.state) s
    else if h.step ≠ x.step then refuseWith .state (.trapState r.state) s
    else
      let s' := finishStep x.trap x.step s
      (s', .done (.trapState (s'.trap x.trap).state))
  | none =>
    if r.lapsed = some ⟨x.step, m⟩ then
      (s.setTrap x.trap { r with lapsed := none }, .late (.trapState r.state))
    else refuseWith .state (.trapState r.state) s

def execTrapDone (m : Master) (a : Carried StepArgs) (s : State) : Outcome :=
  serve m .trapDone (whenComplete (withParams a (trapDone m))) s

def execTrapStepDeadline (t : TrapId) (s : State) : Outcome :=
  happen (timed (fun now s => if stepDue now t s then expireStep t s else s)) s

/-! ## STAGE PIG and REMOVE PIG (R164, R165) -/

def stagePig (x : StageArgs) (s : State) : State × Answer :=
  if s.traps.launch.state ≠ .doorOpen then refuse .state s
  else if s.traps.launch.step.isSome then refuse .busy s
  else if !s.register.hasRoom then refuse .full s
  else
    let p := stagedPig s.register.newTag x
    let r := s.register.stage x
    (s.setRegister r, .done (.staged p.tag p.ratio p.source r.launchBarrel.length))

def execStagePig (m : Master) (a : Carried StageArgs) (s : State) : Outcome :=
  serve m .stagePig (whenComplete (withParams a stagePig)) s

def removePigFrom (x : RemoveArgs) (s : State) : State × Answer :=
  if x.tag = 0 then refuse .range s
  else if (s.trap x.trap).state ≠ .doorOpen then refuse .state s
  else if (s.trap x.trap).step.isSome then refuse .busy s
  else if (s.barrel x.trap).any (fun p => p.tag == x.tag) then
    let s' := removePig x.tag s
    (s', .done (.removed (s'.barrel x.trap).length s'.register.size))
  else refuse .noSuch s

def execRemovePig (m : Master) (a : Carried RemoveArgs) (s : State) : Outcome :=
  serve m .removePig (whenComplete (withParams a removePigFrom)) s

/-! ## RECOVER TRAP (R166) -/

/-- The launch overdue deadline after a declaration (R166, R167). -/
def declaredOverdue (s : State) (t : TrapId) (old new : TrapState) : Option Nat :=
  if t = .receive then s.traps.launchOverdue
  else if new = .driving then
    if s.register.launchBarrel.isEmpty then none else s.now.map (launchDeadline s)
  else if old = .driving then none
  else s.traps.launchOverdue

def recoverTrap (x : RecoverArgs) (s : State) : State × Answer :=
  let r := s.trap x.trap
  if x.trap = .receive ∧ x.state = .driving then refuse .range s
  else if r.step.isSome then refuse .busy s
  else
    (trapEvent x.trap ((s.setTrap x.trap { r with state := x.state, lapsed := none }).setLaunchOverdue
      (declaredOverdue s x.trap r.state x.state)), .done .nothing)

def execRecoverTrap (m : Master) (a : Carried RecoverArgs) (s : State) : Outcome :=
  serve m .recoverTrap (whenComplete (withParams a recoverTrap)) s

/-! ## READ TRAP (R170) and the launch overdue deadline (R168) -/

def readTrap (t : TrapId) (s : State) : State × Answer :=
  let tags := (s.barrel t).map (·.tag)
  match t with
  | .launch => done (.launchRecord s.traps.launch tags s.traps.launchOverdue) s
  | .receive =>
    let cap := s.profile.receive.capacity
    done (.receiveRecord s.traps.receive tags cap (cap < s.register.receiveBarrel.length)) s

def execReadTrap (m : Master) (a : Carried TrapId) (s : State) : Outcome :=
  serve m .readTrap (whenComplete (withParams a readTrap)) s

def execLaunchOverdue (s : State) : Outcome :=
  happen (timed (fun now s => if launchDue now s then expireLaunch s else s)) s

end Sys2Proof.Machine
end

