-- ==== Sys2Proof/Machine/Dispatch.lean ====
section
/-! DEFINITION. Machine/Dispatch.lean: one arm per command or event, each a direct call of its meaning. -/

namespace Sys2Proof.Machine

def exec (i : Instr) (s : State) : Host.Outcome State Fault Refusal :=
  match i with
  | .defineLine m a => Sys2Proof.Machine.execDefineLine m a s
  | .defineStation m a => Sys2Proof.Machine.execDefineStation m a s
  | .defineReach m a => Sys2Proof.Machine.execDefineReach m a s
  | .defineSignaller m a => Sys2Proof.Machine.execDefineSignaller m a s
  | .defineTracking m a => Sys2Proof.Machine.execDefineTracking m a s
  | .defineTrap m a => Sys2Proof.Machine.execDefineTrap m a s
  | .defineMaster m a => Sys2Proof.Machine.execDefineMaster m a s
  | .readProfile m a => Sys2Proof.Machine.execReadProfile m a s
  | .decodeChainage m a => Sys2Proof.Machine.execDecodeChainage m a s
  | .readPig m a => Sys2Proof.Machine.execReadPig m a s
  | .cursorSet m a => Sys2Proof.Machine.execCursorSet m a s
  | .cursorRead m a => Sys2Proof.Machine.execCursorRead m a s
  | .setRatio m a => Sys2Proof.Machine.execSetRatio m a s
  | .writeOff m a => Sys2Proof.Machine.execWriteOff m a s
  | .confirm m a => Sys2Proof.Machine.execConfirm m a s
  | .reportFlow m a => Sys2Proof.Machine.execReportFlow m a s
  | .readFlow m a => Sys2Proof.Machine.execReadFlow m a s
  | .queryEta m a => Sys2Proof.Machine.execQueryEta m a s
  | .reportPassage m a => Sys2Proof.Machine.execReportPassage m a s
  | .readIntake m a => Sys2Proof.Machine.execReadIntake m a s
  | .resetFlag m a => Sys2Proof.Machine.execResetFlag m a s
  | .setChannelMode m a => Sys2Proof.Machine.execSetChannelMode m a s
  | .readChannel m a => Sys2Proof.Machine.execReadChannel m a s
  | .setSignallerService m a => Sys2Proof.Machine.execSetSignallerService m a s
  | .assignPassage m a => Sys2Proof.Machine.execAssignPassage m a s
  | .discardPassage m a => Sys2Proof.Machine.execDiscardPassage m a s
  | .readMatching m a => Sys2Proof.Machine.execReadMatching m a s
  | .reportValve m a => Sys2Proof.Machine.execReportValve m a s
  | .setHold m a => Sys2Proof.Machine.execSetHold m a s
  | .releaseHold m a => Sys2Proof.Machine.execReleaseHold m a s
  | .clearHolds m a => Sys2Proof.Machine.execClearHolds m a s
  | .requestStroke m a => Sys2Proof.Machine.execRequestStroke m a s
  | .strokeDone m a => Sys2Proof.Machine.execStrokeDone m a s
  | .notifyForcedStroke m a => Sys2Proof.Machine.execNotifyForcedStroke m a s
  | .readValve m a => Sys2Proof.Machine.execReadValve m a s
  | .setWatch m a => Sys2Proof.Machine.execSetWatch m a s
  | .acknowledgeWatch m a => Sys2Proof.Machine.execAcknowledgeWatch m a s
  | .readWatch m a => Sys2Proof.Machine.execReadWatch m a s
  | .reportPressure m a => Sys2Proof.Machine.execReportPressure m a s
  | .trapStep m a => Sys2Proof.Machine.execTrapStep m a s
  | .trapDone m a => Sys2Proof.Machine.execTrapDone m a s
  | .stagePig m a => Sys2Proof.Machine.execStagePig m a s
  | .removePig m a => Sys2Proof.Machine.execRemovePig m a s
  | .recoverTrap m a => Sys2Proof.Machine.execRecoverTrap m a s
  | .readTrap m a => Sys2Proof.Machine.execReadTrap m a s
  | .readAttention m a => Sys2Proof.Machine.execReadAttention m a s
  | .acknowledgeAttention m a => Sys2Proof.Machine.execAcknowledgeAttention m a s
  | .setEnables m a => Sys2Proof.Machine.execSetEnables m a s
  | .setLineTime m a => Sys2Proof.Machine.execSetLineTime m a s
  | .restart m a => Sys2Proof.Machine.execRestart m a s
  | .unknownCommandCode m code => Sys2Proof.Machine.execUnknownCommandCode m code s
  | .frameDropped frame => Sys2Proof.Machine.execFrameDropped frame s
  | .byteGapTimeout => Sys2Proof.Machine.execByteGapTimeout s
  | .storeWriteComplete => Sys2Proof.Machine.execStoreWriteComplete s
  | .trackerUpdate => Sys2Proof.Machine.execTrackerUpdate s
  | .entryDue => Sys2Proof.Machine.execEntryDue s
  | .permitExpiry station => Sys2Proof.Machine.execPermitExpiry station s
  | .trapStepDeadline t => Sys2Proof.Machine.execTrapStepDeadline t s
  | .watchDelayExpiry station => Sys2Proof.Machine.execWatchDelayExpiry station s
  | .launchOverdue => Sys2Proof.Machine.execLaunchOverdue s
  | .contactLeadingEdge c ms => Sys2Proof.Machine.execContactLeadingEdge c ms s
  | .contactBounce c ms => Sys2Proof.Machine.execContactBounce c ms s
  | .contactClosure c ms => Sys2Proof.Machine.execContactClosure c ms s
  | .pulseLeadingEdge c ms => Sys2Proof.Machine.execPulseLeadingEdge c ms s
  | .pulseTrailingEdge c ms => Sys2Proof.Machine.execPulseTrailingEdge c ms s
  | .pulseFault c ms => Sys2Proof.Machine.execPulseFault c ms s
  | .pulseFaultEnd c ms => Sys2Proof.Machine.execPulseFaultEnd c ms s
  | .pairAEdge c ms => Sys2Proof.Machine.execPairAEdge c ms s
  | .pairBEdge c ms => Sys2Proof.Machine.execPairBEdge c ms s
  | .pairIncomplete c ms => Sys2Proof.Machine.execPairIncomplete c ms s
  | .guardExpiry c ms => Sys2Proof.Machine.execGuardExpiry c ms s
  | .powerOn firstImage secondImage retention => Sys2Proof.Machine.execPowerOn firstImage secondImage retention s
  | .powerLoss => Sys2Proof.Machine.execPowerLoss s
  | .lineTimeAdvance => Sys2Proof.Machine.execLineTimeAdvance s

end Sys2Proof.Machine
end

