-- ==== Sys2Proof/Safety.lean ====
section
/-! DEFINITION. Safety.lean: the terms in which statements speak: which blocks of the state an operation may change, the
master and command of a request, and the laws that every step keeps. -/

namespace Sys2Proof

/-- The master and the command of a request; an event, a dropped frame and an unknown code have none. -/
def Instr.request : Instr → Option (Master × Command)
  | .defineLine m _ => some (m, .defineLine)
  | .defineStation m _ => some (m, .defineStation)
  | .defineReach m _ => some (m, .defineReach)
  | .defineSignaller m _ => some (m, .defineSignaller)
  | .defineTracking m _ => some (m, .defineTracking)
  | .defineTrap m _ => some (m, .defineTrap)
  | .defineMaster m _ => some (m, .defineMaster)
  | .readProfile m _ => some (m, .readProfile)
  | .decodeChainage m _ => some (m, .decodeChainage)
  | .readPig m _ => some (m, .readPig)
  | .cursorSet m _ => some (m, .cursorSet)
  | .cursorRead m _ => some (m, .cursorRead)
  | .setRatio m _ => some (m, .setRatio)
  | .writeOff m _ => some (m, .writeOff)
  | .confirm m _ => some (m, .confirm)
  | .reportFlow m _ => some (m, .reportFlow)
  | .readFlow m _ => some (m, .readFlow)
  | .queryEta m _ => some (m, .queryEta)
  | .reportPassage m _ => some (m, .reportPassage)
  | .readIntake m _ => some (m, .readIntake)
  | .resetFlag m _ => some (m, .resetFlag)
  | .setChannelMode m _ => some (m, .setChannelMode)
  | .readChannel m _ => some (m, .readChannel)
  | .setSignallerService m _ => some (m, .setSignallerService)
  | .assignPassage m _ => some (m, .assignPassage)
  | .discardPassage m _ => some (m, .discardPassage)
  | .readMatching m _ => some (m, .readMatching)
  | .reportValve m _ => some (m, .reportValve)
  | .setHold m _ => some (m, .setHold)
  | .releaseHold m _ => some (m, .releaseHold)
  | .clearHolds m _ => some (m, .clearHolds)
  | .requestStroke m _ => some (m, .requestStroke)
  | .strokeDone m _ => some (m, .strokeDone)
  | .notifyForcedStroke m _ => some (m, .notifyForcedStroke)
  | .readValve m _ => some (m, .readValve)
  | .setWatch m _ => some (m, .setWatch)
  | .acknowledgeWatch m _ => some (m, .acknowledgeWatch)
  | .readWatch m _ => some (m, .readWatch)
  | .reportPressure m _ => some (m, .reportPressure)
  | .trapStep m _ => some (m, .trapStep)
  | .trapDone m _ => some (m, .trapDone)
  | .stagePig m _ => some (m, .stagePig)
  | .removePig m _ => some (m, .removePig)
  | .recoverTrap m _ => some (m, .recoverTrap)
  | .readTrap m _ => some (m, .readTrap)
  | .readAttention m _ => some (m, .readAttention)
  | .acknowledgeAttention m _ => some (m, .acknowledgeAttention)
  | .setEnables m _ => some (m, .setEnables)
  | .setLineTime m _ => some (m, .setLineTime)
  | .restart m _ => some (m, .restart)
  | .unknownCommandCode _ _ => none
  | .frameDropped _ => none
  | .byteGapTimeout => none
  | .storeWriteComplete => none
  | .trackerUpdate => none
  | .entryDue => none
  | .permitExpiry _ => none
  | .trapStepDeadline _ => none
  | .watchDelayExpiry _ => none
  | .launchOverdue => none
  | .contactLeadingEdge _ _ => none
  | .contactBounce _ _ => none
  | .contactClosure _ _ => none
  | .pulseLeadingEdge _ _ => none
  | .pulseTrailingEdge _ _ => none
  | .pulseFault _ _ => none
  | .pulseFaultEnd _ _ => none
  | .pairAEdge _ _ => none
  | .pairBEdge _ _ => none
  | .pairIncomplete _ _ => none
  | .guardExpiry _ _ => none
  | .powerOn _ _ _ => none
  | .powerLoss => none
  | .lineTimeAdvance => none

end Sys2Proof

namespace Sys2Proof.Machine

/-! ## Frames -/

/-- The parts of the state, one for each field. -/
inductive Block
  | powered | port | store | clock | geometryMark | register | tracker | intake | signallers | inputUnit | fixUnit
  | valves | watchUnit | traps | reply | freeCount | pending
deriving DecidableEq, Repr

/-- Two states agree on a block. -/
def State.agrees (s t : State) : Block → Prop
  | .powered => t.powered = s.powered
  | .port => t.port = s.port
  | .store => t.store = s.store
  | .clock => t.clock = s.clock
  | .geometryMark => t.geometryMark = s.geometryMark
  | .register => t.register = s.register
  | .tracker => t.tracker = s.tracker
  | .intake => t.intake = s.intake
  | .signallers => t.signallers = s.signallers
  | .inputUnit => t.inputUnit = s.inputUnit
  | .fixUnit => t.fixUnit = s.fixUnit
  | .valves => t.valves = s.valves
  | .watchUnit => t.watchUnit = s.watchUnit
  | .traps => t.traps = s.traps
  | .reply => t.reply = s.reply
  | .freeCount => t.freeCount = s.freeCount
  | .pending => t.pending = s.pending

/-- Every block but those named is the same in both states. -/
def OnlyChanges (l : List Block) (s t : State) : Prop := ∀ b, b ∉ l → s.agrees t b

/-- The fields of a context that a posting leaves alone. -/
def Context.own (c : Context) : MasterClass × AttnSet × Option Nat × CursorMode × Option LastRefusal :=
  (c.cls, c.enables, c.cursorTag, c.cursorMode, c.lastRefusal)

/-- The fields of a valve record that the approach watches leave alone: all but the WATCH member and the contact. -/
def Valve.own (v : Valve) : ValvePos × HoldSet × Option Permit × Option LapsedPermit × Option ForcedStroke :=
  (v.position, manualHolds v.hold, v.permit, v.lapsed, v.forced)

/-- Every context keeps its class, enables, cursor and last refusal, and the drop record stays: all of the port but what
postings write. -/
def ContextsKept (s t : State) : Prop :=
  (∀ m : Master, (t.context m).own = (s.context m).own) ∧
    t.port.dropCount = s.port.dropCount ∧ t.port.lastDrop = s.port.lastDrop

/-- What a judgement of the watches may change (R139 to R148): the watches, the WATCH members with the contacts, and
postings. -/
def WatchEffects (s t : State) : Prop :=
  OnlyChanges [.port, .valves, .watchUnit] s t ∧
    (∀ m : Master, (t.context m).own = (s.context m).own) ∧
    (∀ st : Fin 16, t.valves[st].own = s.valves[st].own) ∧
    t.port.dropCount = s.port.dropCount ∧ t.port.lastDrop = s.port.lastDrop

/-! ## Requests -/

/-- The part has power and the caller's class is one of these (R179). -/
def State.serves (s : State) (m : Master) (l : List MasterClass) : Prop :=
  s.powered = true ∧ (s.context m).cls ∈ l

/-- Besides, the profile is complete (R15). -/
def State.able (s : State) (m : Master) (l : List MasterClass) : Prop := s.serves m l ∧ s.profile.complete = true

/-- The reply frame that stands in the state: its outcome, and the marks of the state that the command left (R177). -/
def Replied (m : Master) (a : Answer) (t : State) : Prop :=
  t.reply = some ⟨m, a, (t.context m).attention != 0#16, (t.context m).attention.getLsbD 0⟩

/-- A refusal with its data: the caller's last refusal and the reply change, and nothing else (R178). -/
def RefusesWith (i : Instr) (r : Reason) (d : ReplyData) (s : State) : Prop :=
  ∃ m k, i.request = some (m, k) ∧
    exec i s = .next (sendReply m (.refused r d)
      (s.setContext m { s.context m with lastRefusal := some ⟨k.code, r, s.now⟩ }))

/-- A refusal without data. -/
def Refuses (i : Instr) (r : Reason) (s : State) : Prop := RefusesWith i r .nothing s

/-- A command whose reply names the outcome and changes nothing else. -/
def AnswersOnly (i : Instr) (a : Answer) (s : State) : Prop :=
  ∃ m k, i.request = some (m, k) ∧ exec i s = .next (sendReply m a s)

/-! ## Postings (R181) -/

/-- One kind was posted once for each of these subjects, in this order, and not otherwise: its detail entry and its bit in
every attention set. The line time of the entry is that of the state after. -/
def Posted (k : AttnKind) (subjects : List Subject) (s t : State) : Prop :=
  t.port.detail[k.bit] =
      (match subjects.getLast? with
      | none => s.port.detail[k.bit]
      | some x => ⟨some x, t.now, min (s.port.detail[k.bit].count + subjects.length) 65535⟩) ∧
    ∀ m : Master, (t.context m).attention.getLsbD k.bit.val =
      ((s.context m).attention.getLsbD k.bit.val || !subjects.isEmpty)

/-- One kind was posted once for each of these subjects, in an order that no rule states: the subject left in its detail
entry is one of them. -/
def PostedSomehow (k : AttnKind) (subjects : List Subject) (s t : State) : Prop :=
  (subjects = [] → t.port.detail[k.bit] = s.port.detail[k.bit]) ∧
    (subjects ≠ [] → ∃ x ∈ subjects,
      t.port.detail[k.bit] = ⟨some x, t.now, min (s.port.detail[k.bit].count + subjects.length) 65535⟩) ∧
    ∀ m : Master, (t.context m).attention.getLsbD k.bit.val =
      ((s.context m).attention.getLsbD k.bit.val || !subjects.isEmpty)

/-- One kind was posted `times st` times for each station, the stations in rising index, and not otherwise. -/
def PostedAt (k : AttnKind) (times : Fin 16 → Nat) (subject : Fin 16 → Subject) (s t : State) : Prop :=
  Posted k ((List.finRange 16).flatMap (fun st => List.replicate (times st) (subject st))) s t

/-- Postings of these kinds are all that changed in the port. -/
def PostsOnly (kinds : List AttnKind) (s t : State) : Prop :=
  ContextsKept s t ∧ ∀ k : AttnKind, k ∉ kinds → Posted k [] s t

/-- The kinds that the watches post (R147, R148). -/
def watchKinds : List AttnKind := [.approach, .trapEvent, .holdChange]

/-! ## Hold sets (R120, R133) -/

/-- The membership of one station's hold set becomes `h`: a change sets the contact anew, and posts HOLD_CHANGE where the
set passes between empty and non-empty. -/
def HoldChanged (st : Fin 16) (h : HoldSet) (s t : State) : Prop :=
  OnlyChanges [.valves, .port, .reply] s t ∧
    (∀ k : Fin 16, k ≠ st → t.valves[k] = s.valves[k]) ∧
    (t.valves[st].position = s.valves[st].position ∧ t.valves[st].permit = s.valves[st].permit ∧
      t.valves[st].lapsed = s.valves[st].lapsed ∧ t.valves[st].forced = s.valves[st].forced) ∧
    t.valves[st].hold = h ∧
    (h = s.valves[st].hold → t.valves[st].contact = s.valves[st].contact) ∧
    (h ≠ s.valves[st].hold →
      t.valves[st].contact = (s.now.isSome && decide (st.val < s.profile.count) && h == 0#7)) ∧
    (((h = 0#7) ↔ (s.valves[st].hold = 0#7)) → t.port = s.port) ∧
    (¬ ((h = 0#7) ↔ (s.valves[st].hold = 0#7)) →
      t.port = (post .holdChange (some (.station st)) s).port)

/-- 1 where a hold set passes between empty and non-empty, and so posts HOLD_CHANGE once (R120); 0 where it does not. -/
def crossing (old new : HoldSet) : Nat := if old = 0#7 ↔ new = 0#7 then 0 else 1

/-! ## What a judgement does to a watch (R139 to R148) -/

/-- The make condition (R141). -/
def WatchCfg.Makes (c : WatchCfg) : WatchValue → Prop
  | .noValue => False
  | .value n => n ≤ c.threshold * (match c.source with | .distance => 1000 | .eta => 1)

/-- The break condition (R141). -/
def WatchCfg.Breaks (c : WatchCfg) : WatchValue → Prop
  | .noValue => True
  | .value n => (c.threshold + c.hysteresis) * (match c.source with | .distance => 1000 | .eta => 1) < n

/-- The value of a watch over a pig, by its source (R140). -/
def Reads (src : WatchSource) (x : Station) : Option Pig → WatchValue → Prop
  | none, v => v = .noValue
  | some p, v =>
    (src = .distance → v = .value (x.chainage * 1000 - p.position)) ∧
      (src = .eta → x.chainage * 1000 ≤ p.position → v = .value 0) ∧
      (src = .eta → p.position < x.chainage * 1000 → p.speed = 0 → v = .noValue) ∧
      (src = .eta → p.position < x.chainage * 1000 → p.speed ≠ 0 →
        v = .value ((x.chainage * 1000 - p.position + p.speed - 1) / p.speed))

/-- Where a judgement takes a watch that is not to be OFF from a state and its delay, by the value: the state after, and
its delay (R143, R144, R146). `first` is the unit's first judgement after a restart. OFF is judged as CLEAR (R139). -/
def WatchCfg.Goes (c : WatchCfg) (first : Bool) (now : Nat) (v : WatchValue) (old new : WatchState × Option Delay) :
    Prop :=
  let clear := old.1 = .off ∨ old.1 = .clear
  let inhibited := first = true ∧ c.startInhibit = true
  let delayed := fun seconds : Nat => some (Delay.mk now (min (now + seconds * 10) 4294967295))
  let broken := if c.latch then WatchState.latched else .clear
  (clear → ¬ c.Makes v → new = (.clear, none)) ∧
    (clear → c.Makes v → inhibited → new = (.inhibited, none)) ∧
    (clear → c.Makes v → ¬ inhibited → c.makeDelay = 0 → new = (.made, none)) ∧
    (clear → c.Makes v → ¬ inhibited → c.makeDelay ≠ 0 → new = (.making, delayed c.makeDelay)) ∧
    (old.1 = .making → c.Makes v → new = (.making, old.2)) ∧
    (old.1 = .making → ¬ c.Makes v → new = (.clear, none)) ∧
    (old.1 = .made → ¬ c.Breaks v → new = (.made, none)) ∧
    (old.1 = .made → c.Breaks v → c.breakDelay = 0 → new = (broken, none)) ∧
    (old.1 = .made → c.Breaks v → c.breakDelay ≠ 0 → new = (.breaking, delayed c.breakDelay)) ∧
    (old.1 = .breaking → c.Breaks v → new = (.breaking, old.2)) ∧
    (old.1 = .breaking → ¬ c.Breaks v → new = (.made, none)) ∧
    (old.1 = .latched → c.Makes v → new = (.made, none)) ∧
    (old.1 = .latched → ¬ c.Makes v → new = (.latched, none)) ∧
    (old.1 = .inhibited → c.Breaks v → new = (.clear, none)) ∧
    (old.1 = .inhibited → ¬ c.Breaks v → new = (.inhibited, none))

/-- A judgement takes the watch of a station from one record to another, on the profile and the in-line list of a state:
OFF where it is disabled or its station undefined, and else the tag of the most downstream pig that is not beyond the
zone end, the value, and the state and delay by them (R139 to R146). -/
def WatchJudged (s : State) (first : Bool) (now : Nat) (st : Fin 16) (old new : Watch) : Prop :=
  let c := s.profile.watches[st]
  new.lastJudged = some now ∧
    (c.enabled = false ∨ s.profile.count ≤ st.val ∨ s.profile.station? st = none →
      new = ⟨.off, none, none, none, some now⟩) ∧
    ∀ x, c.enabled = true → st.val < s.profile.count → s.profile.station? st = some x →
      let watched := s.register.inLine.find? (fun p => p.position ≤ (x.chainage + x.halfWidth) * 1000)
      new.tag = watched.map (·.tag) ∧
        ∃ v, new.value = some v ∧ Reads c.source x watched v ∧
          c.Goes first now v (old.state, old.delay) (new.state, new.delay)

/-- 1 where a watch enters MADE, and so takes its actions once (R148); 0 where it does not. -/
def entersMade (old new : Watch) : Nat := if new.state = .made ∧ old.state ≠ .made then 1 else 0

/-- A hold set with WATCH a member exactly where the watch has HOLD and is MADE, BREAKING, LATCHED or INHIBITED
(R147). -/
def heldBy (c : WatchCfg) (w : Watch) (h : HoldSet) : HoldSet :=
  if c.actions.hold ∧ w.state ∈ [WatchState.made, .breaking, .latched, .inhibited] then h ||| 0x40#7 else manualHolds h

/-- The actions besides HOLD of watches that entered MADE `entries st` times (R148): APPROACH with NOTIFY, and TRAP_EVENT
with ARM_CHECK where the receive trap is not LINED_UP. -/
def ActionsPosted (entries : Fin 16 → Nat) (s t : State) : Prop :=
  PostedAt .approach (fun st => if (t.watchCfg st).actions.notify then entries st else 0) (fun st => .station st) s t ∧
    PostedAt .trapEvent
      (fun st => if (t.watchCfg st).actions.armCheck ∧ t.traps.receive.state ≠ .linedUp then entries st else 0)
      (fun _ => .trap .receive) s t

/-- Every watch was judged, from the watches and hold sets of one state to those of the other, on the profile, the in-line
list, the line time and the traps of the second (R142): each watch, its WATCH member, and what that posts. -/
def WatchesJudged (s t : State) : Prop :=
  ∀ now, t.now = some now →
    let old := fun st : Fin 16 => s.watchUnit.watches[st]
    let new := fun st : Fin 16 => t.watchUnit.watches[st]
    t.watchUnit.firstPending = false ∧
      (∀ st : Fin 16, WatchJudged t s.watchUnit.firstPending now st (old st) (new st) ∧
        t.valves[st].hold = heldBy (t.watchCfg st) (new st) s.valves[st].hold) ∧
      ActionsPosted (fun st => entersMade (old st) (new st)) s t ∧
      PostedAt .holdChange (fun st => crossing s.valves[st].hold t.valves[st].hold) (fun st => .station st) s t

/-- One watch was judged alone (R138, R149): from a record set up for it, with its HOLD applied, on the profile, the
in-line list, the line time and the traps of the second state. `before` is how often it had entered MADE by then. -/
def OneWatchJudged (st : Fin 16) (setUp : Watch) (before : Nat) (s t : State) : Prop :=
  let c := t.watchCfg st
  let new := t.watchUnit.watches[st]
  let held := heldBy c setUp s.valves[st].hold
  let alone := fun (n : Nat) (k : Fin 16) => if k = st then n else 0
  (∀ now, t.now = some now → WatchJudged t false now st setUp new) ∧ (t.now = none → new = setUp) ∧
    t.valves[st].hold = heldBy c new held ∧
    PostedAt .approach (alone (if c.actions.notify then before + entersMade setUp new else 0)) (fun k => .station k) s t ∧
    PostedAt .trapEvent
      (alone (if c.actions.armCheck ∧ t.traps.receive.state ≠ .linedUp then before + entersMade setUp new else 0))
      (fun _ => .trap .receive) s t ∧
    PostedAt .holdChange (alone (crossing s.valves[st].hold held + crossing held t.valves[st].hold))
      (fun k => .station k) s t

/-! ## The profile store (R1, R2, R193) -/

/-- A profile command has been taken: the running copy is the new one, its store write has begun in the image that is
not current, and the geometry mark follows a changed geometry. -/
def ProfileTaken (p : Profile) (s t : State) : Prop :=
  t.store.running = p ∧ t.store.writing = some s.store.target ∧
    t.store.image s.store.target = ⟨s.store.count + 1, false, p⟩ ∧
    (∀ slot, slot ≠ s.store.target → t.store.image slot = s.store.image slot) ∧
    t.store.currentImage = s.store.currentImage ∧ t.store.imageState = s.store.imageState ∧
    t.geometryMark = if geometryOf p = geometryOf s.profile then s.geometryMark else geometryOf p

/-- The range check of SET CHANNEL MODE over its fields and the item that would result (R14, R88). -/
def ChannelFits (p : Profile) (c : Fin 8) (x : ChannelArgs) : Prop :=
  let cfg := channelFrom x p.channels[c]
  (∀ n, x.minWidth = some n → 5 ≤ n ∧ n ≤ 500) ∧ (∀ n, x.maxWidth = some n → 50 ≤ n ∧ n ≤ 10000) ∧
    (∀ n, x.spacing = some n → 200 ≤ n ∧ n ≤ 10000) ∧ (∀ n, x.interval = some n → 100 ≤ n ∧ n ≤ 30000) ∧
    (x.mode = .off → x.signaller = none ∧ x.minWidth = none ∧ x.maxWidth = none ∧ x.spacing = none ∧
      x.interval = none) ∧
    cfg.minWidth < cfg.maxWidth ∧
    (x.mode ≠ .off → ∃ n g, cfg.signaller = some n ∧ p.signaller? n = some g ∧ g.source = .localInput) ∧
    (x.mode = .pair → c.val % 2 = 0 ∧ ∀ d : Fin 8, d.val = c.val + 1 → p.channels[d].mode = .off)

/-- The channel conflict check of SET CHANNEL MODE finds a conflict (R88). -/
def ChannelConflicts (p : Profile) (c : Fin 8) (x : ChannelArgs) : Prop :=
  x.mode ≠ .off ∧
    ((∃ d : Fin 8, d ≠ c ∧ p.channels[d].mode ≠ .off ∧
        p.channels[d].signaller = (channelFrom x p.channels[c]).signaller) ∨
      c.val % 2 = 1 ∧ ∃ d : Fin 8, d.val + 1 = c.val ∧ p.channels[d].mode = .pair)

/-- The range check of SET WATCH for a station within 0 to 15, by the source the watch will have (R137). -/
def WatchFits (held : WatchCfg) (x : WatchArgs) : Prop :=
  let limit := match x.source.getD held.source with | .distance => 50000 | .eta => 36000
  (∀ n, x.threshold = some n ∨ x.hysteresis = some n → n ≤ limit) ∧
    (∀ n, x.makeDelay = some n ∨ x.breakDelay = some n → n ≤ 3600) ∧
    (x.source.getD held.source ≠ held.source → x.threshold ≠ none ∧ x.hysteresis ≠ none)

/-- A trap has a parameter, and a value is in its range (the table of R12). -/
def TrapTakes (t : TrapId) (v : Nat) : TrapParam → Prop
  | .openDoorTime | .closeDoorTime | .fillTime | .lineUpTime | .isolateTime | .ventTime => 10 ≤ v ∧ v ≤ 3600
  | .driveTime => t = .launch ∧ 10 ≤ v ∧ v ≤ 3600
  | .ventLimit => v ≤ 500
  | .equaliseBand => 10 ≤ v ∧ v ≤ 2000
  | .launchSpacing => t = .launch ∧ v ≤ 50000
  | .launchOverdueTime => t = .launch ∧ 60 ≤ v ∧ v ≤ 3600
  | .guardDistance => t = .receive ∧ v ≤ 50000
  | .barrelCapacity => t = .receive ∧ 1 ≤ v ∧ v ≤ 4

/-- The value of a parameter that both traps have (R12). -/
def TrapCommon.get (c : TrapCommon) : TrapParam → Option Nat
  | .openDoorTime => some c.openDoorTime
  | .closeDoorTime => some c.closeDoorTime
  | .fillTime => some c.fillTime
  | .lineUpTime => some c.lineUpTime
  | .isolateTime => some c.isolateTime
  | .ventTime => some c.ventTime
  | .ventLimit => some c.ventLimit
  | .equaliseBand => some c.equaliseBand
  | .driveTime | .launchSpacing | .launchOverdueTime | .guardDistance | .barrelCapacity => none

/-- The value of a trap parameter, absent where the trap does not have it (R12). -/
def Profile.trapParam (p : Profile) : TrapId → TrapParam → Option Nat
  | .launch, .driveTime => some p.launch.driveTime
  | .launch, .launchSpacing => some p.launch.spacing
  | .launch, .launchOverdueTime => some p.launch.overdueTime
  | .receive, .guardDistance => some p.receive.guardDistance
  | .receive, .barrelCapacity => some p.receive.capacity
  | t, x => (p.trapCommon t).get x

/-! ## A forward setting of line time (R192) -/

/-- The event by which a timer runs out in the ordinary run of the clock. -/
def Timer.event : Timer → Instr
  | .update => .trackerUpdate
  | .entry => .entryDue
  | .permit st => .permitExpiry st
  | .step t => .trapStepDeadline t
  | .delay st => .watchDelayExpiry st
  | .launch => .launchOverdue

/-- Timers run out one after another at line time `v`, each with the earliest deadline of those that stand and as its own
event does; when the last has run out none is left that `v` reaches. The free value of equal deadlines counts on. -/
def RunsOut (v : Nat) : List Timer → State → State → Prop
  | [], s, u => u = s ∧ ∀ t d, deadlineOf s t = some d → v < d
  | t :: rest, s, u =>
    (∃ d, deadlineOf s t = some d ∧ d ≤ v ∧ ∀ t' d', deadlineOf s t' = some d' → d ≤ d') ∧
      ∃ n next, exec t.event (s.setFreeCount n) = .next next ∧ RunsOut v rest (next.setReply s.reply) u

/-! ## The places of stations and signallers (R6, R7, R10) -/

/-- The place of a station on the line: the first at 0, the last at L, any other strictly between (R6). -/
def StationPlace (p : Profile) (i c : Nat) : Prop :=
  (i = 0 → c = 0) ∧ (i ≠ 0 → i + 1 = p.count → c = p.lineEnd) ∧ (i ≠ 0 → i + 1 ≠ p.count → 0 < c ∧ c < p.lineEnd)

/-- Two stations lie at least 500 m apart and their zones do not touch (R7). -/
def StationsApart (lower upper : Station) : Prop :=
  lower.chainage + 500 ≤ upper.chainage ∧ lower.chainage + lower.halfWidth + upper.halfWidth < upper.chainage

/-- A station fits between its nearest defined neighbours (R7). -/
def StationRoom (p : Profile) (i : Nat) (st : Station) : Prop :=
  (∀ j l, j < i → p.station? j = some l → (∀ k, j < k → k < i → p.station? k = none) → StationsApart l st) ∧
    ∀ j u, i < j → j < p.count → p.station? j = some u → (∀ k, i < k → k < j → p.station? k = none) →
      StationsApart st u

/-- Signaller i at chainage a lies below its neighbour above at b, and by 100 m where it is not signaller 0 (R10). -/
def SignallersRise (i a b : Nat) : Prop := a < b ∧ (i ≠ 0 → a + 100 ≤ b)

/-- A signaller fits the line and its nearest defined neighbours (R10). -/
def SignallerRoom (p : Profile) (n c : Nat) : Prop :=
  (n = 0 → 10 ≤ c ∧ c ≤ 200) ∧ (n ≠ 0 → c ≤ p.lineEnd) ∧
    (∀ j l, j < n → p.signaller? j = some l → (∀ k, j < k → k < n → p.signaller? k = none) →
      SignallersRise j l.chainage c) ∧
    ∀ j u, n < j → j < 32 → p.signaller? j = some u → (∀ k, n < k → k < j → p.signaller? k = none) →
      SignallersRise n c u.chainage

/-- The items of the geometry and of tracking lie in their ranges, and its stations and signallers in their places (R5 to
R8, R10, R11). -/
def Profile.Lawful (p : Profile) : Prop :=
  (∀ d, p.line = some d → 2 ≤ d.count ∧ d.count ≤ 16 ∧ 1000 ≤ d.lineEnd ∧ d.lineEnd ≤ 999999) ∧
    (∀ i st, p.station? i = some st → i < p.count ∧ StationPlace p i st.chainage ∧
      5 ≤ st.halfWidth ∧ st.halfWidth ≤ 2000 ∧ 5 ≤ st.strokeTime ∧ st.strokeTime ≤ 600) ∧
    (∀ i j a b, i < j → p.station? i = some a → p.station? j = some b → StationsApart a b) ∧
    (∀ i r, p.reach? i = some r → i + 1 < p.count ∧ 50 ≤ r.area ∧ r.area ≤ 20000 ∧ 60 ≤ r.stallTime ∧
      r.stallTime ≤ 7200 ∧ 10 ≤ r.flowTimeout ∧ r.flowTimeout ≤ 600) ∧
    (∀ n g, p.signaller? n = some g → p.line ≠ none ∧ g.chainage ≤ p.lineEnd ∧
      (n = 0 → 10 ≤ g.chainage ∧ g.chainage ≤ 200) ∧ 10 ≤ g.window ∧ g.window ≤ 20000) ∧
    (∀ i j a b, i < j → p.signaller? i = some a → p.signaller? j = some b → SignallersRise i a.chainage b.chainage) ∧
    1 ≤ p.tracking.period ∧ p.tracking.period ≤ 60 ∧ p.tracking.holdBack ≤ 120 ∧ p.tracking.weight ≤ 16

/-! ## Positions (R25, R51, R52, R97) -/

/-- Each pig lies at least 1,000 mm below the pig ahead of it. -/
def Separated : List Pig → Prop
  | a :: b :: rest => b.position + 1000 ≤ a.position ∧ Separated (b :: rest)
  | _ => True

/-- The least number with a property. -/
def Least (P : Nat → Prop) (m : Nat) : Prop := P m ∧ ∀ x, P x → m ≤ x

/-- The first signaller, in rising index and so in rising chainage, that is IN service and lies above a chainage in
millimetres (R51). -/
def FirstInService (s : State) (above n : Nat) (g : Signaller) : Prop :=
  s.profile.signaller? n = some g ∧ (s.runtime n).service = .inService ∧ above < g.chainage * 1000 ∧
    ∀ k h, k < n → s.profile.signaller? k = some h → (s.runtime k).service = .inService → h.chainage * 1000 ≤ above

/-- The limits that hold a position (R51, R97): the line end, the pig ahead, the signaller limit above a chainage, and
the zone starts, from a place on, of the stations whose valves stand CLOSED. -/
def Limit (s : State) (above : Option Nat) (place : Nat) (ahead : Option Nat) (x : Nat) : Prop :=
  x = s.profile.lineEnd * 1000 ∨ (∃ a, ahead = some a ∧ x = a - 1000) ∨
    (∃ c n g, above = some c ∧ FirstInService s c n g ∧ x = (g.chainage + g.window) * 1000) ∨
    ∃ (i : Fin 16) (st : Station), s.profile.station? i = some st ∧ i.val < s.profile.count ∧
      s.valves[i].position = .closed ∧ (place : Int) ≤ ((st.chainage : Int) - st.halfWidth) * 1000 ∧
      (x : Int) = ((st.chainage : Int) - st.halfWidth) * 1000

/-- Where a passage places a pig (R97): the least of the signaller's chainage plus the extrapolation, and the limits from
there on. `speed` is the measured speed, or the pig's by its ratio. -/
def PlacedAt (s : State) (now : Nat) (g : Signaller) (time : Nat) (speed : Option Nat) (ratio : Nat)
    (ahead : Option Nat) (position : Nat) : Prop :=
  let at0 := g.chainage * 1000
  Least (fun x => x = at0 + speed.getD (velocityAt s at0 * ratio / 1000) * (now - time) / 10 ∨
    Limit s (some at0) at0 ahead x) position

/-- What an update leaves alone in a record (R47 to R55). -/
def Pig.identity (p : Pig) : Nat × PigKind × Nat × RatioSource × Option LastFix × Option Nat × Option Nat × Option Int :=
  (p.tag, p.kind, p.ratio, p.source, p.lastFix, p.launchTime, p.arrivalTime, p.error)

/-! ## Laws that every step keeps -/

/-- R182: a master's line is asserted exactly while its attention set and enable set share a kind, and de-asserted
while the part is without power. -/
def AttentionLineLaw (s : State) : Prop :=
  ∀ m : Master, (s.context m).line = (s.powered && (s.context m).attention &&& (s.context m).enables != 0#16)

/-- R133: a station's contact is energised exactly while the part has power, line time is set, the station is one of
the line, and its hold set is empty. -/
def HoldContactLaw (s : State) : Prop :=
  ∀ st : Fin 16, s.valves[st].contact =
    (s.powered && s.now.isSome && decide (st.val < s.profile.count) && s.valves[st].hold == 0#7)

/-- R147: WATCH is a member of a station's hold set exactly while the station's watch has HOLD among its actions and
is MADE, BREAKING, LATCHED or INHIBITED. -/
def WatchMemberLaw (s : State) : Prop :=
  ∀ st : Fin 16, s.valves[st].hold.getLsbD 6 =
    ((s.watchCfg st).actions.hold && decide (s.watchUnit.watches[st].state ∈
      [WatchState.made, .breaking, .latched, .inhibited]))

/-- The status of every record of a list is one of those named. -/
def allStatus (l : List Pig) (statuses : List PigStatus) : Prop := ∀ p ∈ l, p.status ∈ statuses

/-- R20 to R24: tags from 1 to 255, no two alike; at most 12 records, at most 2 of them STAGED; ratios from 100 to
1,000; each list holds the statuses that belong in it. -/
def RegisterLaw (s : State) : Prop :=
  (s.register.view.map (·.tag)).Nodup ∧
    (∀ p ∈ s.register.view, 1 ≤ p.tag ∧ p.tag ≤ 255 ∧ 100 ≤ p.ratio ∧ p.ratio ≤ 1000) ∧
    s.register.view.length ≤ 12 ∧ s.register.launchBarrel.length ≤ 2 ∧
    1 ≤ s.register.tagCounter ∧ s.register.tagCounter ≤ 255 ∧
    allStatus s.register.receiveBarrel [.arrived] ∧
    allStatus s.register.inLine [.running, .overdue, .stalled, .unverified] ∧
    allStatus s.register.launchBarrel [.staged]

/-- The optional fields that the status of a record calls for (the table of R19). -/
def Pig.fieldsFit (p : Pig) : Prop :=
  (p.lastFix.isSome ↔ p.status ≠ .staged) ∧
    (p.overdueAt.isSome ↔ p.status = .overdue ∨ p.status = .stalled) ∧
    (p.launchTime.isSome ↔ p.status ≠ .staged) ∧
    (p.arrivalTime.isSome ↔ p.status = .arrived) ∧
    (p.status = .staged → p.error = none)

/-- R19: every record carries the optional fields that its status calls for, and lacks the others. -/
def OptionalFieldsLaw (s : State) : Prop := ∀ p ∈ s.register.view, p.fieldsFit

/-- R62, R109: the intake list is in non-decreasing event-time order, no two of its entries share a signaller and a
sequence number, and it holds at most 24; the unmatched list holds at most 8. -/
def ListsLaw (s : State) : Prop :=
  s.intake.entries.Pairwise (fun a b => a.time ≤ b.time) ∧
    (s.intake.entries.map (fun e => (e.signaller, e.sequence))).Nodup ∧ s.intake.entries.length ≤ 24 ∧
    s.fixUnit.unmatched.length ≤ 8

/-- R152, R155, R166: the receive trap is never DRIVING and has no DRIVE in progress, and an UNKNOWN trap has no step
in progress. -/
def TrapLaw (s : State) : Prop :=
  s.traps.receive.state ≠ .driving ∧ (∀ h, s.traps.receive.step = some h → h.step ≠ .drive) ∧
    (∀ t : TrapId, (s.trap t).state = .unknown → (s.trap t).step = none)

/-- R13, R179: every context holds the class of its profile item, and some master is SERVICE, in the running copy and
in both images, so that it is so after any power-on. -/
def ServiceLaw (s : State) : Prop :=
  (∀ m : Master, (s.context m).cls = s.profile.masters[m]) ∧ (∃ m : Master, s.profile.masters[m] = .service) ∧
    (∃ m : Master, s.store.firstImage.contents.masters[m] = .service) ∧
    (∃ m : Master, s.store.secondImage.contents.masters[m] = .service)

/-- R25: every in-line position lies at or below L, and 1,000 mm or more below every position ahead of it. Where the pig
ahead lies below 1,000 mm the pig behind lies at 0 (notes/assumptions/23.md). -/
def InLineLaw (s : State) : Prop :=
  s.register.inLine.Pairwise (fun a b => b.position ≤ a.position - 1000) ∧
    ∀ p ∈ s.register.inLine, p.position ≤ s.profile.lineEnd * 1000

/-- R5 to R8, R10, R11: the running copy and both images are in order. -/
def ProfileLaw (s : State) : Prop :=
  s.profile.Lawful ∧ s.store.firstImage.contents.Lawful ∧ s.store.secondImage.contents.Lawful

/-- R4, R15, R164: while the register holds a record the profile is complete. -/
def CompleteLaw (s : State) : Prop := s.register.view ≠ [] → s.profile.complete = true

/-- R193: the geometry mark is that of the running copy. -/
def GeometryMarkLaw (s : State) : Prop := s.geometryMark = geometryOf s.profile

end Sys2Proof.Machine
end

