-- ==== Sys2Proof/Certificates/Slice0/Obligations.lean ====
section
/-! DEFINITION. Certificates/Slice0/Obligations.lean: the statements for the provers. -/

open Sys2Proof Sys2Proof.Machine

/-! ## Steps, frames and the port -/

/-- A step takes the command at the front of the queue and runs it on the state with the rest of the queue; on an empty
queue the part idles (the model's choice, notes/assumptions/1.md). -/
def Obligations.StepTakesTheFront : Prop :=
  (∀ (s : State) (c : Instr) (rest : List Instr), s.pending = c :: rest → step s = exec c (s.setPending rest)) ∧
    ∀ s : State, s.pending = [] → step s = .next s

/-- Every command and event is taken to a next state in every state, and leaves the queue alone. That nothing stops
the part is the model's choice (notes/assumptions/30.md), as is an event sent before its condition holds
(notes/assumptions/2.md). -/
def Obligations.EveryCommandCompletes : Prop :=
  ∀ (i : Instr) (s : State), ∃ t, exec i s = .next t ∧ t.pending = s.pending

/-- A frame with a master number from 0 to 5, at most 32 bytes of parameters and the CRC of its bytes is the request of
that master; its code is that of the command it names, or names none (R174, R176, R187, R189). -/
def Obligations.CheckedFramesAreRequests : Prop :=
  ∀ (m : Master) (code : Byte) (params : List Byte), params.length ≤ 32 →
    let body := BitVec.ofNat 8 (32 * m.val) :: code :: BitVec.ofNat 8 params.length :: params
    let crc := crc16 body
    decodeFrame (0xC3#8 :: (body ++ [crc.extractLsb' 8 8, crc.extractLsb' 0 8])) =
        some (decodeRequest m code.toNat params) ∧
      match (decodeRequest m code.toNat params).request with
      | some r => r.1 = m ∧ r.2.code = code.toNat
      | none => decodeRequest m code.toNat params = .unknownCommandCode m code.toNat ∧
          (code.toNat = 0 ∨ 50 < code.toNat)

/-- The Port drops a frame for its low master bits or its length as soon as they are seen, and a complete frame for its
CRC or its master number (where both are wrong, either may be recorded: notes/assumptions/4.md). A dropped frame raises
the drop count, records its cause, gets no reply and changes nothing else; so does a gap between two bytes (R175). -/
def Obligations.FramesAreDropped : Prop :=
  (∀ (mb : Byte) (rest : List Byte), mb &&& 0x1F#8 ≠ 0#8 → dropCause (mb :: rest) = some .malformed) ∧
    (∀ (mb code len : Byte) (rest : List Byte), mb &&& 0x1F#8 = 0#8 → 32 < len.toNat →
      dropCause (mb :: code :: len :: rest) = some .malformed) ∧
    (∀ (mb code hi lo : Byte) (params : List Byte), mb &&& 0x1F#8 = 0#8 → params.length ≤ 32 →
      let body := mb :: code :: BitVec.ofNat 8 params.length :: params
      let cause := dropCause (body ++ [hi, lo])
      let crcGood := hi = (crc16 body).extractLsb' 8 8 ∧ lo = (crc16 body).extractLsb' 0 8
      (crcGood ∧ mb.toNat < 192 → cause = none) ∧
        (crcGood ∧ 192 ≤ mb.toNat → cause = some .masterNumber) ∧
        (¬ crcGood ∧ mb.toNat < 192 → cause = some .crc) ∧
        (¬ crcGood ∧ 192 ≤ mb.toNat → cause = some .crc ∨ cause = some .masterNumber)) ∧
    (∀ (frame : List Byte) (c : DropCause) (s : State), s.powered = true → dropCause frame = some c →
      ∃ t, exec (.frameDropped frame) s = .next t ∧ OnlyChanges [.port, .reply] s t ∧ t.reply = none ∧
        t.port = { s.port with dropCount := min (s.port.dropCount + 1) 65535, lastDrop := some c }) ∧
    ∀ s : State, s.powered = true →
      ∃ t, exec .byteGapTimeout s = .next t ∧ OnlyChanges [.port, .reply] s t ∧ t.reply = none ∧
        t.port = { s.port with dropCount := min (s.port.dropCount + 1) 65535, lastDrop := some .malformed }

/-- A command not open to the caller's class is refused CLASS, and a code that names no command is refused RANGE, with
the code carried in the last refusal; nothing else changes (R176, R178, R179). While the profile is incomplete every
command but those of R15 is refused STATE; DECODE CHAINAGE checks its range first (R18, notes/assumptions/17.md). That
the last refusal records the unknown code is read by inference (notes/assumptions/27.md). -/
def Obligations.PortRefuses : Prop :=
  (∀ (i : Instr) (m : Master) (k : Command) (s : State), i.request = some (m, k) → s.powered = true →
    k ∉ openToAll → k ∉ openToClass (s.context m).cls → Refuses i .cls s) ∧
  (∀ (i : Instr) (m : Master) (k : Command) (s : State), i.request = some (m, k) → s.powered = true →
    k ∈ openToAll ∨ k ∈ openToClass (s.context m).cls → s.profile.complete = false →
    k ∉ [Command.defineLine, .defineStation, .defineReach, .defineSignaller, .defineTracking, .defineTrap,
      .defineMaster, .setWatch, .setChannelMode, .readProfile, .decodeChainage, .restart, .setLineTime,
      .readAttention, .acknowledgeAttention, .setEnables] → Refuses i .state s) ∧
    ∀ (m : Master) (code : Nat) (s : State), s.powered = true →
      ∃ t, exec (.unknownCommandCode m code) s = .next t ∧ OnlyChanges [.port, .reply] s t ∧
        t.port = s.port.setContext m { s.context m with lastRefusal := some ⟨code, .range, s.now⟩ } ∧
        Replied m (.refused .range .nothing) t

/-- Without power no request gets a reply, and no command or event but a power-on changes anything besides the levels
of the inputs; a further power loss leaves contacts and lines as they are (R195). That levels are taken without power,
and what working memory holds meanwhile, are the model's choices (notes/assumptions/13.md, 11.md). -/
def Obligations.NothingHappensWithoutPower : Prop :=
  ∀ (i : Instr) (s t : State), s.powered = false → (∀ a b c, i ≠ .powerOn a b c) → i ≠ .powerLoss →
    exec i s = .next t →
    OnlyChanges [.inputUnit, .reply] s t ∧ t.inputUnit.channels = s.inputUnit.channels ∧
      t.inputUnit.msTimer = s.inputUnit.msTimer ∧ t.reply = none

/-- ACKNOWLEDGE ATTENTION and SET ENABLES, whole (R184, R185), with the line by R182. -/
def Obligations.AttentionCommands : Prop :=
  ∀ (m : Master) (kinds : AttnSet) (s : State), s.powered = true →
    (∃ t, exec (.acknowledgeAttention m (some kinds)) s = .next t ∧
      t.context m = { s.context m with
        attention := (s.context m).attention &&& ~~~kinds
        line := ((s.context m).attention &&& ~~~kinds) &&& (s.context m).enables != 0#16 } ∧
      (∀ n, n ≠ m → t.context n = s.context n) ∧ t.port.detail = s.port.detail ∧
      t.port.dropCount = s.port.dropCount ∧ t.port.lastDrop = s.port.lastDrop ∧
      OnlyChanges [.port, .reply] s t ∧
      Replied m (.done (.attentionSet (t.context m).attention (t.context m).line)) t) ∧
    ∃ t, exec (.setEnables m (some kinds)) s = .next t ∧
      t.context m = { s.context m with
        enables := kinds
        line := (s.context m).attention &&& kinds != 0#16 } ∧
      (∀ n, n ≠ m → t.context n = s.context n) ∧ t.port.detail = s.port.detail ∧
      t.port.dropCount = s.port.dropCount ∧ t.port.lastDrop = s.port.lastDrop ∧
      OnlyChanges [.port, .reply] s t ∧
      Replied m (.done (.attentionSet (t.context m).enables (t.context m).line)) t

/-- A posting adds the kind to every attention set, sets each line anew, and writes the kind's detail entry (R181). -/
def Obligations.PostingReachesEveryContext : Prop :=
  ∀ (k : AttnKind) (x : Option Subject) (s : State),
    (∀ m : Master, (post k x s).context m = { s.context m with
      attention := (s.context m).attention ||| k.mask
      line := ((s.context m).attention ||| k.mask) &&& (s.context m).enables != 0#16 }) ∧
    (post k x s).port.detail[k.bit] = ⟨x, s.now, min (s.port.detail[k.bit].count + 1) 65535⟩ ∧
    (∀ j : Fin 16, j ≠ k.bit → (post k x s).port.detail[j] = s.port.detail[j]) ∧
    (post k x s).port.dropCount = s.port.dropCount ∧ (post k x s).port.lastDrop = s.port.lastDrop ∧
    OnlyChanges [.port] s (post k x s)

/-! ## Holds -/

/-- SET HOLD and RELEASE HOLD, whole (R121, R122). -/
def Obligations.HoldCommands : Prop :=
  ∀ (m : Master) (n : Nat) (s : State), s.powered = true →
    ((s.context m).cls ∉ [MasterClass.dispatch, .link] →
      Refuses (.setHold m (some n)) .cls s ∧ Refuses (.releaseHold m (some n)) .cls s) ∧
    ((s.context m).cls ∈ [MasterClass.dispatch, .link] → s.profile.complete = false →
      Refuses (.setHold m (some n)) .state s ∧ Refuses (.releaseHold m (some n)) .state s) ∧
    (s.able m [.dispatch, .link] → s.profile.count ≤ n →
      Refuses (.setHold m (some n)) .range s ∧ Refuses (.releaseHold m (some n)) .range s) ∧
    (s.able m [.dispatch, .link] → n < s.profile.count → ∀ st : Fin 16, st.val = n →
      (∃ t, exec (.setHold m (some n)) s = .next t ∧
        HoldChanged st (s.valves[st].hold ||| BitVec.twoPow 7 m.val) s t ∧
        Replied m (.done (.holdSet t.valves[st].hold)) t) ∧
      (s.valves[st].hold.getLsbD m = false → Refuses (.releaseHold m (some n)) .notOwner s) ∧
      (s.valves[st].hold.getLsbD m = true →
        ∃ t, exec (.releaseHold m (some n)) s = .next t ∧
          HoldChanged st (s.valves[st].hold &&& ~~~ BitVec.twoPow 7 m.val) s t ∧
          Replied m (.done (.holdSet t.valves[st].hold)) t))

/-- CLEAR HOLDS, whole (R123): of one station, and of every station of the line. -/
def Obligations.ClearHoldsCommand : Prop :=
  ∀ (m : Master) (s : State), s.powered = true →
    ((s.context m).cls ≠ .dispatch → ∀ x, Refuses (.clearHolds m (some x)) .cls s) ∧
    ((s.context m).cls = .dispatch → s.profile.complete = false → ∀ x, Refuses (.clearHolds m (some x)) .state s) ∧
    (s.able m [.dispatch] →
      (∀ n, s.profile.count ≤ n → Refuses (.clearHolds m (some (some n))) .range s) ∧
      (∀ st : Fin 16, st.val < s.profile.count →
        ∃ t, exec (.clearHolds m (some (some st.val))) s = .next t ∧
          HoldChanged st (s.valves[st].hold &&& 0x40#7) s t ∧
          Replied m (.done (.emptied
            (if s.valves[st].hold ≠ 0#7 ∧ s.valves[st].hold &&& 0x40#7 = 0#7 then 1 else 0))) t) ∧
      ∃ t, exec (.clearHolds m (some none)) s = .next t ∧
        let n := (List.finRange 16).countP (fun st => decide (st.val < s.profile.count ∧
          s.valves[st].hold ≠ 0#7 ∧ s.valves[st].hold &&& 0x40#7 = 0#7))
        (∀ st : Fin 16, t.valves[st] =
          if st.val < s.profile.count ∧ s.valves[st].hold &&& 0x40#7 ≠ s.valves[st].hold then
            { s.valves[st] with
              hold := s.valves[st].hold &&& 0x40#7
              contact := s.now.isSome && s.valves[st].hold &&& 0x40#7 == 0#7 }
          else s.valves[st]) ∧
        OnlyChanges [.valves, .port, .reply] s t ∧ Replied m (.done (.emptied n)) t ∧
        (n = 0 → t.port = s.port) ∧ t.port.dropCount = s.port.dropCount ∧ t.port.lastDrop = s.port.lastDrop ∧
        (∀ k : Fin 16, k ≠ 7 → t.port.detail[k] = s.port.detail[k]) ∧
        (n ≠ 0 → ∀ k : Master, (t.context k).own = (s.context k).own ∧
          (t.context k).attention = (s.context k).attention ||| AttnKind.holdChange.mask) ∧
        (n ≠ 0 → t.port.detail[(7 : Fin 16)].count = min (s.port.detail[(7 : Fin 16)].count + n) 65535 ∧
          t.port.detail[(7 : Fin 16)].time = s.now ∧
          ∃ st : Fin 16, st.val < s.profile.count ∧ s.valves[st].hold ≠ 0#7 ∧ s.valves[st].hold &&& 0x40#7 = 0#7 ∧
            t.port.detail[(7 : Fin 16)].subject = some (.station st)))

/-! ## Reads -/

/-- No read changes anything but its reply and, where it is refused, the caller's last refusal. -/
def Obligations.ReadsChangeNothing : Prop :=
  ∀ (i : Instr) (m : Master) (k : Command) (s : State), i.request = some (m, k) → s.powered = true →
    k ∈ [Command.readProfile, .decodeChainage, .readPig, .readFlow, .queryEta, .readIntake, .readChannel,
      .readMatching, .readValve, .readWatch, .readTrap, .readAttention] →
    ∃ a, (AnswersOnly i a s ∧ ∀ r d, a ≠ .refused r d) ∨ ∃ r, a = .refused r .nothing ∧ Refuses i r s

/-- READ PROFILE by each selector, while the store is IDLE (R16). Of a station or reach of an undefined line R16 names two
reasons, and either may be given (notes/assumptions/35.md). -/
def Obligations.ReadProfileAnswers : Prop :=
  ∀ (m : Master) (s : State), s.powered = true → s.store.writing = none →
    let p := s.profile
    let reads := fun sel d => exec (.readProfile m (some sel)) s = .next (sendReply m (.done d) s)
    (∀ d, p.line = some d → reads .line (.lineItem d)) ∧
    (∀ (i : Nat) st, i < p.count → p.station? i = some st → reads (.station i) (.stationItem st i (i + 1 == p.count))) ∧
    (∀ (i : Nat) r, i + 1 < p.count → p.reach? i = some r → reads (.reach i) (.reachItem r)) ∧
    (∀ (i : Nat) g d, i ≤ 31 → p.line = some d → p.signaller? i = some g →
      reads (.signaller i) (.signallerItem g (g.chainage == d.lineEnd))) ∧
    reads .tracking (.trackingItem p.tracking) ∧ reads (.trap .launch) (.launchItem p.launch) ∧
    reads (.trap .receive) (.receiveItem p.receive) ∧
    (∀ k : Master, reads (.master k) (.masterItem p.masters[k])) ∧
    (∀ k : Fin 16, reads (.watch k) (.watchItem p.watches[k])) ∧
    (∀ k : Fin 8, reads (.channel k) (.channelItem p.channels[k])) ∧
    reads .summary (.profileSummary (summaryOf s)) ∧
    (p.line = none → Refuses (.readProfile m (some .line)) .noSuch s) ∧
    (∀ i : Nat, p.count ≤ i → p.line ≠ none ∨ 15 < i → Refuses (.readProfile m (some (.station i))) .range s) ∧
    (∀ i : Nat, p.count ≤ i + 1 → p.line ≠ none ∨ 14 < i → Refuses (.readProfile m (some (.reach i))) .range s) ∧
    (∀ i : Nat, p.line = none → i ≤ 15 → ∃ r, (r = Reason.range ∨ r = .noSuch) ∧
      Refuses (.readProfile m (some (.station i))) r s ∧
      (i ≤ 14 → Refuses (.readProfile m (some (.reach i))) r s)) ∧
    (∀ i : Nat, i < p.count → p.station? i = none → p.line ≠ none →
      Refuses (.readProfile m (some (.station i))) .noSuch s) ∧
    (∀ i : Nat, i + 1 < p.count → p.reach? i = none → p.line ≠ none →
      Refuses (.readProfile m (some (.reach i))) .noSuch s) ∧
    (∀ i : Nat, i ≤ 31 → p.signaller? i = none → Refuses (.readProfile m (some (.signaller i))) .noSuch s) ∧
    (∀ i : Nat, 31 < i → Refuses (.readProfile m (some (.signaller i))) .range s)

/-- READ PIG, READ FLOW, READ INTAKE, READ CHANNEL and READ MATCHING answer DONE with what the state holds (R29, R44,
R75, R90, R114). Where a reach is LAPSED and a valve at its ends stands CLOSED either cause may be named
(notes/assumptions/36.md); what stands as the last update before the first one is read by inference
(notes/assumptions/37.md). -/
def Obligations.TableReadsAnswer : Prop :=
  ∀ (m : Master) (s : State), s.powered = true → s.profile.complete = true →
    let reads := fun i d => exec i s = .next (sendReply m (.done d) s)
    (∀ tag p, 1 ≤ tag → s.register.find tag = some p →
      reads (.readPig m (some tag)) (.pig (pigSummary s.register p))) ∧
    (∀ r : Fin 15, r.val + 1 < s.profile.count → ∀ rc, s.profile.reach? r = some rc →
      let e := s.tracker.flows[r]
      let closed := s.valveClosed r.val || s.valveClosed (r.val + 1)
      let q := if e.state = .lapsed ∨ closed then 0 else e.flow
      ∃ cause, reads (.readFlow m (some (some r.val)))
          (.flowEntry e q cause rc.area (min (q * 25000 / (9 * rc.area)) 15000)) ∧
        (cause = none ↔ e.state ≠ .lapsed ∧ closed = false) ∧
        (e.state = .lapsed → closed = false → cause = some .lapsed) ∧
        (e.state ≠ .lapsed → closed = true → cause = some .valveClosed)) ∧
    reads (.readFlow m (some none)) (.trackerSummary s.tracker.running s.profile.tracking.period s.tracker.lastUpdate
      s.tracker.deadline s.register.inLine.length (flowStates s)) ∧
    reads (.readIntake m (some .summary)) (.intakeSummary s.intake.entries.length
      (s.intake.entries.head?.map (·.time)) s.profile.tracking.holdBack s.intake.counts) ∧
    (∀ (k : Nat) e, k < 24 → s.intake.entries[k]? = some e →
      reads (.readIntake m (some (.entry (k + 1))))
        (.intakeEntry e (min (e.time + s.profile.tracking.holdBack * 10) 4294967295))) ∧
    (∀ n g, n ≤ 31 → s.profile.signaller? n = some g →
      reads (.readIntake m (some (.signaller n))) (.sequenceState (s.runtime n).lastSequence (s.runtime n).gaps
        (s.intake.entries.countP (fun e => e.signaller == n)))) ∧
    (∀ c : Fin 8,
      let cfg := s.profile.channels[c]
      let x := s.inputUnit.channels[c]
      reads (.readChannel m (some c.val)) (.channelRecord cfg (partnerOf s.profile c) x.state s.inputUnit.inputs[c]
        (if cfg.mode = .pair then some (s.input (c.val + 1)) else none) x.measurement x.lastDetection x.noise x.faults
        x.incomplete x.reverse)) ∧
    reads (.readMatching m (some .summary)) (.matchingSummary s.fixUnit.unmatched.length s.fixUnit.dropped
      ((List.range 32).countP (fun n => (s.profile.signaller? n).isSome && (s.runtime n).service = .out))) ∧
    (∀ (k : Nat) e, k < 8 → s.fixUnit.unmatched[k]? = some e →
      reads (.readMatching m (some (.unmatched (k + 1)))) (.unmatchedEntry e)) ∧
    ∀ n g, n ≤ 31 → s.profile.signaller? n = some g →
      reads (.readMatching m (some (.signaller n))) (.serviceRecord (s.runtime n).service (s.runtime n).missed
        (s.runtime n).passages ((candidate s n).map (·.tag)))

/-- READ VALVE, READ WATCH, READ TRAP and READ ATTENTION answer DONE with what the state holds (R134, R150, R170,
R183). -/
def Obligations.UnitReadsAnswer : Prop :=
  ∀ (m : Master) (s : State), s.powered = true →
    let reads := fun i d => exec i s = .next (sendReply m (.done d) s)
    (s.profile.complete = true →
      (∀ (st : Fin 16) x, st.val < s.profile.count → s.profile.station? st = some x →
        reads (.readValve m (some (some st.val))) (.valveRecord s.valves[st] x.strokeTime
          ((x.chainage : Int) - x.halfWidth) ((x.chainage : Int) + x.halfWidth) (x.strokeTime + 30))) ∧
      (∃ l : List ValveLine, l.length = min s.profile.count 16 ∧
        (∀ st : Fin 16, st.val < s.profile.count → ∃ line, l[st.val]? = some line ∧
          line.position = s.valves[st].position ∧ line.contact = s.valves[st].contact ∧
          line.permit = s.valves[st].permit.isSome ∧ line.watch = s.valves[st].hold.getLsbD 6 ∧
          line.members = (List.range 7).countP (fun b => s.valves[st].hold.getLsbD b)) ∧
        reads (.readValve m (some none)) (.valveSummary l)) ∧
      (∀ st : Fin 16, reads (.readWatch m (some st.val))
        (.watchRecord s.watchUnit.watches[st] (s.valves[st].hold.getLsbD 6))) ∧
      reads (.readTrap m (some .launch)) (.launchRecord s.traps.launch (s.register.launchBarrel.map (·.tag))
        s.traps.launchOverdue) ∧
      reads (.readTrap m (some .receive)) (.receiveRecord s.traps.receive (s.register.receiveBarrel.map (·.tag))
        s.profile.receive.capacity (decide (s.profile.receive.capacity < s.register.receiveBarrel.length)))) ∧
    reads (.readAttention m (some none)) (.attention (s.context m).attention (s.context m).enables
      (s.context m).line (s.context m).lastRefusal s.port.dropCount s.port.lastDrop) ∧
    ∀ k : AttnKind, reads (.readAttention m (some (some k)))
      (.attentionDetail s.port.detail[k.bit] ((s.context m).attention.getLsbD k.bit.val))

/-- DECODE CHAINAGE: above 999,999 m RANGE, before STATE for an incomplete profile (notes/assumptions/17.md); else the
trap regions first, then a zone, then a reach (R18). -/
def Obligations.DecodeChainageAnswers : Prop :=
  (∀ (m : Master) (c : Nat) (s : State), s.powered = true →
    (999999 < c → Refuses (.decodeChainage m (some c)) .range s) ∧
    (c ≤ 999999 → s.profile.complete = false → Refuses (.decodeChainage m (some c)) .state s)) ∧
  ∀ (m : Master) (c : Nat) (s : State) (g : Signaller) (d : LineDef), s.powered = true →
    s.profile.complete = true → s.profile.signaller? 0 = some g → s.profile.line = some d →
    (∀ (i j : Nat) a b, i < j → j < d.count → s.profile.station? i = some a → s.profile.station? j = some b →
      a.chainage + a.halfWidth + b.halfWidth < b.chainage) →
    g.chainage ≤ d.lineEnd →
    let answers := fun r used clamped reach =>
      exec (.decodeChainage m (some c)) s = .next (sendReply m (.done (.region r used clamped reach)) s)
    (c ≤ 999999 →
      (d.lineEnd ≤ c → answers .receiveTrap d.lineEnd (decide (d.lineEnd < c)) none) ∧
      (∀ (r : Nat) a b, c < d.lineEnd → s.profile.station? r = some a → s.profile.station? (r + 1) = some b →
        r + 1 < d.count → a.chainage ≤ c → c < b.chainage →
        (c < g.chainage → answers .launchTrap c false (some r)) ∧
        (g.chainage ≤ c → c ≤ a.chainage + a.halfWidth → answers (.valveZone r) c false (some r)) ∧
        (g.chainage ≤ c → b.chainage ≤ c + b.halfWidth → answers (.valveZone (r + 1)) c false (some r)) ∧
        (g.chainage ≤ c → a.chainage + a.halfWidth < c → c + b.halfWidth < b.chainage →
          answers (.reach r) c false (some r))))

/-- QUERY ETA of an in-line pig: the target clamped to L, RANGE below the pig, and the distance over the speed field,
rounded up, or NONE at speed 0 (R58, R59). -/
def Obligations.QueryEtaAnswers : Prop :=
  ∀ (m : Master) (tag c : Nat) (p : Pig) (s : State), s.powered = true → s.profile.complete = true → 1 ≤ tag →
    s.register.find tag = some p →
    (999999 < c → Refuses (.queryEta m (some ⟨tag, c⟩)) .range s) ∧
    (c ≤ 999999 → p.status = .staged ∨ p.status = .arrived → Refuses (.queryEta m (some ⟨tag, c⟩)) .state s) ∧
    (c ≤ 999999 → p.status ≠ .staged → p.status ≠ .arrived →
      let target := min c s.profile.lineEnd
      (target * 1000 < p.position → Refuses (.queryEta m (some ⟨tag, c⟩)) .range s) ∧
      (p.position ≤ target * 1000 →
        let dist := target * 1000 - p.position
        ∃ e, exec (.queryEta m (some ⟨tag, c⟩)) s = .next (sendReply m
            (.done (.eta e (dist / 1000) p.speed target (decide (s.profile.lineEnd < c)) p.status)) s) ∧
          (p.speed = 0 → e = none) ∧
          (p.speed ≠ 0 → ∃ n, e = some n ∧ dist ≤ n * p.speed ∧ ∀ k, dist ≤ k * p.speed → n ≤ k)))

/-! ## The register -/

/-- CURSOR SET and CURSOR READ (R31 to R33): where the cursor goes, what a read returns, and END with it empty. -/
def Obligations.CursorCommands : Prop :=
  ∀ (m : Master) (s : State), s.powered = true → s.profile.complete = true →
    let moved := fun tag mode => s.setContext m { s.context m with cursorTag := tag, cursorMode := mode }
    (∀ mode tag p, 1 ≤ tag → s.register.find tag = some p →
      exec (.cursorSet m (some ⟨mode, some tag⟩)) s =
        .next (sendReply m (.done (.cursorTag (some tag))) (moved (some tag) mode))) ∧
    (∀ mode tag, s.register.find tag = none →
      Refuses (.cursorSet m (some ⟨mode, some tag⟩)) (if tag = 0 then .range else .noSuch) s) ∧
    (∀ mode,
      let tag := match mode with
        | CursorMode.towardLaunch => s.register.view.head?.map (·.tag)
        | CursorMode.towardReceive => s.register.view.getLast?.map (·.tag)
        | CursorMode.hold => none
      exec (.cursorSet m (some ⟨mode, none⟩)) s = .next (sendReply m (.done (.cursorTag tag)) (moved tag mode))) ∧
    ((s.context m).cursorTag = none →
      exec (.cursorRead m (some ())) s = .next (sendReply m .endOfView s)) ∧
    ∀ ahead p behind, s.register.view = ahead ++ p :: behind → (∀ q ∈ ahead, q.tag ≠ p.tag) →
      (s.context m).cursorTag = some p.tag →
      let tag := match (s.context m).cursorMode with
        | CursorMode.towardLaunch => behind.head?.map (·.tag)
        | CursorMode.towardReceive => ahead.getLast?.map (·.tag)
        | CursorMode.hold => some p.tag
      exec (.cursorRead m (some ())) s =
        .next (sendReply m (.done (.pig (pigSummary s.register p))) (moved tag (s.context m).cursorMode))

/-- SET RATIO (R34) writes the ratio and its source, of a record in the line or in either barrel, and nothing else;
CONFIRM (R36) places a STALLED or UNVERIFIED pig between its neighbours. That differences are natural numbers, and
that the upper bound wins where the lower one exceeds it (beside a pig below 1,000 mm, where R25 cannot be kept), are
the model's choices (notes/assumptions/23.md). -/
def Obligations.RatioAndConfirm : Prop :=
  (∀ (m : Master) (s : State) (ahead behind : List Pig) (p : Pig), s.able m [.dispatch] → 1 ≤ p.tag →
    (s.register.view.map (·.tag)).Nodup → s.register.inLine = ahead ++ p :: behind →
    (∀ ratio : Nat, ∃ t r src, exec (.setRatio m (some ⟨p.tag, ratio⟩)) s = .next t ∧
      OnlyChanges [.register, .reply] s t ∧
      t.register = { s.register with inLine := ahead ++ { p with ratio := r, source := src } :: behind } ∧
      Replied m (.done (.ratioHeld r src)) t ∧
      (ratio = 0 → r = p.kind.defaultRatio ∧ src = .learnt) ∧
      (1 ≤ ratio → r = max 100 (min ratio 1000) ∧ src = .manual)) ∧
    (p.status ≠ .stalled → p.status ≠ .unverified → ∀ c, c ≤ 999999 →
      Refuses (.confirm m (some ⟨p.tag, c⟩)) .state s) ∧
    (p.status = .stalled ∨ p.status = .unverified → ∀ c, c ≤ 999999 →
      ∃ t, exec (.confirm m (some ⟨p.tag, c⟩)) s = .next t ∧ OnlyChanges [.register, .reply] s t ∧
        let least := match behind.head? with | some q => q.position + 1000 | none => 0
        let most := match ahead.getLast? with
          | some q => min (q.position - 1000) (s.profile.lineEnd * 1000)
          | none => s.profile.lineEnd * 1000
        let pos := min most (max least (c * 1000))
        t.register = { s.register with inLine := ahead ++ { p with
          position := pos, status := .running, overdueAt := none, speed := 0, estimate := s.now } :: behind } ∧
        Replied m (.done (.placed (pos / 1000) (pos != c * 1000))) t)) ∧
  ∀ (m : Master) (s : State) (p : Pig) (ratio : Nat), s.able m [.dispatch] → 1 ≤ p.tag →
    (s.register.view.map (·.tag)).Nodup → p ∈ s.register.launchBarrel ∨ p ∈ s.register.receiveBarrel →
    ∃ t, exec (.setRatio m (some ⟨p.tag, ratio⟩)) s = .next t ∧ OnlyChanges [.register, .reply] s t ∧
      let q := { p with
        ratio := if ratio = 0 then p.kind.defaultRatio else max 100 (min ratio 1000)
        source := if ratio = 0 then RatioSource.learnt else .manual }
      let write := fun x : Pig => if x.tag = p.tag then q else x
      t.register = { s.register with
        launchBarrel := s.register.launchBarrel.map write, receiveBarrel := s.register.receiveBarrel.map write } ∧
      Replied m (.done (.ratioHeld q.ratio q.source)) t

/-- WRITE OFF of an in-line pig and REMOVE PIG from a barrel whose door is open take the record out of its list, empty
the cursors on it, and hand the removal to the watches, which are judged on the lists without it (R27, R33, R35, R142,
R165). -/
def Obligations.RemovalsTakeTheRecord : Prop :=
  ∀ (m : Master) (tag : Nat) (s : State), 1 ≤ tag →
    let gone := fun u : State =>
      u.register = { s.register with
        receiveBarrel := s.register.receiveBarrel.filter (fun p => p.tag != tag)
        inLine := s.register.inLine.filter (fun p => p.tag != tag)
        launchBarrel := s.register.launchBarrel.filter (fun p => p.tag != tag) } ∧
      (∀ k : Master, (u.context k).cursorTag =
          (if (s.context k).cursorTag = some tag then none else (s.context k).cursorTag) ∧
        (u.context k).cursorMode = (s.context k).cursorMode ∧ (u.context k).cls = (s.context k).cls ∧
        (u.context k).enables = (s.context k).enables ∧ (u.context k).lastRefusal = (s.context k).lastRefusal) ∧
      (∀ st : Fin 16, u.valves[st].own = s.valves[st].own) ∧
      OnlyChanges [.register, .port, .valves, .watchUnit] s u ∧
      (s.now = none → u.valves = s.valves ∧ u.watchUnit = s.watchUnit ∧ u.port.detail = s.port.detail) ∧
      u.port.dropCount = s.port.dropCount ∧ u.port.lastDrop = s.port.lastDrop ∧
      (∀ k : AttnKind, k ∉ watchKinds → Posted k [] s u) ∧ WatchesJudged s u
    (∀ p, s.able m [.dispatch] → s.register.find tag = some p →
      (p.status = .staged ∨ p.status = .arrived → Refuses (.writeOff m (some tag)) .state s) ∧
      (p.status ≠ .staged → p.status ≠ .arrived → ∃ u,
        exec (.writeOff m (some tag)) s = .next (sendReply m (.done .nothing) u) ∧ gone u)) ∧
    (∀ trap : TrapId, s.able m [.trap, .link] →
      ((s.trap trap).state ≠ .doorOpen → Refuses (.removePig m (some ⟨trap, tag⟩)) .state s) ∧
      ((s.trap trap).state = .doorOpen → (s.trap trap).step ≠ none →
        Refuses (.removePig m (some ⟨trap, tag⟩)) .busy s) ∧
      ((s.trap trap).state = .doorOpen → (s.trap trap).step = none →
        ((∀ p ∈ s.barrel trap, p.tag ≠ tag) → Refuses (.removePig m (some ⟨trap, tag⟩)) .noSuch s) ∧
        ((∃ p ∈ s.barrel trap, p.tag = tag) → ∃ u,
          exec (.removePig m (some ⟨trap, tag⟩)) s =
            .next (sendReply m (.done (.removed (u.barrel trap).length u.register.view.length)) u) ∧ gone u)))

/-- STAGE PIG puts a record with the first free tag from the counter at the end of the launch barrel list (R21 to
R24, R164). -/
def Obligations.StagingMakesTheRecord : Prop :=
  ∀ (m : Master) (x : StageArgs) (s : State), RegisterLaw s → s.able m [.trap, .link] →
    (s.traps.launch.state ≠ .doorOpen → Refuses (.stagePig m (some x)) .state s) ∧
    (s.traps.launch.state = .doorOpen →
      (s.traps.launch.step ≠ none → Refuses (.stagePig m (some x)) .busy s) ∧
      (s.traps.launch.step = none →
        (s.register.view.length = 12 ∨ s.register.launchBarrel.length = 2 → Refuses (.stagePig m (some x)) .full s) ∧
        (s.register.view.length < 12 → s.register.launchBarrel.length < 2 →
          ∃ t tag skipped ratio source, exec (.stagePig m (some x)) s = .next t ∧
            OnlyChanges [.register, .reply] s t ∧
            tag = (s.register.tagCounter - 1 + skipped) % 255 + 1 ∧
            (∀ p ∈ s.register.view, p.tag ≠ tag) ∧
            (∀ k < skipped, ∃ p ∈ s.register.view, p.tag = (s.register.tagCounter - 1 + k) % 255 + 1) ∧
            t.register = { s.register with
              launchBarrel := s.register.launchBarrel ++ [⟨tag, x.kind, .staged, ratio, source, 0, 0, 0, none, none,
                none, none, none, ⟨false, false, false⟩, none⟩]
              tagCounter := tag % 255 + 1 } ∧
            ((x.ratio = none ∨ x.ratio = some 0) → ratio = x.kind.defaultRatio ∧ source = .learnt) ∧
            (∀ r, x.ratio = some r → 1 ≤ r → ratio = max 100 (min r 1000) ∧ source = .manual) ∧
            Replied m (.done (.staged tag ratio source (s.register.launchBarrel.length + 1))) t)))

/-! ## The tracker -/

/-- REPORT FLOW, whole (R41): the checks, and the entry of the reach written; with the reverse mark the flow held is 0. -/
def Obligations.FlowReportsAreWritten : Prop :=
  ∀ (m : Master) (x : FlowArgs) (s : State), s.powered = true →
    ((s.context m).cls ∉ [MasterClass.dispatch, .link] → Refuses (.reportFlow m (some x)) .cls s) ∧
    ((s.context m).cls ∈ [MasterClass.dispatch, .link] → s.profile.complete = false →
      Refuses (.reportFlow m (some x)) .state s) ∧
    (s.able m [.dispatch, .link] → s.now = none → Refuses (.reportFlow m (some x)) .timeUnset s) ∧
    ∀ now, s.able m [.dispatch, .link] → s.now = some now →
      (s.profile.count ≤ x.reach + 1 → Refuses (.reportFlow m (some x)) .range s) ∧
      (∀ r : Fin 15, r.val = x.reach → x.reach + 1 < s.profile.count →
        ∃ t, exec (.reportFlow m (some x)) s = .next t ∧ OnlyChanges [.tracker, .reply] s t ∧
          t.tracker = { s.tracker with
            flows := s.tracker.flows.set r ⟨if x.reverse then 0 else x.flow, x.reverse, some now, .fresh⟩ } ∧
          Replied m (.done (.flowTaken (if x.reverse then 0 else x.flow) s.tracker.flows[r].state)) t)

/-- One update of the tracker (R42, R45, R46, R52 to R54): the pigs are treated from the head on, no pig moves back,
separation and the line end are kept, the flow states are judged, FLOW_STALE, OVERDUE and STALLED are posted for what
they name, the watches are judged on the list after it (R142), and the timer is set anew. That an update at the last
value of the count sets no deadline is read by inference (notes/assumptions/32.md). -/
def Obligations.UpdatesMovePigsForward : Prop :=
  ∀ (s : State) (now d : Nat), s.powered = true → s.now = some now → s.tracker.running = true →
    s.tracker.deadline = some d → d ≤ now →
    ∃ t, exec .trackerUpdate s = .next t ∧
      OnlyChanges [.register, .tracker, .port, .valves, .watchUnit, .reply] s t ∧ t.reply = none ∧
      t.tracker.running = true ∧ t.tracker.lastUpdate = some now ∧
      t.tracker.deadline =
        (if now = 4294967295 then none else some (min (now + s.profile.tracking.period * 10) 4294967295)) ∧
      t.register = { s.register with inLine := t.register.inLine } ∧
      List.Forall₂ (fun p q => q.identity = p.identity ∧ p.position ≤ q.position ∧
          (p.position ≤ s.profile.lineEnd * 1000 → q.position ≤ s.profile.lineEnd * 1000) ∧
          q.estimate = some now ∧ (p.flags.aged = true → q.flags.aged = true) ∧
          q.flags.struck = p.flags.struck ∧ q.flags.early = p.flags.early)
        s.register.inLine t.register.inLine ∧
      t.register.inLine = (treatPigs (judgeFlows now s) now none s.register.inLine).map (·.1) ∧
      Posted .flowStale (((List.finRange 15).filter (fun r : Fin 15 => (s.profile.reach? r).isSome &&
        s.tracker.flows[r].state == .fresh && t.tracker.flows[r].state != .fresh)).map
          (fun r : Fin 15 => Subject.station r.val)) s t ∧
      (OptionalFieldsLaw s → Posted .overdue (((s.register.inLine.zip t.register.inLine).filter
        (fun x => x.2.overdueAt != x.1.overdueAt)).map (fun x : Pig × Pig => Subject.tag x.2.tag)) s t) ∧
      Posted .stalled (((s.register.inLine.zip t.register.inLine).filter
        (fun x => x.2.status == .stalled && x.1.status != .stalled)).map (fun x : Pig × Pig => Subject.tag x.2.tag)) s t ∧
      PostsOnly ([.flowStale, .overdue, .stalled] ++ watchKinds) s t ∧
      (∀ st : Fin 16, t.valves[st].own = s.valves[st].own) ∧
      WatchesJudged s t ∧ (Separated s.register.inLine → Separated t.register.inLine) ∧
      (∀ r : Fin 15, s.profile.reach? r = none → t.tracker.flows[r] = s.tracker.flows[r]) ∧
      (∀ (r : Fin 15) rc, s.profile.reach? r = some rc →
        t.tracker.flows[r] = { s.tracker.flows[r] with state := t.tracker.flows[r].state } ∧
        (s.tracker.flows[r].reportTime = none → t.tracker.flows[r].state = .lapsed) ∧
        ∀ rt, s.tracker.flows[r].reportTime = some rt → t.tracker.flows[r].state =
          if now - rt ≤ rc.flowTimeout * 10 then .fresh
          else if now - rt ≤ rc.flowTimeout * 10 * 3 then .stale else .lapsed)

/-- One pig at one update: where it goes, exactly (R51, R52), whether it enters OVERDUE or STALLED and what that posts (R53,
R54), and its speed, fluid distance, AGED flag and what is kept (R47 to R50, R55). `ahead` is the new position of the pig
ahead. That differences are natural numbers is the model's choice (notes/assumptions/23.md). -/
def Obligations.OnePigAtOneUpdate : Prop :=
  ∀ (s : State) (now : Nat) (ahead : Option Nat) (p : Pig), p.status.inLine = true →
    let q := (treatPig s now ahead p).1
    let kinds := (treatPig s now ahead p).2
    let dt := match p.estimate with | some e => now - e | none => 0
    let v := velocityAt s p.position
    let atNext := fun (n x : Nat) => ∃ f g, p.lastFix = some f ∧ FirstInService s f.chainage n g ∧
      (g.chainage + g.window) * 1000 ≤ x
    let moves := p.status = .running ∨ (p.status = .overdue ∧ ∀ n, ¬ atNext n p.position)
    let enters := fun n => atNext n q.position ∧
      (p.status = .running ∨ (p.status = .overdue ∧ ∀ o, p.overdueAt = some o → o.signaller ≠ n))
    let stalls := p.status = .overdue ∧ ∃ o r rc, q.overdueAt = some o ∧
      s.profile.reachAt q.position = some r ∧ s.profile.reach? r = some rc ∧ rc.stallTime * 10 < now - o.since
    (moves → ∃ m, Least (fun x => x = p.position + v * p.ratio / 1000 * dt / 10 ∨
        Limit s (p.lastFix.map (·.chainage)) p.position ahead x) m ∧ q.position = max p.position m) ∧
    (¬ moves → q.position = p.position) ∧
    (p.status = .running ∨ p.status = .overdue → q.fluid = min (p.fluid + v * dt / 10) 999999999) ∧
    (p.status = .unverified ∨ p.status = .stalled → q.fluid = p.fluid ∧ q.status = p.status ∧ q.speed = 0) ∧
    (∀ n, enters n → q.overdueAt = some ⟨n, now⟩) ∧ ((∀ n, ¬ enters n) → q.overdueAt = p.overdueAt) ∧
    (p.status = .running → q.status = .running ∨ q.status = .overdue) ∧
    (p.status = .running → (q.status = .overdue ↔ ∃ n, enters n)) ∧
    (p.status = .overdue → q.status = .overdue ∨ q.status = .stalled) ∧
    (p.status = .overdue → (q.status = .stalled ↔ stalls)) ∧
    kinds.Nodup ∧ (∀ k ∈ kinds, k = .overdue ∨ k = .stalled) ∧ (AttnKind.overdue ∈ kinds ↔ ∃ n, enters n) ∧
    (AttnKind.stalled ∈ kinds ↔ stalls) ∧
    (q.status = .running → q.speed = v * p.ratio / 1000) ∧ (q.status = .stalled → q.speed = 0) ∧
    (∀ n, q.status = .overdue → atNext n q.position → q.speed = 0) ∧
    (q.status = .overdue → (∀ n, ¬ atNext n q.position) → q.speed = v * p.ratio / 1000) ∧
    (q.flags.aged = true ↔ p.flags.aged = true ∨
      ∃ r, s.profile.reachAt p.position = some r ∧ (s.flowAt r).state ≠ .fresh) ∧
    q.flags.struck = p.flags.struck ∧ q.flags.early = p.flags.early ∧
    q.identity = p.identity ∧ q.estimate = some now

/-! ## Report intake and the fix unit -/

/-- A remote report that passes every check of R64 is accepted (R66, R68, R70, R71): its entry goes in after every
entry at or below its event time, and where it is due at once it is handed with every entry before it, from the state
`b` with the entry in the list. A report that shares its signaller and sequence number with a waiting entry is not
such a report (R62, notes/assumptions/31.md). -/
def Obligations.ReportsAreAccepted : Prop :=
  ∀ (m : Master) (x : PassageArgs) (s : State) (now d : Nat) (g : Signaller), s.able m [.link, .trap] →
    s.now = some now → x.signaller ≤ 31 → s.profile.signaller? x.signaller = some g → g.source = .remote →
    (s.runtime x.signaller).service = .inService →
    (∀ last, (s.runtime x.signaller).lastSequence = some last →
      d = (x.sequence + 65536 - last) % 65536 ∧ 1 ≤ d ∧ d ≤ 32767) →
    ((s.runtime x.signaller).lastSequence = none → d = 1) →
    (∀ e ∈ s.intake.entries, e.signaller ≠ x.signaller ∨ e.sequence ≠ x.sequence) →
    let clamped := decide (now + 50 < x.time)
    let time := if clamped then now else x.time
    now ≤ time + 36000 → s.intake.entries.length < 24 →
    let due := decide (min (time + s.profile.tracking.holdBack * 10) 4294967295 ≤ now)
    let speed := match x.speed with | some 0 => none | some v => some (min v 15000) | none => none
    ∃ t front back, exec (.reportPassage m (some x)) s = .next t ∧
      s.intake.entries = front ++ back ∧ (∀ e ∈ front, e.time ≤ time) ∧ (∀ e, back.head? = some e → time < e.time) ∧
      t.intake.entries =
        (if due then back else front ++ ⟨x.signaller, x.sequence, time, speed, .master m⟩ :: back) ∧
      t.intake.counts = { s.intake.counts with
        accepted := min (s.intake.counts.accepted + 1) 65535
        futureClamps := if clamped then min (s.intake.counts.futureClamps + 1) 65535
          else s.intake.counts.futureClamps } ∧
      (t.runtime x.signaller).lastSequence = some x.sequence ∧
      (t.runtime x.signaller).gaps =
        (if 1 < d then min ((s.runtime x.signaller).gaps + 1) 65535 else (s.runtime x.signaller).gaps) ∧
      (due = false → OnlyChanges [.intake, .signallers, .port, .reply] s t ∧
        (∀ k : Fin 32, k.val ≠ x.signaller → t.signallers[k] = s.signallers[k]) ∧
        t.runtime x.signaller = { s.runtime x.signaller with
          lastSequence := some x.sequence, gaps := (t.runtime x.signaller).gaps } ∧
        t.port = (if 1 < d then (post .reportGap (some (.signaller x.signaller)) s).port else s.port)) ∧
      (due = true → ∃ b, OnlyChanges [.intake, .signallers, .port] s b ∧
        b.intake = ⟨front ++ ⟨x.signaller, x.sequence, time, speed, .master m⟩ :: back, t.intake.counts⟩ ∧
        (∀ k : Fin 32, k.val ≠ x.signaller → b.signallers[k] = s.signallers[k]) ∧
        b.runtime x.signaller = { s.runtime x.signaller with
          lastSequence := some x.sequence, gaps := (t.runtime x.signaller).gaps } ∧
        b.port = (if 1 < d then (post .reportGap (some (.signaller x.signaller)) s).port else s.port) ∧
        let u := handDue now (front.length + 1) b
        t = sendReply m (.accepted (.accepted (front.length + 1) true u.intake.entries.length (d - 1) clamped)) u) ∧
      Replied m (.accepted (.accepted (front.length + 1) due t.intake.entries.length (d - 1) clamped)) t

/-- A remote report that fails a check of R64 is turned away (R65 to R69): no entry is made, and the count its rule
names rises. That a newer report of a waiting entry's signaller and sequence number is a DUPLICATE is the model's choice
(notes/assumptions/31.md); what data these replies carry is read by inference (notes/assumptions/26.md). -/
def Obligations.ReportsAreTurnedAway : Prop :=
  ∀ (m : Master) (x : PassageArgs) (s : State), s.able m [.link, .trap] →
    (s.now = none → Refuses (.reportPassage m (some x)) .timeUnset s) ∧
    ∀ now, s.now = some now →
      (31 < x.signaller → Refuses (.reportPassage m (some x)) .range s) ∧
      (x.signaller ≤ 31 → s.profile.signaller? x.signaller = none → Refuses (.reportPassage m (some x)) .noSuch s) ∧
      ∀ g, x.signaller ≤ 31 → s.profile.signaller? x.signaller = some g →
        (g.source = .localInput → Refuses (.reportPassage m (some x)) .state s) ∧
        (g.source = .remote →
          let r := s.runtime x.signaller
          let diff := fun last => (x.sequence + 65536 - last) % 65536
          let newer := match r.lastSequence with
            | none => true
            | some last => decide (1 ≤ diff last ∧ diff last ≤ 32767)
          let waits := ∃ e ∈ s.intake.entries, e.signaller = x.signaller ∧ e.sequence = x.sequence
          let clamped := decide (now + 50 < x.time)
          let time := if clamped then now else x.time
          let counts := { s.intake.counts with
            futureClamps := if clamped then min (s.intake.counts.futureClamps + 1) 65535
              else s.intake.counts.futureClamps }
          (r.service = .out →
            ∃ t, exec (.reportPassage m (some x)) s = .next t ∧ OnlyChanges [.intake, .signallers, .reply] s t ∧
              t.intake = { s.intake with counts := { s.intake.counts with
                outOfService := min (s.intake.counts.outOfService + 1) 65535 } } ∧
              (∀ k : Fin 32, k.val ≠ x.signaller → t.signallers[k] = s.signallers[k]) ∧
              t.runtime x.signaller =
                { r with lastSequence := if newer then some x.sequence else r.lastSequence } ∧
              ∀ last, (t.runtime x.signaller).lastSequence = some last →
                Replied m (.discarded .outOfService (.lastSequence last)) t) ∧
          (r.service = .inService → newer = false ∨ waits →
            ∃ t, exec (.reportPassage m (some x)) s = .next t ∧ OnlyChanges [.intake, .reply] s t ∧
              t.intake = { s.intake with counts := { s.intake.counts with
                duplicates := min (s.intake.counts.duplicates + 1) 65535 } } ∧
              ∀ last, r.lastSequence = some last → Replied m (.discarded .duplicate (.lastSequence last)) t) ∧
          (r.service = .inService → newer = true → ¬ waits → time + 36000 < now →
            ∃ t, exec (.reportPassage m (some x)) s = .next t ∧ OnlyChanges [.intake, .port, .reply] s t ∧
              t.intake = { s.intake with counts := { counts with
                stale := min (s.intake.counts.stale + 1) 65535 } } ∧
              t.port = s.port.setContext m { s.context m with lastRefusal := some ⟨19, .stale, some now⟩ } ∧
              Replied m (.refused .stale .nothing) t) ∧
          (r.service = .inService → newer = true → ¬ waits → now ≤ time + 36000 → 24 ≤ s.intake.entries.length →
            ∃ t, exec (.reportPassage m (some x)) s = .next t ∧ OnlyChanges [.intake, .port, .reply] s t ∧
              t.intake = { s.intake with counts := { counts with
                overruns := min (s.intake.counts.overruns + 1) 65535 } } ∧
              t.port = ((post .intakeFull (some (.signaller x.signaller)) s).port.setContext m
                { (post .intakeFull (some (.signaller x.signaller)) s).context m with
                  lastRefusal := some ⟨19, .full, some now⟩ }) ∧
              Replied m (.refused .full .nothing) t))

/-- The first entry of the intake list, where it is due, leaves the list and goes to the unmatched list (R93 to R96, R105,
R107, R109): as STRAY with no candidate, as STALE_FIX before its candidate's last fix, and as EARLY_SOFT below the
window of a SOFT signaller. The oldest of eight makes room. -/
def Obligations.DueEntriesGoUnmatched : Prop :=
  ∀ (s : State) (now : Nat) (e : IntakeEntry) (rest : List IntakeEntry) (why : UnmatchedReason), s.powered = true →
    s.now = some now → s.intake.entries = e :: rest →
    min (e.time + s.profile.tracking.holdBack * 10) 4294967295 ≤ now →
    ((why = .stray ∧ (s.profile.signaller? e.signaller = none ∨ candidate s e.signaller = none)) ∨
      (∃ g p f, s.profile.signaller? e.signaller = some g ∧ e.signaller ≠ 0 ∧ candidate s e.signaller = some p ∧
        p.lastFix = some f ∧
        ((why = .staleFix ∧ e.time < f.time) ∨
          (why = .earlySoft ∧ f.time ≤ e.time ∧ g.firmness = .soft ∧ p.status = .running ∧
            p.position + g.window * 1000 < g.chainage * 1000)))) →
    ∃ t, exec .entryDue s = .next t ∧ OnlyChanges [.intake, .fixUnit, .port, .reply] s t ∧ t.reply = none ∧
      t.intake = { s.intake with entries := rest } ∧
      t.fixUnit.unmatched =
        (if 8 ≤ s.fixUnit.unmatched.length then s.fixUnit.unmatched.tail else s.fixUnit.unmatched) ++
          [⟨e.signaller, e.sequence, e.time, why, e.speed, now⟩] ∧
      t.fixUnit.dropped =
        (if 8 ≤ s.fixUnit.unmatched.length then min (s.fixUnit.dropped + 1) 65535 else s.fixUnit.dropped) ∧
      t.port = (post .orphan (some (.signaller e.signaller)) s).port

/-- A due passage at signaller 0 with the launch trap DRIVING launches the first staged pig (R105, R106, R167), at the
least of the five positions of R97, and the watches are judged on the list with it (R142). Its fluid distance
saturates as 2.1 states. That differences are natural numbers is the model's choice (notes/assumptions/23.md). -/
def Obligations.DueEntriesLaunch : Prop :=
  ∀ (s : State) (now : Nat) (e : IntakeEntry) (rest : List IntakeEntry) (g : Signaller) (p : Pig) (staged : List Pig),
    s.powered = true → s.now = some now → s.intake.entries = e :: rest →
    min (e.time + s.profile.tracking.holdBack * 10) 4294967295 ≤ now → e.signaller = 0 →
    s.profile.signaller? 0 = some g → s.traps.launch.state = .driving → s.register.launchBarrel = p :: staged →
    ∃ t q, exec .entryDue s = .next t ∧
      OnlyChanges [.intake, .register, .signallers, .port, .valves, .watchUnit, .traps, .reply] s t ∧ t.reply = none ∧
      t.intake = { s.intake with entries := rest } ∧
      t.register = { s.register with inLine := s.register.inLine ++ [q], launchBarrel := staged } ∧
      q = { p with
        status := .running, launchTime := some e.time, lastFix := some ⟨0, g.chainage * 1000, e.time⟩
        position := q.position, fluid := min (velocityAt s (g.chainage * 1000) * (now - e.time) / 10) 999999999
        estimate := some now } ∧
      PlacedAt s now g e.time e.speed p.ratio (s.register.inLine.getLast?.map (·.position)) q.position ∧
      (t.runtime 0).passages = min ((s.runtime 0).passages + 1) 65535 ∧ (t.runtime 0).missed = 0 ∧
      (t.runtime 0) = { s.runtime 0 with passages := (t.runtime 0).passages, missed := 0 } ∧
      (∀ k : Fin 32, k.val ≠ 0 → t.signallers[k] = s.signallers[k]) ∧
      t.port.detail[(1 : Fin 16)] =
        ⟨some (.tag p.tag), some now, min (s.port.detail[(1 : Fin 16)].count + 1) 65535⟩ ∧
      (∀ k : Master, (t.context k).attention.getLsbD 1 = true) ∧
      PostsOnly (.passage :: watchKinds) s t ∧ (∀ st : Fin 16, t.valves[st].own = s.valves[st].own) ∧
      WatchesJudged s t ∧
      t.traps = { s.traps with
        launchOverdue :=
          if staged = [] then none else some (min (now + s.profile.launch.overdueTime * 10) 4294967295) }

/-- A due passage at a signaller in the line or, with the receive trap LINED_UP, at the line end, with a candidate
that passes the stale and window checks, is a fix (R94 to R101, R107); at the line end the pig arrives (R108). The
watches are judged on the list after it (R142). The signallers it sets OUT are posted in an order that no rule states
(notes/assumptions/38.md). -/
def Obligations.DueEntriesFix : Prop :=
  ∀ (s : State) (now : Nat) (e : IntakeEntry) (rest : List IntakeEntry) (g : Signaller) (f : LastFix) (p : Pig)
      (ahead behind : List Pig),
    s.powered = true → s.now = some now → s.intake.entries = e :: rest →
    min (e.time + s.profile.tracking.holdBack * 10) 4294967295 ≤ now → e.signaller ≠ 0 → e.signaller < 32 →
    s.profile.signaller? e.signaller = some g →
    (s.profile.isReceive e.signaller = true → s.traps.receive.state = .linedUp) →
    s.register.inLine = ahead ++ p :: behind →
    (∀ a ∈ ahead, a.tag ≠ p.tag ∧ ∃ af, a.lastFix = some af ∧ g.chainage * 1000 ≤ af.chainage) →
    p.status.inLine = true → p.lastFix = some f → f.chainage < g.chainage * 1000 → f.time ≤ e.time →
    let early := decide (p.status = .running ∧ p.position + g.window * 1000 < g.chainage * 1000)
    (early = true → g.firmness = .firm) →
    let q := fixedPig s now g ⟨e.signaller, e.sequence, e.time, e.speed⟩ early (ahead.getLast?.map (·.position)) p
    let arrives := s.profile.isReceive e.signaller
    ∃ t, exec .entryDue s = .next t ∧
      OnlyChanges [.intake, .register, .signallers, .port, .valves, .watchUnit, .reply] s t ∧ t.reply = none ∧
      t.intake = { s.intake with entries := rest } ∧
      t.register = { s.register with
        inLine := if arrives then ahead ++ pushBack q.position behind else ahead ++ q :: pushBack q.position behind
        receiveBarrel := if arrives then s.register.receiveBarrel ++
          [{ q with status := .arrived, arrivalTime := some e.time, speed := 0, estimate := none }]
          else s.register.receiveBarrel } ∧
      (t.runtime e.signaller).passages = min ((s.runtime e.signaller).passages + 1) 65535 ∧
      (t.runtime e.signaller).missed = 0 ∧ (t.runtime e.signaller).service = (s.runtime e.signaller).service ∧
      t.runtime e.signaller =
        { s.runtime e.signaller with passages := (t.runtime e.signaller).passages, missed := 0 } ∧
      (∀ k : Fin 32, k.val ≠ e.signaller →
        let r := s.signallers[k]
        t.signallers[k] =
          match s.profile.signaller? k with
          | none => r
          | some between =>
            if r.service = .inService ∧ f.chainage < between.chainage * 1000 ∧ between.chainage < g.chainage then
              (if 3 ≤ r.missed + 1 then { r with missed := 3, service := .out }
                else { r with missed := r.missed + 1 })
            else r) ∧
      PostedSomehow .signallerFault (((List.finRange 32).filter (fun k : Fin 32 => k.val != e.signaller &&
        s.signallers[k].service == .inService && t.signallers[k].service == .out)).map
        (fun k : Fin 32 => Subject.signaller k.val)) s t ∧
      t.port.detail[(1 : Fin 16)] =
        ⟨some (.tag p.tag), some now, min (s.port.detail[(1 : Fin 16)].count + 1) 65535⟩ ∧
      (∀ k : Master, (t.context k).attention.getLsbD 1 = true) ∧
      (arrives = true → s.profile.receive.capacity < s.register.receiveBarrel.length + 1 →
        t.port.detail[(14 : Fin 16)] = ⟨some (.trap .receive), some now,
          min (s.port.detail[(14 : Fin 16)].count + 1) 65535⟩) ∧
      Posted .barrelOverfill (if arrives = true ∧ s.profile.receive.capacity < s.register.receiveBarrel.length + 1 then
        [.trap .receive] else []) s t ∧
      PostsOnly ([.passage, .signallerFault, .barrelOverfill] ++ watchKinds) s t ∧
      (∀ st : Fin 16, t.valves[st].own = s.valves[st].own) ∧ WatchesJudged s t

/-- The record a fix writes (R97, R98, R103, R104), its position the least of the five of R97 and its fluid distance
saturated as 2.1 states, and the push-back of the pigs behind it (R99), pig by pig: pig i of those pushed goes to the
position just given ahead of it less 1,000, which is the front's less 1,000 (i + 1), and the cascade stops at the
first pig that needs no change. That differences are natural numbers is the model's choice (notes/assumptions/23.md).
-/
def Obligations.FixesWriteTheRecord : Prop :=
  (∀ (s : State) (now : Nat) (g : Signaller) (x : Passage) (early : Bool) (ahead : Option Nat) (p : Pig) (f : LastFix),
    p.lastFix = some f → f.chainage < g.chainage * 1000 → 100 ≤ p.ratio → p.ratio ≤ 1000 →
    s.profile.tracking.weight ≤ 16 →
    let q := fixedPig s now g x early ahead p
    let at0 := g.chainage * 1000
    let v := velocityAt s at0
    let since := v * (now - x.time) / 10
    let adjusted := p.fluid - since
    q = { p with
      error := some ((p.position : Int) - (at0 : Nat)), position := q.position
      lastFix := some ⟨x.signaller, at0, x.time⟩, status := .running, overdueAt := none
      flags := ⟨early, p.flags.struck, false⟩, ratio := q.ratio, fluid := min since 999999999, estimate := some now } ∧
    PlacedAt s now g x.time x.speed p.ratio ahead q.position ∧
    100 ≤ q.ratio ∧ q.ratio ≤ 1000 ∧
    (p.source = .manual ∨ early = true ∨ p.status = .stalled ∨ p.status = .unverified ∨ adjusted = 0 →
      q.ratio = p.ratio) ∧
    (p.source = .learnt → early = false → p.status ≠ .stalled → p.status ≠ .unverified → adjusted ≠ 0 →
      ∃ learnt rounded, learnt = max 100 (min rounded 1000) ∧
        2 * adjusted * rounded ≤ 2 * ((at0 - f.chainage) * 1000) + adjusted ∧
        2 * ((at0 - f.chainage) * 1000) + adjusted < 2 * adjusted * (rounded + 1) ∧
        q.ratio = (p.ratio * (16 - s.profile.tracking.weight) + learnt * s.profile.tracking.weight + 8) / 16)) ∧
  ∀ (front : Nat) (l : List Pig),
    (∃ pushed kept, l = pushed ++ kept ∧
      (∀ i p, pushed[i]? = some p → front - 1000 * (i + 1) < p.position) ∧
      (∀ p, kept.head? = some p → p.position ≤ front - 1000 * (pushed.length + 1)) ∧
      pushBack front l = pushed.mapIdx (fun i p => { p with position := front - 1000 * (i + 1) }) ++ kept) ∧
    List.Forall₂ (fun p q => q = { p with position := q.position } ∧ q.position ≤ p.position) l (pushBack front l) ∧
    (Separated l → (∀ p, (pushBack front l).head? = some p → p.position ≤ front - 1000) ∧
      (1000 * l.length ≤ front → Separated (pushBack front l)))

/-! ## Local channels -/

/-- A local report (R74) is a report of the channel's signaller with the next sequence number, counted as R65 and R67
to R70 state: at an OUT signaller no entry is made; otherwise, where it is not stale and the list has room, an entry
is, and it shows no gap. `b` is the part with the entry in the list, before it is handed where it is due at once.
Where an entry of that signaller and sequence number waits the report is a DUPLICATE (the model's choice,
notes/assumptions/31.md). -/
def Obligations.LocalReportsEnterTheList : Prop :=
  ∀ (s : State) (now time n : Nat) (c : Fin 8) (speed : Option Nat), n < 32 →
    s.profile.channels[c].signaller = some n →
    let u := localReport now c time speed s
    let seq := match (s.runtime n).lastSequence with | none => 0 | some l => (l + 1) % 65536
    let waits := ∃ e ∈ s.intake.entries, e.signaller = n ∧ e.sequence = seq
    let clamped := decide (now + 50 < time)
    let taken := if clamped then now else time
    let counts := { s.intake.counts with
      futureClamps := if clamped then min (s.intake.counts.futureClamps + 1) 65535
        else s.intake.counts.futureClamps }
    (∀ l, (s.runtime n).lastSequence = some l → l ≤ 65535) →
    ((s.runtime n).service = .out → OnlyChanges [.intake, .signallers] s u ∧
      u.intake = { s.intake with counts := { s.intake.counts with
        outOfService := min (s.intake.counts.outOfService + 1) 65535 } } ∧
      u.runtime n = { s.runtime n with lastSequence := some seq } ∧
      ∀ k : Fin 32, k.val ≠ n → u.signallers[k] = s.signallers[k]) ∧
    ((s.runtime n).service = .inService → waits → OnlyChanges [.intake] s u ∧
      u.intake = { s.intake with counts := { s.intake.counts with
        duplicates := min (s.intake.counts.duplicates + 1) 65535 } }) ∧
    ((s.runtime n).service = .inService → ¬ waits → taken + 36000 < now → OnlyChanges [.intake] s u ∧
      u.intake = { s.intake with counts := { counts with stale := min (s.intake.counts.stale + 1) 65535 } }) ∧
    ((s.runtime n).service = .inService → ¬ waits → now ≤ taken + 36000 → s.intake.entries.length < 24 →
      ∃ front back b, s.intake.entries = front ++ back ∧
        (∀ e ∈ front, e.time ≤ taken) ∧ (∀ e, back.head? = some e → taken < e.time) ∧
        OnlyChanges [.intake, .signallers] s b ∧
        b.intake = ⟨front ++ ⟨n, seq, taken,
          (match speed with | some 0 => none | some v => some (min v 15000) | none => none), .channel c⟩ :: back,
          { counts with accepted := min (s.intake.counts.accepted + 1) 65535 }⟩ ∧
        b.runtime n = { s.runtime n with lastSequence := some seq } ∧
        (∀ k : Fin 32, k.val ≠ n → b.signallers[k] = s.signallers[k]) ∧
        u = if min (taken + s.profile.tracking.holdBack * 10) 4294967295 ≤ now then handDue now (front.length + 1) b
          else b) ∧
    ((s.runtime n).service = .inService → ¬ waits → now ≤ taken + 36000 → 24 ≤ s.intake.entries.length →
      OnlyChanges [.intake, .port] s u ∧
      u.intake = { s.intake with counts := { counts with overruns := min (s.intake.counts.overruns + 1) 65535 } } ∧
      u.port = (post .intakeFull (some (.signaller n)) s).port)

/-- A CONTACT channel (R79 to R81): a leading edge starts MEASURING, an input that is active already starts nothing, an
opening before 50 ms is noise, 50 ms of closure is a passage at the closure start, and RESET FLAG re-arms a TRIPPED
channel whose contact is open. How an event carries its time and level is the model's choice
(notes/assumptions/13.md), and what happens at exactly 50 ms, and which data RESET FLAG's refusals carry, are read by
inference (notes/assumptions/14.md, 26.md). -/
def Obligations.ContactChannel : Prop :=
  ∀ (s : State) (c : Fin 8) (ms now : Nat), s.powered = true → s.now = some now →
    s.profile.channels[c].mode = .contact →
    let x := s.inputUnit.channels[c]
    let level := fun b => { s.inputUnit with
      inputs := s.inputUnit.inputs.set c b, pairEdge := s.inputUnit.pairEdge.set c false
      msTimer := max s.inputUnit.msTimer ms }
    let record := fun (u : InputUnit) y => (s.setInputUnit { u with channels := s.inputUnit.channels.set c y })
    let inactive := s.inputUnit.inputs[c] = false
    (¬ inactive → s.inputUnit.pairEdge[c] = false → exec (.contactLeadingEdge c ms) s = .next
      ((s.setInputUnit { s.inputUnit with msTimer := max s.inputUnit.msTimer ms }).setReply none)) ∧
    (inactive → x.state = .armed → exec (.contactLeadingEdge c ms) s =
      .next ((record (level true) { x with state := .measuring, flight := some ⟨ms, now⟩ }).setReply none)) ∧
    (inactive → x.state = .tripped →
      exec (.contactLeadingEdge c ms) s = .next ((s.setInputUnit (level true)).setReply none)) ∧
    (∀ f, x.state = .measuring → x.flight = some f → ms < f.ms + 50 → f.ms ≤ ms →
      exec (.contactBounce c ms) s = .next ((record (level false)
        { x with state := .armed, noise := min (x.noise + 1) 65535, flight := none }).setReply none)) ∧
    (∀ f, x.state = .measuring → x.flight = some f → f.ms + 50 ≤ ms →
      exec (.contactClosure c ms) s = .next ((localReport now c f.time none
        (record { s.inputUnit with msTimer := max s.inputUnit.msTimer ms }
          { x with state := .tripped, lastDetection := some f.time, flight := none })).setReply none)) ∧
    ∀ m, s.able m [.trap, .link, .dispatch] →
      (x.state = .tripped → s.inputUnit.inputs[c] = true →
        RefusesWith (.resetFlag m (some c.val)) .state (.flagState .tripped true) s) ∧
      (x.state = .tripped → s.inputUnit.inputs[c] = false →
        exec (.resetFlag m (some c.val)) s = .next (sendReply m (.done (.flagState .armed false))
          (record s.inputUnit { x with state := .armed }))) ∧
      (x.state = .armed ∨ x.state = .measuring →
        exec (.resetFlag m (some c.val)) s =
          .next (sendReply m (.done (.flagState x.state s.inputUnit.inputs[c])) s))

/-- A PULSE channel (R79, R82, R83): the leading edge starts MEASURING, and an input that is active already starts
nothing; at the trailing edge the width decides between
noise and a passage at the centre of the pulse; past the maximum width it is a FAULT until the input goes inactive.
How an event carries its time and level is the model's choice (notes/assumptions/13.md); that the end of a FAULT is
judged by the channel's state is read by inference (notes/assumptions/14.md, 15.md). -/
def Obligations.PulseChannel : Prop :=
  ∀ (s : State) (c : Fin 8) (ms now : Nat), s.powered = true → s.now = some now →
    s.profile.channels[c].mode = .pulse →
    let x := s.inputUnit.channels[c]
    let cfg := s.profile.channels[c]
    let level := fun b => { s.inputUnit with
      inputs := s.inputUnit.inputs.set c b, pairEdge := s.inputUnit.pairEdge.set c false
      msTimer := max s.inputUnit.msTimer ms }
    let record := fun (u : InputUnit) y => (s.setInputUnit { u with channels := s.inputUnit.channels.set c y })
    (s.inputUnit.inputs[c] = true → s.inputUnit.pairEdge[c] = false → exec (.pulseLeadingEdge c ms) s = .next
      ((s.setInputUnit { s.inputUnit with msTimer := max s.inputUnit.msTimer ms }).setReply none)) ∧
    (s.inputUnit.inputs[c] = false → x.state = .armed → exec (.pulseLeadingEdge c ms) s =
      .next ((record (level true) { x with state := .measuring, flight := some ⟨ms, now⟩ }).setReply none)) ∧
    ∀ f, x.flight = some f → f.ms ≤ ms →
      let w := ms - f.ms
      let ended := { x with state := ChanState.armed, measurement := some (.pulse (min w 65535)), flight := none }
      (x.state = .measuring →
        (w < cfg.minWidth → exec (.pulseTrailingEdge c ms) s =
          .next ((record (level false) { ended with noise := min (x.noise + 1) 65535 }).setReply none)) ∧
        (cfg.minWidth ≤ w → w ≤ cfg.maxWidth → exec (.pulseTrailingEdge c ms) s =
          .next ((localReport now c (now - w / 200) none
            (record (level false) { ended with lastDetection := some (now - w / 200) })).setReply none)) ∧
        (cfg.maxWidth < w → exec (.pulseFault c ms) s =
          .next ((record { s.inputUnit with msTimer := max s.inputUnit.msTimer ms }
            { x with state := .fault, faults := min (x.faults + 1) 65535 }).setReply none))) ∧
      (x.state = .fault → exec (.pulseFaultEnd c ms) s = .next ((record (level false) ended).setReply none))

/-- A PAIR channel (R84 to R87): an A edge starts MEASURING, a B edge within the maximum interval completes the pair
with its speed, an interval that runs out is an incomplete passage at the A edge, and a B edge while ARMED is a
reverse that holds the channel in GUARD for the maximum interval. An input that has been active since before its channel
was armed starts nothing until it has gone inactive (R79). How an event carries its time and level is the
model's choice (notes/assumptions/13.md: there too that an input goes inactive unseen after an edge of a
pair), and the outcome at exactly the maximum interval is read by inference
(notes/assumptions/14.md). -/
def Obligations.PairChannel : Prop :=
  ∀ (s : State) (c : Fin 8) (ms now : Nat), s.powered = true → s.now = some now → c.val % 2 = 0 →
    s.profile.channels[c].mode = .pair →
    let x := s.inputUnit.channels[c]
    let cfg := s.profile.channels[c]
    let level := fun (n : Nat) => { s.inputUnit with
      inputs := s.inputUnit.inputs.setIfInBounds n true, pairEdge := s.inputUnit.pairEdge.setIfInBounds n true
      msTimer := max s.inputUnit.msTimer ms }
    let timer := { s.inputUnit with msTimer := max s.inputUnit.msTimer ms }
    let record := fun (u : InputUnit) y => (s.setInputUnit { u with channels := s.inputUnit.channels.set c y })
    let rises := fun (n : Nat) => s.inputUnit.inputs[n]? = some false ∨ s.inputUnit.pairEdge[n]? = some true
    (s.inputUnit.inputs[c] = true → s.inputUnit.pairEdge[c] = false →
      exec (.pairAEdge c ms) s = .next ((s.setInputUnit timer).setReply none)) ∧
    (s.inputUnit.inputs[c.val + 1]? = some true → s.inputUnit.pairEdge[c.val + 1]? = some false →
      exec (.pairBEdge c ms) s = .next ((s.setInputUnit timer).setReply none)) ∧
    (x.state = .armed → x.flight = none →
      (rises c → exec (.pairAEdge c ms) s = .next ((record (level c)
        { x with state := .measuring, flight := some ⟨ms, now⟩ }).setReply none)) ∧
      (rises (c.val + 1) → exec (.pairBEdge c ms) s = .next ((record (level (c.val + 1))
        { x with state := .guard, reverse := min (x.reverse + 1) 65535, flight := some ⟨ms, now⟩ }).setReply none))) ∧
    ∀ f, x.flight = some f → f.ms ≤ ms →
      (x.state = .measuring → ms - f.ms ≤ cfg.interval → rises c →
        exec (.pairAEdge c ms) s = .next ((s.setInputUnit (level c)).setReply none)) ∧
      (x.state = .measuring → ms - f.ms ≤ cfg.interval → rises (c.val + 1) →
        let i := max 1 (ms - f.ms)
        exec (.pairBEdge c ms) s = .next ((localReport now c now (some (cfg.spacing * 1000 / i))
          (record (level (c.val + 1)) { x with
            state := .armed, measurement := some (.pair i (cfg.spacing * 1000 / i)), lastDetection := some now
            flight := none })).setReply none)) ∧
      (x.state = .measuring → cfg.interval ≤ ms - f.ms →
        exec (.pairIncomplete c ms) s = .next ((localReport now c f.time none
          (record timer { x with
            state := .armed, incomplete := min (x.incomplete + 1) 65535, lastDetection := some f.time
            flight := none })).setReply none)) ∧
      (x.state = .guard → ms - f.ms ≤ cfg.interval →
        (rises c → exec (.pairAEdge c ms) s = .next ((s.setInputUnit (level c)).setReply none)) ∧
        (rises (c.val + 1) →
          exec (.pairBEdge c ms) s = .next ((s.setInputUnit (level (c.val + 1))).setReply none))) ∧
      (x.state = .guard → cfg.interval ≤ ms - f.ms →
        exec (.guardExpiry c ms) s = .next ((record timer { x with state := .armed, flight := none }).setReply none))

/-! ## The profile -/

/-- The profile commands of the line, its stations, reaches and signallers, once their checks pass (R5 to R10): the
running copy takes the item, a store write begins, and what depends on the definition starts anew. Which checks apply
when, and that what depends on a definition starts anew in the same step, are readings by inference
(notes/assumptions/18.md, 19.md, 20.md); that the image being written fails its check, and that the
geometry mark is the geometry itself, are the model's choices (notes/assumptions/9.md, 10.md). -/
def Obligations.GeometryIsDefined : Prop :=
  ∀ (m : Master) (s : State), s.serves m [.service] → s.store.writing = none →
    (∀ x : LineArgs, 2 ≤ x.count → x.count ≤ 16 → 1000 ≤ x.lineEnd → x.lineEnd ≤ 999999 →
      s.profile.line ≠ some ⟨x.count, x.lineEnd⟩ → s.register.view = [] →
      (s.profile.line ≠ none → ∀ c : Fin 8, s.profile.channels[c].mode = .off) →
      ∃ u, exec (.defineLine m (some x)) s = .next (sendReply m (.done .nothing) u) ∧
        ProfileTaken { s.profile with
          line := some ⟨x.count, x.lineEnd⟩, stations := Vector.replicate 16 none
          reaches := Vector.replicate 15 none, signallers := Vector.replicate 32 none } s u ∧
        OnlyChanges [.store, .geometryMark, .signallers, .tracker, .intake, .fixUnit, .valves, .watchUnit] s u ∧
        u.signallers = Vector.replicate 32 SigRuntime.fresh ∧
        u.tracker = { s.tracker with flows := Vector.replicate 15 FlowEntry.empty } ∧
        u.intake = { s.intake with entries := [] } ∧ u.fixUnit = { s.fixUnit with unmatched := [] } ∧
        (∀ st : Fin 16, u.valves[st] =
          ⟨.unknown, 0#7, none, none, none, s.now.isSome && decide (st.val < x.count)⟩) ∧
        ∀ st : Fin 16, u.watchUnit.watches[st].state = .off) ∧
    (∀ (x : StationArgs) (st : Station) (held : Option Station), s.profile.line ≠ none → x.index < s.profile.count →
      x.index < 16 → x.chainage ≤ 999999 → optWithin 5 2000 x.halfWidth = true →
      optWithin 5 600 x.strokeTime = true → held = s.profile.station? x.index →
      st = ⟨x.chainage, x.halfWidth.getD ((held.map (·.halfWidth)).getD 200),
        x.strokeTime.getD ((held.map (·.strokeTime)).getD 60)⟩ → held ≠ some st →
      (held.map (fun h => (h.chainage, h.halfWidth)) = some (st.chainage, st.halfWidth) ∨
        (s.register.view = [] ∧ StationPlace s.profile x.index st.chainage ∧ StationRoom s.profile x.index st)) →
      ∃ u, exec (.defineStation m (some x)) s = .next (sendReply m (.done .nothing) u) ∧
        ProfileTaken { s.profile with stations := s.profile.stations.setIfInBounds x.index (some st) } s u ∧
        OnlyChanges [.store, .geometryMark] s u) ∧
    (∀ (x : ReachArgs) (rc : Reach) (held : Option Reach), s.profile.line ≠ none → x.index + 1 < s.profile.count →
      x.index < 15 → 50 ≤ x.area → x.area ≤ 20000 → optWithin 60 7200 x.stallTime = true →
      optWithin 10 600 x.flowTimeout = true → held = s.profile.reach? x.index →
      rc = ⟨x.area, x.stallTime.getD ((held.map (·.stallTime)).getD 900),
        x.flowTimeout.getD ((held.map (·.flowTimeout)).getD 120)⟩ → held ≠ some rc →
      (held.map (·.area) = some x.area ∨ s.register.view = []) →
      ∃ u, exec (.defineReach m (some x)) s = .next (sendReply m (.done .nothing) u) ∧
        ProfileTaken { s.profile with reaches := s.profile.reaches.setIfInBounds x.index (some rc) } s u ∧
        OnlyChanges [.store, .geometryMark] s u) ∧
    ∀ (n : Nat) (held new : Option Signaller) (place : Option SignallerPlace), s.profile.line ≠ none → n < 32 →
      held = s.profile.signaller? n → held ≠ new →
      (place = none → new = none ∧ s.profile.channelOn n = false) →
      (∀ pl, place = some pl → pl.chainage ≤ 999999 ∧ optWithin 10 20000 pl.window = true ∧
        new = some ⟨pl.source, pl.chainage, pl.firmness.getD ((held.map (·.firmness)).getD .firm),
          pl.window.getD ((held.map (·.window)).getD 2000)⟩) →
      (held.map (fun h => (h.source, h.chainage)) = new.map (fun h => (h.source, h.chainage)) ∨
        (s.register.view = [] ∧ s.profile.channelOn n = false ∧
          ∀ g, new = some g → SignallerRoom s.profile n g.chainage)) →
      ∃ u, exec (.defineSignaller m (some ⟨n, place⟩)) s = .next (sendReply m (.done .nothing) u) ∧
        ProfileTaken { s.profile with signallers := s.profile.signallers.setIfInBounds n new } s u ∧
        OnlyChanges [.store, .geometryMark, .signallers, .intake, .fixUnit] s u ∧
        (∀ k : Fin 32, u.signallers[k] =
          if k.val = n ∧ held.isSome ≠ new.isSome then SigRuntime.fresh else s.signallers[k]) ∧
        let moved := decide (held ≠ none ∧
          held.map (fun h => (h.source, h.chainage)) ≠ new.map (fun h => (h.source, h.chainage)))
        u.intake = { s.intake with entries :=
          if moved then s.intake.entries.filter (fun e => e.signaller != n) else s.intake.entries } ∧
        u.fixUnit = { s.fixUnit with unmatched :=
          if moved then s.fixUnit.unmatched.filter (fun e => e.signaller != n) else s.fixUnit.unmatched }

/-- DEFINE TRACKING, DEFINE TRAP and DEFINE MASTER, once their checks pass (R11 to R13, R72). A shorter hold-back
hands the entries then due from the state `b` with the profile taken. That they are handed in the same step, and the
number of pairs of DEFINE TRAP, are readings by inference (notes/assumptions/18.md, 20.md). That the image being
written fails its check, and that the geometry mark is the geometry itself, are the model's choices
(notes/assumptions/9.md, 10.md). -/
def Obligations.SettingsAreDefined : Prop :=
  ∀ (m : Master) (s : State), s.serves m [.service] → s.store.writing = none →
    (∀ (x : TrackingArgs) (k : Tracking), 1 ≤ x.period → x.period ≤ 60 → optWithin 0 120 x.holdBack = true →
      optWithin 0 16 x.weight = true →
      k = ⟨x.period, x.holdBack.getD s.profile.tracking.holdBack, x.weight.getD s.profile.tracking.weight⟩ →
      k ≠ s.profile.tracking →
      ∃ u, exec (.defineTracking m (some x)) s = .next (sendReply m (.done .nothing) u) ∧
        ProfileTaken { s.profile with tracking := k } s u ∧
        (s.profile.tracking.holdBack ≤ k.holdBack ∨ s.now = none → OnlyChanges [.store] s u) ∧
        ∀ now, s.now = some now → k.holdBack < s.profile.tracking.holdBack →
          u.intake.entries =
            s.intake.entries.dropWhile (fun e => min (e.time + k.holdBack * 10) 4294967295 ≤ now) ∧
          ((∀ e, s.intake.entries.head? = some e → now < min (e.time + k.holdBack * 10) 4294967295) →
            OnlyChanges [.store] s u) ∧
          ∃ b, ProfileTaken { s.profile with tracking := k } s b ∧ OnlyChanges [.store] s b ∧
            u = handDue now s.intake.entries.length b) ∧
    (∀ x : TrapArgs, 1 ≤ x.settings.length → x.settings.length ≤ 6 → (x.settings.map (·.1)).Nodup →
      (∀ p ∈ x.settings, TrapTakes x.trap p.2 p.1) →
      (∃ p ∈ x.settings, s.profile.trapParam x.trap p.1 ≠ some p.2) →
      ∃ u, exec (.defineTrap m (some x)) s = .next (sendReply m (.done .nothing) u) ∧
        ProfileTaken u.profile s u ∧ OnlyChanges [.store] s u ∧
        u.profile = { s.profile with launch := u.profile.launch, receive := u.profile.receive } ∧
        ∀ (t : TrapId) (k : TrapParam),
          (∀ v, t = x.trap → (k, v) ∈ x.settings → u.profile.trapParam t k = some v) ∧
          ((t ≠ x.trap ∨ k ∉ x.settings.map (·.1)) → u.profile.trapParam t k = s.profile.trapParam t k)) ∧
    ∀ (k : Master) (c : MasterClass), s.profile.masters[k] ≠ c →
      ((∀ j : Master, j ≠ k → s.profile.masters[j] ≠ .service) → c ≠ .service →
        Refuses (.defineMaster m (some ⟨k.val, c⟩)) .range s) ∧
      ((c = .service ∨ ∃ j : Master, j ≠ k ∧ s.profile.masters[j] = .service) →
        ∃ u, exec (.defineMaster m (some ⟨k.val, c⟩)) s = .next (sendReply m (.done .nothing) u) ∧
          ProfileTaken { s.profile with masters := s.profile.masters.set k c } s u ∧
          OnlyChanges [.store, .port] s u ∧ u.port = s.port.setContext k { s.context k with cls := c })

/-- SET CHANNEL MODE and SET WATCH, once their checks pass (R88, R89, R137, R138; `ChannelFits`, `ChannelConflicts`
and `WatchFits` say the checks): the watch starts anew or keeps its state, a delay in flight is set anew or runs out,
and the watch is judged alone. That mode OFF carries no further field, the order of the effects of one SET WATCH, and
a change of limits alone, are readings by inference (notes/assumptions/16.md, 21.md). That the image being written
fails its check, and that the geometry mark is the geometry itself, are the model's choices (notes/assumptions/9.md,
10.md). -/
def Obligations.ChannelsAndWatchesAreSet : Prop :=
  ∀ (m : Master) (s : State), s.store.writing = none →
    (∀ (x : ChannelArgs) (c : Fin 8) (cfg : ChanCfg), s.serves m [.service] → x.channel = c.val →
      cfg = channelFrom x s.profile.channels[c] → ChannelFits s.profile c x → ¬ ChannelConflicts s.profile c x →
      cfg ≠ s.profile.channels[c] →
      ∃ u, exec (.setChannelMode m (some x)) s = .next (sendReply m (.done .nothing) u) ∧
        ProfileTaken { s.profile with channels := s.profile.channels.set c cfg } s u ∧
        (cfg.mode ≠ s.profile.channels[c].mode ∨ cfg.signaller ≠ s.profile.channels[c].signaller →
          OnlyChanges [.store, .inputUnit] s u ∧
          u.inputUnit = { s.inputUnit with
            channels := s.inputUnit.channels.set c ⟨(match s.now, cfg.mode with
              | none, _ => .idle
              | some _, .off => .idle
              | some _, .contact => if s.inputUnit.inputs[c] then .tripped else .armed
              | some _, .pulse => .armed
              | some _, .pair => .armed),
              none, none, 0, 0, 0, 0, none⟩ }) ∧
        (cfg.mode = s.profile.channels[c].mode → cfg.signaller = s.profile.channels[c].signaller →
          (cfg.mode = .pair → ∀ f, s.inputUnit.channels[c].flight = some f →
            s.inputUnit.msTimer - f.ms < cfg.interval) → OnlyChanges [.store] s u)) ∧
    ∀ (x : WatchArgs) (st : Fin 16) (cfg : WatchCfg), s.serves m [.service, .dispatch] → x.station = st.val →
      cfg = watchFrom x s.profile.watches[st] → WatchFits s.profile.watches[st] x →
      cfg ≠ s.profile.watches[st] →
      ∃ u, exec (.setWatch m (some x)) s = .next (sendReply m (.done .nothing) u) ∧
        ProfileTaken { s.profile with watches := s.profile.watches.set st cfg } s u ∧
        OnlyChanges [.store, .port, .valves, .watchUnit] s u ∧
        (∀ k : Fin 16, k ≠ st → u.valves[k] = s.valves[k] ∧ u.watchUnit.watches[k] = s.watchUnit.watches[k]) ∧
        u.valves[st].own = s.valves[st].own ∧ u.watchUnit.firstPending = s.watchUnit.firstPending ∧
        PostsOnly watchKinds s u ∧
        u.valves[st].hold.getLsbD 6 = (cfg.actions.hold && decide (u.watchUnit.watches[st].state ∈
          [WatchState.made, .breaking, .latched, .inhibited])) ∧
        (let w := s.watchUnit.watches[st]
         let restarts := cfg.enabled ≠ s.profile.watches[st].enabled ∨ cfg.source ≠ s.profile.watches[st].source
         let start := if cfg.enabled = true ∧ (s.watchStation st).isSome then WatchState.clear else .off
         let unlatched := if w.state = .latched ∧ cfg.latch = false then { w with state := .clear } else w
         let broken := if cfg.latch then WatchState.latched else .clear
         (restarts → OneWatchJudged st ⟨start, none, none, none, w.lastJudged⟩ 0 s u) ∧
         (¬ restarts → w.delay = none → OneWatchJudged st unlatched 0 s u) ∧
         ∀ d, ¬ restarts → w.delay = some d →
           let due := min (d.start + (if w.state = .making then cfg.makeDelay else cfg.breakDelay) * 10) 4294967295
           (s.now = none ∨ (∃ now, s.now = some now ∧ now < due) →
             OneWatchJudged st { unlatched with delay := some ⟨d.start, due⟩ } 0 s u) ∧
           (∀ now, s.now = some now → due ≤ now →
             (w.state = .making → OneWatchJudged st { w with state := .made, delay := none } 1 s u) ∧
             (w.state = .breaking → OneWatchJudged st { w with state := broken, delay := none } 0 s u))) ∧
        (s.now ≠ none → cfg.enabled = false → u.watchUnit.watches[st].state = .off) ∧
        (s.now = none → (cfg.enabled ≠ s.profile.watches[st].enabled ∨ cfg.source ≠ s.profile.watches[st].source) →
          u.watchUnit.watches[st].state =
            if cfg.enabled = true ∧ (s.watchStation st).isSome then .clear else .off)

/-- What turns a profile command away (R2 to R14, R16, R88, R137), and the end of a store write (R1, R2): WAIT while
the store is WRITING; STATE for an item of an undefined line; RANGE for a field out of range or parameters that do not
fit; LOCKED for a geometry change while the register holds a record; STATE where a channel is in use or conflicts with
another; RANGE for a place that a station or signaller may not take; DONE with no write where nothing changes. That
STORE_WRITE_COMPLETE does nothing while the store is IDLE, that mode OFF carries no further field, the range of a
chainage, the time of the place tests, the number of pairs of DEFINE TRAP, and DEFINE LINE of the line held before the
lock are readings by inference (notes/assumptions/2.md, 16.md, 18.md). The bit of an image's check is the model's
choice (notes/assumptions/9.md). -/
def Obligations.ProfileStoreGuards : Prop :=
  (∀ (m : Master) (i : Instr) (k : Command) (s : State), s.store.writing ≠ none → i.request = some (m, k) →
    (s.serves m [.service] ∧ k ∈ [Command.defineLine, .defineStation, .defineReach, .defineSignaller, .defineTracking,
      .defineTrap, .defineMaster, .setChannelMode]) ∨ (s.serves m [.service, .dispatch] ∧ k = .setWatch) ∨
      (s.powered = true ∧ k = .readProfile) →
    AnswersOnly i .wait s) ∧
  (∀ (m : Master) (i : Instr) (k : Command) (s : State), s.serves m [.service] → s.store.writing = none →
    s.profile.line = none → i.request = some (m, k) →
    k ∈ [Command.defineStation, .defineReach, .defineSignaller] → Refuses i .state s) ∧
  (∀ (m : Master) (x : LineArgs) (s : State), s.serves m [.service] → s.store.writing = none → 2 ≤ x.count →
    x.count ≤ 16 → 1000 ≤ x.lineEnd → x.lineEnd ≤ 999999 →
    (s.profile.line = some ⟨x.count, x.lineEnd⟩ → AnswersOnly (.defineLine m (some x)) (.done .nothing) s) ∧
    (s.profile.line ≠ some ⟨x.count, x.lineEnd⟩ → s.register.view ≠ [] →
      Refuses (.defineLine m (some x)) .locked s) ∧
    (s.profile.line ≠ none → s.profile.line ≠ some ⟨x.count, x.lineEnd⟩ → s.register.view = [] →
      (∃ c : Fin 8, s.profile.channels[c].mode ≠ .off) → Refuses (.defineLine m (some x)) .state s)) ∧
  (∀ (m : Master) (x : LineArgs) (s : State), s.serves m [.service] → s.store.writing = none →
    x.count < 2 ∨ 16 < x.count ∨ x.lineEnd < 1000 ∨ 999999 < x.lineEnd →
    Refuses (.defineLine m (some x)) .range s) ∧
  (∀ (m : Master) (x : StationArgs) (s : State), s.serves m [.service] → s.store.writing = none →
    s.profile.line ≠ none →
    let i := Instr.defineStation m (some x)
    let held := s.profile.station? x.index
    let half := x.halfWidth.getD ((held.map (·.halfWidth)).getD 200)
    let inRange := x.index < s.profile.count ∧ x.chainage ≤ 999999 ∧ optWithin 5 2000 x.halfWidth = true ∧
      optWithin 5 600 x.strokeTime = true
    let moves := held.map (fun h => (h.chainage, h.halfWidth)) ≠ some (x.chainage, half)
    (¬ inRange → Refuses i .range s) ∧
    (inRange → x.index < 16 → moves → s.register.view ≠ [] → Refuses i .locked s) ∧
    (inRange → x.index < 16 → moves → s.register.view = [] → (¬ StationPlace s.profile x.index x.chainage ∨
      ∀ stroke, ¬ StationRoom s.profile x.index ⟨x.chainage, half, stroke⟩) → Refuses i .range s)) ∧
  (∀ (m : Master) (x : ReachArgs) (s : State), s.serves m [.service] → s.store.writing = none →
    s.profile.line ≠ none →
    (s.profile.count ≤ x.index + 1 ∨ x.area < 50 ∨ 20000 < x.area ∨ optWithin 60 7200 x.stallTime = false ∨
      optWithin 10 600 x.flowTimeout = false → Refuses (.defineReach m (some x)) .range s) ∧
    (x.index + 1 < s.profile.count → x.index < 15 → 50 ≤ x.area → x.area ≤ 20000 →
      optWithin 60 7200 x.stallTime = true → optWithin 10 600 x.flowTimeout = true →
      (s.profile.reach? x.index).map (·.area) ≠ some x.area → s.register.view ≠ [] →
      Refuses (.defineReach m (some x)) .locked s)) ∧
  (∀ (m : Master) (n : Nat) (place : Option SignallerPlace) (s : State), s.serves m [.service] →
    s.store.writing = none → s.profile.line ≠ none →
    let i := Instr.defineSignaller m (some ⟨n, place⟩)
    let held := s.profile.signaller? n
    let inRange := n ≤ 31 ∧ ∀ pl, place = some pl → pl.chainage ≤ 999999 ∧ optWithin 10 20000 pl.window = true
    let moves := held.map (fun h => (h.source, h.chainage)) ≠ place.map (fun pl => (pl.source, pl.chainage))
    let assigned := ∃ c : Fin 8, s.profile.channels[c].mode ≠ .off ∧ s.profile.channels[c].signaller = some n
    (¬ inRange → Refuses i .range s) ∧
    (inRange → place = none → held = none → AnswersOnly i (.done .nothing) s) ∧
    (inRange → moves → s.register.view ≠ [] → Refuses i .locked s) ∧
    (inRange → moves → s.register.view = [] → assigned → Refuses i .state s) ∧
    (inRange → moves → s.register.view = [] → ¬ assigned → ∀ pl, place = some pl →
      ¬ SignallerRoom s.profile n pl.chainage → Refuses i .range s)) ∧
  (∀ (m : Master) (s : State), s.serves m [.service] → s.store.writing = none →
    (∀ i ∈ [Instr.defineLine m none, .defineTracking m none, .defineTrap m none, .defineMaster m none,
      .setChannelMode m none], Refuses i .range s) ∧
    (s.profile.line ≠ none → ∀ i ∈ [Instr.defineStation m none, .defineReach m none, .defineSignaller m none],
      Refuses i .range s) ∧
    (∀ x : TrackingArgs,
      let inRange := 1 ≤ x.period ∧ x.period ≤ 60 ∧ (∀ n, x.holdBack = some n → n ≤ 120) ∧
        ∀ n, x.weight = some n → n ≤ 16
      let held := s.profile.tracking
      (¬ inRange → Refuses (.defineTracking m (some x)) .range s) ∧
      (inRange → x.period = held.period → x.holdBack.getD held.holdBack = held.holdBack →
        x.weight.getD held.weight = held.weight → AnswersOnly (.defineTracking m (some x)) (.done .nothing) s)) ∧
    (∀ x : TrapArgs,
      let inRange := 1 ≤ x.settings.length ∧ x.settings.length ≤ 6 ∧ (x.settings.map (·.1)).Nodup ∧
        ∀ p ∈ x.settings, TrapTakes x.trap p.2 p.1
      (¬ inRange → Refuses (.defineTrap m (some x)) .range s) ∧
      (inRange → (∀ p ∈ x.settings, s.profile.trapParam x.trap p.1 = some p.2) →
        AnswersOnly (.defineTrap m (some x)) (.done .nothing) s)) ∧
    (∀ x : MasterArgs, 5 < x.master → Refuses (.defineMaster m (some x)) .range s) ∧
    (∀ k : Master, (∃ j : Master, s.profile.masters[j] = .service) →
      AnswersOnly (.defineMaster m (some ⟨k.val, s.profile.masters[k]⟩)) (.done .nothing) s) ∧
    (∀ x : ChannelArgs, 7 < x.channel → Refuses (.setChannelMode m (some x)) .range s) ∧
    ∀ (x : ChannelArgs) (c : Fin 8), x.channel = c.val →
      let i := Instr.setChannelMode m (some x)
      let unchanged := channelFrom x s.profile.channels[c] = s.profile.channels[c]
      (¬ ChannelFits s.profile c x → Refuses i .range s) ∧
      (ChannelFits s.profile c x → unchanged → AnswersOnly i (.done .nothing) s) ∧
      (ChannelFits s.profile c x → ¬ unchanged → ChannelConflicts s.profile c x → Refuses i .state s)) ∧
  (∀ (m : Master) (s : State), s.serves m [.service, .dispatch] → s.store.writing = none →
    Refuses (.setWatch m none) .range s ∧
    (∀ x : WatchArgs, 15 < x.station → Refuses (.setWatch m (some x)) .range s) ∧
    ∀ (x : WatchArgs) (st : Fin 16), x.station = st.val →
      let held := s.profile.watches[st]
      (¬ WatchFits held x → Refuses (.setWatch m (some x)) .range s) ∧
      (WatchFits held x → watchFrom x held = held → AnswersOnly (.setWatch m (some x)) (.done .nothing) s)) ∧
  ∀ s : State, s.powered = true →
    ∃ t, exec .storeWriteComplete s = .next t ∧ OnlyChanges [.store, .reply] s t ∧ t.reply = none ∧
      (s.store.writing = none → t.store = s.store) ∧
      ∀ slot, s.store.writing = some slot → t.store.running = s.store.running ∧ t.store.writing = none ∧
        t.store.currentImage = some slot ∧ t.store.imageState = .current ∧
        t.store.image slot = { s.store.image slot with valid := true } ∧
        ∀ other, other ≠ slot → t.store.image other = s.store.image other

/-! ## Signaller service and the unmatched list -/

/-- SET SIGNALLER SERVICE, whole (R102). -/
def Obligations.ServiceIsSet : Prop :=
  ∀ (m : Master) (n : Nat) (v : Service) (s : State), s.powered = true →
    ((s.context m).cls ≠ .dispatch → Refuses (.setSignallerService m (some ⟨n, v⟩)) .cls s) ∧
    ((s.context m).cls = .dispatch → s.profile.complete = false →
      Refuses (.setSignallerService m (some ⟨n, v⟩)) .state s) ∧
    (s.able m [.dispatch] →
      (31 < n → Refuses (.setSignallerService m (some ⟨n, v⟩)) .range s) ∧
      (n ≤ 31 → s.profile.signaller? n = none → Refuses (.setSignallerService m (some ⟨n, v⟩)) .noSuch s) ∧
      (∀ k : Fin 32, k.val = n → s.profile.signaller? n ≠ none →
        ∃ t, exec (.setSignallerService m (some ⟨n, v⟩)) s = .next t ∧ OnlyChanges [.signallers, .reply] s t ∧
          t.signallers = s.signallers.set k { s.signallers[k] with
            service := v, missed := if v = .inService then 0 else s.signallers[k].missed } ∧
          Replied m (.done (.serviceHeld v t.signallers[k].missed)) t))

/-- DISCARD PASSAGE, whole (R113). -/
def Obligations.DiscardPassageCommand : Prop :=
  ∀ (m : Master) (x : DiscardArgs) (s : State), s.powered = true →
    ((s.context m).cls ≠ .dispatch → Refuses (.discardPassage m (some x)) .cls s) ∧
    ((s.context m).cls = .dispatch → s.profile.complete = false → Refuses (.discardPassage m (some x)) .state s) ∧
    (s.able m [.dispatch] →
      (31 < x.signaller → Refuses (.discardPassage m (some x)) .range s) ∧
      (x.signaller ≤ 31 →
        (∀ e ∈ s.fixUnit.unmatched, e.signaller ≠ x.signaller ∨ e.sequence ≠ x.sequence) →
        Refuses (.discardPassage m (some x)) .noSuch s) ∧
      ∀ older e newer, x.signaller ≤ 31 → s.fixUnit.unmatched = older ++ e :: newer →
        e.signaller = x.signaller → e.sequence = x.sequence →
        (∀ o ∈ older, o.signaller ≠ x.signaller ∨ o.sequence ≠ x.sequence) →
        ∃ t, exec (.discardPassage m (some x)) s = .next t ∧ OnlyChanges [.fixUnit, .reply] s t ∧
          t.fixUnit = { s.fixUnit with unmatched := older ++ newer } ∧
          Replied m (.done (.entriesLeft (older.length + newer.length))) t)

/-- ASSIGN PASSAGE (R111, R112): each of its refusals in the order of the checks, and the application of the older
entry of that name to its candidate, with the window waived; the entry leaves the list, and the watches are judged
(R142). -/
def Obligations.PassagesAreAssigned : Prop :=
  ∀ (m : Master) (x : AssignArgs) (s : State), s.powered = true →
    let i := Instr.assignPassage m (some x)
    let named := fun e : UnmatchedEntry => e.signaller = x.signaller ∧ e.sequence = x.sequence
    ((s.context m).cls ≠ .dispatch → Refuses i .cls s) ∧
    ((s.context m).cls = .dispatch → s.profile.complete = false → Refuses i .state s) ∧
    (s.able m [.dispatch] → s.now = none → Refuses i .timeUnset s) ∧
    ∀ now, s.able m [.dispatch] → s.now = some now →
      Refuses (.assignPassage m none) .range s ∧
      (31 < x.signaller ∨ x.tag = 0 → Refuses i .range s) ∧
      (x.signaller ≤ 31 → 1 ≤ x.tag →
        (∀ e ∈ s.fixUnit.unmatched, ¬ named e) ∨ s.register.find x.tag = none → Refuses i .noSuch s) ∧
      ∀ (e : UnmatchedEntry) (p : Pig) (older newer : List UnmatchedEntry), x.signaller ≤ 31 → 1 ≤ x.tag →
        s.fixUnit.unmatched = older ++ e :: newer → named e → (∀ o ∈ older, ¬ named o) →
        s.register.find x.tag = some p →
        ((∀ c, candidate s x.signaller = some c → c.tag ≠ x.tag) → Refuses i .interlock s) ∧
        ∀ c g, candidate s x.signaller = some c → c.tag = x.tag → s.profile.signaller? x.signaller = some g →
          (∀ f, c.lastFix = some f → e.time < f.time → Refuses i .stale s) ∧
          ((∀ f, c.lastFix = some f → f.time ≤ e.time) → ∃ u,
            exec i s = .next (sendReply m (.done (assignedData x.tag u)) u) ∧
            u = { applyPassage now g ⟨e.signaller, e.sequence, e.time, e.speed⟩ false c s with
              fixUnit := { s.fixUnit with unmatched := older ++ newer } } ∧
            u.intake = s.intake ∧ u.profile = s.profile ∧ u.clock = s.clock ∧
            PostsOnly ([.passage, .signallerFault, .barrelOverfill] ++ watchKinds) s u ∧
            (∀ st : Fin 16, u.valves[st].own = s.valves[st].own) ∧ WatchesJudged s u)

/-! ## Line valves -/

/-- REPORT VALVE and NOTIFY FORCED STROKE (R118, R119, R132): the record written, pigs in the zone struck, and the
watches judged where the position changed. That the number in the reply counts pigs already STRUCK is read by
inference (notes/assumptions/25.md). -/
def Obligations.ValvesAreReported : Prop :=
  ∀ (m : Master) (st : Fin 16) (s : State), st.val < s.profile.count →
    (∀ pos, s.able m [.link, .trap] →
      let s1 := s.setValves (s.valves.set st { s.valves[st] with position := pos })
      let u := if s.valves[st].position = pos then s else judgeAll s1
      exec (.reportValve m (some ⟨st.val, pos⟩)) s = .next (sendReply m
        (.done (.valveTaken s.valves[st].position s.valves[st].permit.isSome)) u) ∧
      u.valves[st].position = pos ∧ u.valves[st].permit = s.valves[st].permit ∧
      (∀ k : Fin 16, k ≠ st → u.valves[k].own = s.valves[k].own) ∧
      u.valves[st].own = { s.valves[st] with position := pos }.own ∧ PostsOnly watchKinds s u ∧
      (s.valves[st].position ≠ pos → WatchesJudged s u) ∧
      OnlyChanges [.valves, .port, .watchUnit] s u) ∧
    ∀ (x : Station) (d : Direction), s.able m [.dispatch, .link] → s.profile.station? st = some x →
      let inZone := fun p : Pig =>
        decide (((x.chainage : Int) - x.halfWidth) * 1000 ≤ p.position ∧ p.position ≤ (x.chainage + x.halfWidth) * 1000)
      ∃ u, exec (.notifyForcedStroke m (some ⟨st.val, d⟩)) s = .next (sendReply m
          (.done (.struck (s.register.inLine.countP inZone) (s.valves[st].permit.map (·.owner)))) u) ∧
        OnlyChanges [.valves, .port, .watchUnit, .register] s u ∧
        u.register = { s.register with inLine := s.register.inLine.map (fun p =>
          if inZone p then { p with flags := { p.flags with struck := true } } else p) } ∧
        u.valves[st].position = .moving ∧ u.valves[st].permit = none ∧ u.valves[st].lapsed = none ∧
        u.valves[st].forced = some ⟨d, s.now⟩ ∧
        (∀ k : Fin 16, k ≠ st → u.valves[k].own = s.valves[k].own) ∧
        u.port.detail[(9 : Fin 16)] =
          ⟨some (.station st), s.now, min (s.port.detail[(9 : Fin 16)].count + 1) 65535⟩ ∧
        (∀ k : Master, (u.context k).attention.getLsbD 9 = true) ∧
        (s.now = none ∨ s.valves[st].position = .moving →
          u.watchUnit = s.watchUnit ∧ u.valves[st].hold = s.valves[st].hold ∧
          u.valves[st].contact = s.valves[st].contact) ∧
        u.valves[st].own = { s.valves[st] with
          position := .moving, permit := none, lapsed := none, forced := some ⟨d, s.now⟩ }.own ∧
        PostsOnly (.forcedStroke :: watchKinds) s u ∧
        (s.valves[st].position ≠ .moving → WatchesJudged s u)

/-- REQUEST STROKE (R125 to R128): the checks in their order, each over the pigs from the head, the data of each refusal, and
the permit granted when every check passes. -/
def Obligations.StrokesArePermitted : Prop :=
  ∀ (m : Master) (st : Fin 16) (d : Direction) (s : State) (now : Nat) (x : Station), s.able m [.link, .trap] →
    s.now = some now → st.val < s.profile.count → s.profile.station? st = some x →
    let i := Instr.requestStroke m (some ⟨st.val, d⟩)
    let v := s.valves[st]
    let target := match d with | .toOpen => ValvePos.opened | .toClose => .closed
    let zoneStart : Int := ((x.chainage : Int) - x.halfWidth) * 1000
    let inZone := fun p : Pig => zoneStart ≤ p.position ∧ p.position ≤ (x.chainage + x.halfWidth) * 1000 ∧
      ¬ (d = .toOpen ∧ (p.position : Int) = zoneStart)
    let nearby := fun p : Pig => p.status = .unverified ∧
      ∃ r, s.profile.reachAt p.position = some r ∧ (r = st.val ∨ r + 1 = st.val)
    let approaching := fun p : Pig => (p.position : Int) < zoneStart ∧ p.speed ≠ 0 ∧
      zoneStart - p.position ≤ ((x.strokeTime + 30) * p.speed : Nat)
    let pigs := s.register.inLine
    let first := fun (found : Pig → Prop) (p : Pig) => ∃ ahead behind, pigs = ahead ++ p :: behind ∧ found p ∧
      ∀ a ∈ ahead, ¬ found a
    (v.permit ≠ none → Refuses i .busy s) ∧
    (v.permit = none → v.position = target → Refuses i .state s) ∧
    (v.permit = none → v.position ≠ target → v.hold ≠ 0#7 → RefusesWith i .held (.holdSet v.hold) s) ∧
    (v.permit = none → v.position ≠ target → v.hold = 0#7 →
      (∀ p, first inZone p → RefusesWith i .interlock (.strokeInterlock .zone p.tag none) s) ∧
      ((∀ p ∈ pigs, ¬ inZone p) →
        (∀ p, first nearby p → RefusesWith i .interlock (.strokeInterlock .unverified p.tag none) s) ∧
        ((∀ p ∈ pigs, ¬ nearby p) →
          (∀ p, first approaching p → ∃ eta,
            RefusesWith i .interlock (.strokeInterlock .approach p.tag (some eta)) s ∧
            zoneStart - p.position ≤ (eta * p.speed : Nat) ∧
            ∀ k : Nat, zoneStart - p.position ≤ (k * p.speed : Nat) → eta ≤ k) ∧
          ((∀ p ∈ pigs, ¬ approaching p) →
            let e := min (now + (x.strokeTime + 30) * 10) 4294967295
            ∃ t, exec i s = .next t ∧ OnlyChanges [.valves, .reply] s t ∧
              t.valves = s.valves.set st { v with permit := some ⟨m, d, e⟩, lapsed := none } ∧
              Replied m (.done (.expiry e)) t))))

/-- STROKE DONE (R129): DONE for the owner of the permit, NOT_OWNER for another, LATE for the owner of the lapsed
permit, STATE otherwise. The watches are judged where the position changed (R142). -/
def Obligations.StrokesEnd : Prop :=
  ∀ (m : Master) (st : Fin 16) (pos : ValvePos) (s : State), s.able m [.link, .trap] → st.val < s.profile.count →
    let i := Instr.strokeDone m (some ⟨st.val, pos⟩)
    let v := s.valves[st]
    let ended := fun v' a => ∃ u, exec i s = .next (sendReply m a u) ∧
      OnlyChanges [.valves, .port, .watchUnit] s u ∧ u.valves[st].own =
        (pos, manualHolds v.hold, (v' : Valve).permit, v'.lapsed, v.forced) ∧
      (∀ k : Fin 16, k ≠ st → u.valves[k].own = s.valves[k].own) ∧
      (v.position = pos ∨ s.now = none → u = s.setValves (s.valves.set st { v' with position := pos })) ∧
      PostsOnly watchKinds s u ∧ (v.position ≠ pos → WatchesJudged s u)
    (pos = .moving → Refuses i .range s) ∧
    (pos ≠ .moving →
      (∀ p, v.permit = some p → p.owner = m → ended { v with permit := none } (.done .nothing)) ∧
      (∀ p, v.permit = some p → p.owner ≠ m → Refuses i .notOwner s) ∧
      (∀ l, v.permit = none → v.lapsed = some l → l.owner = m → ended { v with lapsed := none } (.late .nothing)) ∧
      (v.permit = none → (∀ l, v.lapsed = some l → l.owner ≠ m) → Refuses i .state s))

/-! ## Deadlines -/

/-- The running out of a stroke permit (R130), of a trap step's deadline (R161) and of the launch overdue deadline
(R168) when line time has reached them. The watches are judged where a position changed (R142). -/
def Obligations.DeadlinesRunOut : Prop :=
  ∀ (s : State) (now : Nat), s.powered = true → s.now = some now →
    (∀ (st : Fin 16) (p : Permit), s.valves[st].permit = some p → p.expiry ≤ now →
      ∃ t, exec (.permitExpiry st) s = .next t ∧ OnlyChanges [.valves, .port, .watchUnit, .reply] s t ∧
        t.reply = none ∧ t.valves[st].position = .unknown ∧ t.valves[st].permit = none ∧
        t.valves[st].lapsed = some ⟨p.owner, p.direction⟩ ∧ t.valves[st].forced = s.valves[st].forced ∧
        manualHolds t.valves[st].hold = manualHolds s.valves[st].hold ∧
        (∀ k : Fin 16, k ≠ st → t.valves[k].own = s.valves[k].own) ∧
        t.port.detail[(8 : Fin 16)] =
          ⟨some (.station st), some now, min (s.port.detail[(8 : Fin 16)].count + 1) 65535⟩ ∧
        (∀ k : Master, (t.context k).attention.getLsbD 8 = true) ∧
        PostsOnly (.permitExpired :: watchKinds) s t ∧
        (s.valves[st].position = .unknown → t.watchUnit = s.watchUnit ∧ t.valves[st].hold = s.valves[st].hold) ∧
        (s.valves[st].position ≠ .unknown → WatchesJudged s t)) ∧
    (∀ (x : TrapId) (h : StepInHand), (s.trap x).step = some h → h.deadline ≤ now →
      ∃ t, exec (.trapStepDeadline x) s = .next t ∧ OnlyChanges [.traps, .port, .reply] s t ∧ t.reply = none ∧
        t.trap x = { s.trap x with state := .unknown, step := none, lapsed := some ⟨h.step, h.owner⟩ } ∧
        (∀ y, y ≠ x → t.trap y = s.trap y) ∧
        t.traps.launchOverdue = (if x = .launch ∧ (s.trap x).state = .driving then none else s.traps.launchOverdue) ∧
        t.port = (post .trapEvent (some (.trap x)) s).port) ∧
    ∀ d, s.traps.launchOverdue = some d → d ≤ now →
      ∃ t, exec .launchOverdue s = .next t ∧ OnlyChanges [.traps, .port, .reply] s t ∧ t.reply = none ∧
        t.traps = { s.traps with launchOverdue := none } ∧
        t.port = (post .launchOverdue (some (.trap .launch)) s).port

/-! ## Approach watches -/

/-- ACKNOWLEDGE WATCH (R149), with the judgement of that watch alone where line time is set, and the running out of a
make or break delay (R145) with its actions (R147, R148). That start inhibit is not in play at that judgement, and
that the refusal carries the watch's state, are read by inference (notes/assumptions/21.md, 26.md). -/
def Obligations.WatchesAreAcknowledged : Prop :=
  ∀ (st : Fin 16) (s : State), s.powered = true →
    let w := s.watchUnit.watches[st]
    let only := fun t : State => (∀ k : Fin 16, k ≠ st →
        t.valves[k] = s.valves[k] ∧ t.watchUnit.watches[k] = s.watchUnit.watches[k]) ∧
      t.valves[st].own = s.valves[st].own ∧ t.watchUnit.firstPending = s.watchUnit.firstPending ∧
      PostsOnly watchKinds s t ∧
      t.valves[st].hold.getLsbD 6 = ((s.watchCfg st).actions.hold && decide (t.watchUnit.watches[st].state ∈
        [WatchState.made, .breaking, .latched, .inhibited]))
    (∀ m : Master, s.able m [.dispatch] →
      (w.state ≠ .latched → RefusesWith (.acknowledgeWatch m (some st.val)) .state (.watchState w.state) s) ∧
      (w.state = .latched → ∃ u, exec (.acknowledgeWatch m (some st.val)) s =
          .next (sendReply m (.done (.watchState u.watchUnit.watches[st].state)) u) ∧
        OnlyChanges [.valves, .port, .watchUnit] s u ∧ only u ∧
        OneWatchJudged st { w with state := .clear } 0 s u ∧
        (s.now = none → u.watchUnit.watches[st] = { w with state := .clear }) ∧
        u.watchUnit.watches[st].state ∈ [WatchState.off, .clear, .making, .made])) ∧
    ∀ (d : Delay) (now : Nat), s.now = some now → w.delay = some d → d.deadline ≤ now →
      (w.state = .making → ∃ t, exec (.watchDelayExpiry st) s = .next t ∧ t.reply = none ∧
        OnlyChanges [.valves, .port, .watchUnit, .reply] s t ∧ only t ∧
        t.watchUnit.watches[st] = { w with state := .made, delay := none } ∧
        t.valves[st].hold = heldBy (s.watchCfg st) { w with state := .made } s.valves[st].hold ∧
        ActionsPosted (fun k => if k = st then 1 else 0) s t ∧
        PostedAt .holdChange (fun k => crossing s.valves[k].hold t.valves[k].hold) (fun k => .station k) s t ∧
        ((s.watchCfg st).actions.notify = true →
          t.port.detail[(11 : Fin 16)] =
            ⟨some (.station st), some now, min (s.port.detail[(11 : Fin 16)].count + 1) 65535⟩) ∧
        ((s.watchCfg st).actions.armCheck = true → s.traps.receive.state ≠ .linedUp →
          t.port.detail[(10 : Fin 16)] =
            ⟨some (.trap .receive), some now, min (s.port.detail[(10 : Fin 16)].count + 1) 65535⟩) ∧
        ((s.watchCfg st).actions.armCheck = false ∨ s.traps.receive.state = .linedUp →
          t.port.detail[(10 : Fin 16)] = s.port.detail[(10 : Fin 16)])) ∧
      (w.state = .breaking → ∃ t, exec (.watchDelayExpiry st) s = .next t ∧ t.reply = none ∧
        OnlyChanges [.valves, .port, .watchUnit, .reply] s t ∧ only t ∧
        t.watchUnit.watches[st] =
          { w with state := if (s.watchCfg st).latch then .latched else .clear, delay := none } ∧
        t.valves[st].hold = heldBy (s.watchCfg st) t.watchUnit.watches[st] s.valves[st].hold ∧
        ActionsPosted (fun _ => 0) s t ∧
        PostedAt .holdChange (fun k => crossing s.valves[k].hold t.valves[k].hold) (fun k => .station k) s t ∧
        t.port.detail[(11 : Fin 16)] = s.port.detail[(11 : Fin 16)])

/-- A judgement of every watch (R139 to R148): where each state goes by the value just computed, with its delay, its
WATCH member and what that posts; each state after it fits the value; a contact follows its hold set where the part
has power (R133); and nothing is touched but the watches, the WATCH members with the contacts, and postings. -/
def Obligations.JudgementsFitTheValue : Prop :=
  ∀ s : State, WatchEffects s (judgeAll s) ∧
    (s.now = none → judgeAll s = s) ∧
    ∀ now, s.now = some now → WatchesJudged s (judgeAll s) ∧
      PostsOnly watchKinds s (judgeAll s) ∧
      (∀ st : Fin 16, (judgeAll s).valves[st].contact =
        if (judgeAll s).valves[st].hold = s.valves[st].hold then s.valves[st].contact
        else s.powered && decide (st.val < s.profile.count) && (judgeAll s).valves[st].hold == 0#7) ∧
      (judgeAll s).watchUnit.firstPending = false ∧ ∀ st : Fin 16,
      let w := (judgeAll s).watchUnit.watches[st]
      let c := s.watchCfg st
      w.lastJudged = some now ∧
      (c.enabled = false ∨ s.profile.count ≤ st.val → w.state = .off ∧ w.value = none) ∧
      ∀ x, c.enabled = true → st.val < s.profile.count → s.profile.station? st = some x →
        let watched := s.register.inLine.find? (fun p => p.position ≤ (x.chainage + x.halfWidth) * 1000)
        w.tag = watched.map (·.tag) ∧ w.state ≠ .off ∧
        ∃ v, w.value = some v ∧ (watched = none → v = .noValue) ∧
          (∀ p, watched = some p → c.source = .distance → v = .value (x.chainage * 1000 - p.position)) ∧
          (∀ p, watched = some p → c.source = .eta → x.chainage * 1000 ≤ p.position → v = .value 0) ∧
          (∀ p, watched = some p → c.source = .eta → p.position < x.chainage * 1000 →
            (p.speed = 0 → v = .noValue) ∧
            (p.speed ≠ 0 → v = .value ((x.chainage * 1000 - p.position + p.speed - 1) / p.speed))) ∧
          let unit := match c.source with | .distance => 1000 | .eta => 1
          let makes := ∃ n, v = .value n ∧ n ≤ c.threshold * unit
          let breaks := v = .noValue ∨ ∃ n, v = .value n ∧ (c.threshold + c.hysteresis) * unit < n
          (w.state = .clear → ¬ makes) ∧
          (w.state = .making → makes ∧ 0 < c.makeDelay ∨ makes ∧ w.delay = s.watchUnit.watches[st].delay) ∧
          (w.state = .made → ¬ breaks) ∧ (w.state = .breaking → breaks) ∧ (w.state = .latched → ¬ makes) ∧
          (w.state = .inhibited → ¬ breaks)

/-! ## Traps -/

/-- REPORT PRESSURE, whole (R154), and RECOVER TRAP, whole (R166), which is the only way out of
UNKNOWN. -/
def Obligations.PressuresAndRecovery : Prop :=
  (∀ (i : Instr) (s t : State) (x : TrapId), TrapLaw s → exec i s = .next t → (s.trap x).state = .unknown →
    (t.trap x).state ≠ .unknown → ∃ m a, i = .recoverTrap m (some a) ∧ a.trap = x) ∧
  ∀ (m : Master) (s : State), s.powered = true →
    (∀ x : PressureArgs,
      ((s.context m).cls ∉ [MasterClass.link, .trap] → Refuses (.reportPressure m (some x)) .cls s) ∧
      ((s.context m).cls ∈ [MasterClass.link, .trap] → s.profile.complete = false →
        Refuses (.reportPressure m (some x)) .state s) ∧
      (s.able m [.link, .trap] →
        Refuses (.reportPressure m none) .range s ∧
        (((∃ k, (x.barrel = some k ∨ x.line = some k) ∧ 20000 < k) ∨ (x.barrel = none ∧ x.line = none)) →
          Refuses (.reportPressure m (some x)) .range s) ∧
        ((∀ k, x.barrel = some k ∨ x.line = some k → k ≤ 20000) → (x.barrel ≠ none ∨ x.line ≠ none) →
          let taken := fun (carried : Option Nat) (held : Option Pressure) =>
            match carried with | some k => some ⟨k, s.now⟩ | none => held
          let barrel := taken x.barrel (s.trap x.trap).barrel
          let line := taken x.line (s.trap x.trap).line
          let difference := match barrel, line with
            | some b, some l => some ((b.kPa : Int) - l.kPa).natAbs
            | _, _ => none
          ∃ t, exec (.reportPressure m (some x)) s = .next t ∧ OnlyChanges [.traps, .reply] s t ∧
            t.trap x.trap = { s.trap x.trap with barrel := barrel, line := line } ∧
            (∀ y, y ≠ x.trap → t.trap y = s.trap y) ∧ t.traps.launchOverdue = s.traps.launchOverdue ∧
            Replied m (.done (.pressures (barrel.map (·.kPa)) (line.map (·.kPa)) difference)) t))) ∧
    ∀ x : RecoverArgs,
      ((s.context m).cls ≠ .dispatch → Refuses (.recoverTrap m (some x)) .cls s) ∧
      ((s.context m).cls = .dispatch → s.profile.complete = false → Refuses (.recoverTrap m (some x)) .state s) ∧
      (s.able m [.dispatch] →
        Refuses (.recoverTrap m none) .range s ∧
        (x.trap = .receive ∧ x.state = .driving → Refuses (.recoverTrap m (some x)) .range s) ∧
        (¬ (x.trap = .receive ∧ x.state = .driving) → (s.trap x.trap).step ≠ none →
          Refuses (.recoverTrap m (some x)) .busy s) ∧
        (¬ (x.trap = .receive ∧ x.state = .driving) → (s.trap x.trap).step = none →
          ∃ t, exec (.recoverTrap m (some x)) s = .next t ∧ OnlyChanges [.traps, .port, .reply] s t ∧
            t.trap x.trap = { s.trap x.trap with state := x.state, lapsed := none } ∧
            (∀ y, y ≠ x.trap → t.trap y = s.trap y) ∧
            t.traps.launchOverdue =
              (if x.trap = .receive then s.traps.launchOverdue
              else if x.state = .driving then
                if s.register.launchBarrel = [] then none
                else s.now.map (fun now => min (now + s.profile.launch.overdueTime * 10) 4294967295)
              else if s.traps.launch.state = .driving then none else s.traps.launchOverdue) ∧
            t.port = (post .trapEvent (some (.trap x.trap)) s).port ∧ Replied m (.done .nothing) t))

/-- TRAP STEP (R155 to R159): DRIVE at the receive trap, a step in progress, the wrong state and each precondition turn it
away, with the data R155 names; otherwise the step begins. TRAP DONE (R160, R162): every reply to it carries the trap's
state. That TRAP DONE of DRIVE at the receive trap is judged by the step in progress, and which other refusals carry
data, are read by inference (notes/assumptions/28.md, 26.md). -/
def Obligations.TrapStepsAreTaken : Prop :=
  ∀ (m : Master) (trap : TrapId) (step : TrapStep) (s : State), s.able m [.trap, .link] →
    let r := s.trap trap
    (s.now ≠ none → step = .drive → trap = .receive → Refuses (.trapStep m (some ⟨trap, step⟩)) .range s) ∧
    (s.now = none → Refuses (.trapStep m (some ⟨trap, step⟩)) .timeUnset s) ∧
    (∀ now, s.now = some now → ¬ (step = .drive ∧ trap = .receive) →
      let i := Instr.trapStep m (some ⟨trap, step⟩)
      (r.step ≠ none → Refuses i .busy s) ∧
      (r.step = none → r.state ∉ stepFrom step → Refuses i .state s) ∧
      (r.step = none → r.state ∈ stepFrom step →
        let interlock := fun check tag => RefusesWith i .interlock (.stepInterlock check tag) s
        let equal := ∃ b l, r.barrel = some b ∧ r.line = some l ∧
          ((b.kPa : Int) - l.kPa).natAbs ≤ (s.profile.trapCommon trap).equaliseBand
        let opened := s.valves[(0 : Fin 16)].position = .opened
        let inGuard := fun p : Pig => (s.profile.lineEnd - s.profile.receive.guardDistance) * 1000 ≤ p.position
        (step = .openDoor → (∀ b, r.barrel = some b → (s.profile.trapCommon trap).ventLimit < b.kPa) →
          interlock .pressure none) ∧
        (step = .lineUp → ¬ equal → interlock .pressure none) ∧
        (step = .lineUp → equal → trap = .receive →
          s.profile.receive.capacity ≤ s.register.receiveBarrel.length → Refuses i .full s) ∧
        (step = .drive → s.register.launchBarrel = [] → Refuses i .state s) ∧
        (step = .drive → s.register.launchBarrel ≠ [] → ¬ opened → interlock .valve none) ∧
        (step = .drive → s.register.launchBarrel ≠ [] → opened →
          ∀ tail g, s.register.inLine.getLast? = some tail → s.profile.signaller? 0 = some g →
            tail.position < (g.chainage + s.profile.launch.spacing) * 1000 →
            interlock .spacing (some tail.tag)) ∧
        (step = .isolate → trap = .receive → ∀ ahead p behind, s.register.inLine = ahead ++ p :: behind →
          inGuard p → (∀ a ∈ ahead, ¬ inGuard a) → interlock .guard (some p.tag))) ∧
      (r.step = none → r.state ∈ stepFrom step →
        (step = .openDoor → ∃ b, r.barrel = some b ∧ b.kPa ≤ (s.profile.trapCommon trap).ventLimit) →
        (step = .lineUp → (∃ b l, r.barrel = some b ∧ r.line = some l ∧
            ((b.kPa : Int) - l.kPa).natAbs ≤ (s.profile.trapCommon trap).equaliseBand) ∧
          (trap = .receive → s.register.receiveBarrel.length < s.profile.receive.capacity)) →
        (step = .drive → s.register.launchBarrel ≠ [] ∧ s.valves[(0 : Fin 16)].position = .opened ∧
          ∀ tail g, s.register.inLine.getLast? = some tail → s.profile.signaller? 0 = some g →
            (g.chainage + s.profile.launch.spacing) * 1000 ≤ tail.position) →
        (step = .isolate → trap = .receive → ∀ p ∈ s.register.inLine,
          p.position < (s.profile.lineEnd - s.profile.receive.guardDistance) * 1000) →
        let d := min (now + s.profile.stepTime trap step * 10) 4294967295
        ∃ t, exec i s = .next t ∧ OnlyChanges [.traps, .reply] s t ∧
          t.trap trap = { r with step := some ⟨step, m, d⟩, lapsed := none } ∧
          (∀ y, y ≠ trap → t.trap y = s.trap y) ∧ t.traps.launchOverdue = s.traps.launchOverdue ∧
          Replied m (.done (.deadline d)) t)) ∧
    let i := Instr.trapDone m (some ⟨trap, step⟩)
    (∀ h, r.step = some h → h.owner ≠ m → RefusesWith i .notOwner (.trapState r.state) s) ∧
    (∀ h, r.step = some h → h.owner = m → h.step ≠ step → RefusesWith i .state (.trapState r.state) s) ∧
    (∀ h, r.step = some h → h.owner = m → h.step = step →
      ∃ t, exec i s = .next t ∧ OnlyChanges [.traps, .port, .reply] s t ∧
        t.trap trap = { r with state := stepTo step, step := none } ∧ (∀ y, y ≠ trap → t.trap y = s.trap y) ∧
        t.port = (post .trapEvent (some (.trap trap)) s).port ∧
        t.traps.launchOverdue =
          (if trap = .launch ∧ stepTo step = .driving then
            s.now.map (fun now => min (now + s.profile.launch.overdueTime * 10) 4294967295)
          else if trap = .launch ∧ r.state = .driving then none else s.traps.launchOverdue) ∧
        Replied m (.done (.trapState (stepTo step))) t) ∧
    (r.step = none → r.lapsed = some ⟨step, m⟩ →
      ∃ t, exec i s = .next t ∧ OnlyChanges [.traps, .reply] s t ∧ t.trap trap = { r with lapsed := none } ∧
        (∀ y, y ≠ trap → t.trap y = s.trap y) ∧ t.traps.launchOverdue = s.traps.launchOverdue ∧
        Replied m (.late (.trapState r.state)) t) ∧
    (r.step = none → r.lapsed ≠ some ⟨step, m⟩ → RefusesWith i .state (.trapState r.state) s)

/-! ## Line time, restarts and power -/

/-- SET LINE TIME (R191, R192) and the advance of the count (R190). The first setting makes the first judgement of the
watches (R142, R146). A forward setting takes the new value at once, and every deadline that it reaches runs out as
its own event does (`RunsOut`): what that leaves of the permits, the trap steps, the launch overdue deadline and the
update timer is said outright, with the postings, and no deadline reached is left behind. The order of the deadlines
within a jump is read by inference, and of equal ones free (notes/assumptions/3.md); that an update at the last value
sets no deadline is read by inference (32.md); that an advance of the count runs out no timer by itself is the model's
choice (5.md). -/
def Obligations.LineTimeIsSet : Prop :=
  (∀ (m : Master) (s : State), s.serves m [.dispatch] →
    exec (.setLineTime m (some none)) s = .next (sendReply m (.done (.clock s.now false s.clock.record)) s) ∧
    (∀ now v, s.now = some now → v ≤ now → Refuses (.setLineTime m (some (some v))) .state s) ∧
    (∀ v, s.now = none →
      ∃ u, exec (.setLineTime m (some (some v))) s =
          .next (sendReply m (.done (.clock (some v) true { s.clock.record with timeSet := some v })) u) ∧
        OnlyChanges [.clock, .tracker, .inputUnit, .valves, .watchUnit, .port] s u ∧
        u.clock = ⟨some v, { s.clock.record with timeSet := some v }⟩ ∧
        u.tracker = { s.tracker with
          running := true
          lastUpdate := some v
          deadline := some (min (v + s.profile.tracking.period * 10) 4294967295) } ∧
        (∀ c : Fin 8, u.inputUnit.channels[c] = { s.inputUnit.channels[c] with
          flight := none
          state := match s.profile.channels[c].mode with
            | .off => .idle
            | .contact => if s.inputUnit.inputs[c] then .tripped else .armed
            | .pulse => .armed
            | .pair => .armed }) ∧
        (∀ st : Fin 16, u.valves[st].own = s.valves[st].own ∧
          u.valves[st].contact = (decide (st.val < s.profile.count) && u.valves[st].hold == 0#7)) ∧
        PostsOnly watchKinds s u ∧ WatchesJudged s u ∧ u.watchUnit.firstPending = false) ∧
    (∀ now v, s.now = some now → now < v →
      ∃ u, exec (.setLineTime m (some (some v))) s =
          .next (sendReply m (.done (.clock (some v) false s.clock.record)) u) ∧
        u.clock = { s.clock with lineTime := some v } ∧ u.store = s.store ∧ u.inputUnit = s.inputUnit ∧
        OnlyChanges [.clock, .register, .tracker, .intake, .signallers, .fixUnit, .valves, .watchUnit, .traps, .port,
          .freeCount] s u ∧ ContextsKept s u ∧
        (v ≤ 4294967295 → 1 ≤ s.profile.tracking.period →
          (∃ timers, RunsOut v timers (s.setClock { s.clock with lineTime := some v }) u) ∧
          (∀ st : Fin 16, u.valves[st].own =
            match s.valves[st].permit with
            | some p => if p.expiry ≤ v then { s.valves[st] with
                position := .unknown, permit := none, lapsed := some ⟨p.owner, p.direction⟩ }.own
              else s.valves[st].own
            | none => s.valves[st].own) ∧
          PostedSomehow .permitExpired (((List.finRange 16).filter (fun st : Fin 16 =>
            s.valves[st].permit.any (fun p => p.expiry ≤ v))).map (fun st : Fin 16 => Subject.station st.val)) s u ∧
          (∀ x : TrapId, u.trap x =
            match (s.trap x).step with
            | some h => if h.deadline ≤ v then
                { s.trap x with state := .unknown, step := none, lapsed := some ⟨h.step, h.owner⟩ } else s.trap x
            | none => s.trap x) ∧
          (∀ x : TrapId, ∀ h, (s.trap x).step = some h → h.deadline ≤ v →
            (∃ y n, 1 ≤ n ∧ u.port.detail[(10 : Fin 16)] =
              ⟨some (.trap y), some v, min (s.port.detail[(10 : Fin 16)].count + n) 65535⟩) ∧
            ∀ k : Master, (u.context k).attention.getLsbD 10 = true) ∧
          ((∀ e, s.intake.entries.head? = some e →
              v < min (e.time + s.profile.tracking.holdBack * 10) 4294967295) →
            (∀ h, s.traps.launch.step = some h → v < h.deadline) →
            Posted .launchOverdue (if s.traps.launchOverdue.any (· ≤ v) then [.trap .launch] else []) s u) ∧
          (s.tracker.running = true → ∀ d, s.tracker.deadline = some d → d ≤ v → u.tracker.running = true ∧
            u.tracker.lastUpdate = some v ∧ u.tracker.deadline =
              if v = 4294967295 then none else some (min (v + s.profile.tracking.period * 10) 4294967295)) ∧
          (∀ e, u.intake.entries.head? = some e →
            v < min (e.time + s.profile.tracking.holdBack * 10) 4294967295) ∧
          (∀ st : Fin 16, ∀ p, u.valves[st].permit = some p → s.valves[st].permit = some p ∧ v < p.expiry) ∧
          (∀ x : TrapId, ∀ h, (u.trap x).step = some h → (s.trap x).step = some h ∧ v < h.deadline) ∧
          (u.tracker.running = true → ∀ d, u.tracker.deadline = some d → v < d) ∧
          (∀ st : Fin 16, u.watchUnit.watches[st].state ∈ [WatchState.making, .breaking] →
            ∀ d, u.watchUnit.watches[st].delay = some d → v < d.deadline) ∧
          ∀ d, u.traps.launchOverdue = some d → v < d))) ∧
  ∀ (s : State) (now : Nat), s.powered = true → s.now = some now → now ≤ 4294967295 →
    ∃ t, exec .lineTimeAdvance s = .next t ∧ OnlyChanges [.clock, .reply] s t ∧ t.reply = none ∧
      t.clock = { s.clock with lineTime := some (if now = 4294967295 then now else now + 1) }

/-- RESTART (R196, with R39, R61, R77, R91, R116, R136, R142, R151, R173 and R186). `b` is the part after it and
before the first judgement of the watches, which is made where line time is set. -/
def Obligations.RestartKeepsTheRecords : Prop :=
  ∀ (m : Master) (s : State), s.serves m [.service] →
    ∃ u, exec (.restart m (some ())) s = .next (sendReply m (.done (.restarted ⟨.commanded, s.now, none⟩)) u) ∧
      OnlyChanges [.clock, .register, .tracker, .intake, .inputUnit, .fixUnit, .valves, .watchUnit, .traps, .port]
        s u ∧
      u.clock = ⟨s.now, ⟨.commanded, s.now, none⟩⟩ ∧
      u.register = { s.register with inLine := s.register.inLine.map (fun p => { p with estimate := s.now }) } ∧
      u.tracker = ⟨Vector.replicate 15 FlowEntry.empty, s.now.isSome, s.now,
        s.now.map (fun t => min (t + s.profile.tracking.period * 10) 4294967295)⟩ ∧
      u.intake = ⟨[], ⟨0, 0, 0, 0, 0, 0⟩⟩ ∧ u.fixUnit = ⟨[], 0⟩ ∧
      u.inputUnit.inputs = s.inputUnit.inputs ∧
      (∀ c : Fin 8, u.inputUnit.channels[c] = ⟨(match s.now, s.profile.channels[c].mode with
        | none, _ => .idle
        | some _, .off => .idle
        | some _, .contact => if s.inputUnit.inputs[c] then .tripped else .armed
        | some _, .pulse => .armed
        | some _, .pair => .armed), none, none, 0, 0, 0, 0, none⟩) ∧
      (∀ st : Fin 16, u.valves[st].own =
        (.unknown, manualHolds s.valves[st].hold, none, none, s.valves[st].forced)) ∧
      (∀ x : TrapId, u.trap x =
        ⟨if (s.trap x).step = none then (s.trap x).state else .unknown, none, none, none, none⟩) ∧
      u.traps.launchOverdue = none ∧
      (∀ k : Master, (u.context k).cls = s.profile.masters[k] ∧ (u.context k).enables = 0#16 ∧
        (u.context k).line = false ∧ (u.context k).cursorTag = none ∧ (u.context k).cursorMode = .hold ∧
        (u.context k).lastRefusal = none ∧ (u.context k).attention.getLsbD 0 = true) ∧
      u.port.detail[(0 : Fin 16)] = ⟨none, s.now, 1⟩ ∧ u.port.dropCount = 0 ∧ u.port.lastDrop = none ∧
      (s.now = none → u.port.contexts = s.profile.masters.mapIdx (fun _ c =>
          ⟨c, 1#16, 0#16, false, none, .hold, none⟩) ∧
        (∀ st : Fin 16, u.watchUnit.watches[st] =
          ⟨if (s.watchCfg st).enabled = true ∧ (s.watchStation st).isSome then .clear else .off,
            none, none, none, none⟩) ∧ u.watchUnit.firstPending = true) ∧
      (s.now ≠ none → u.watchUnit.firstPending = false) ∧
      ∃ b : State, OnlyChanges [.port, .valves, .watchUnit] b u ∧
        b.port = ⟨s.profile.masters.mapIdx (fun _ c => ⟨c, 1#16, 0#16, false, none, .hold, none⟩),
          (Vector.replicate 16 Detail.empty).set 0 ⟨none, s.now, 1⟩, 0, none⟩ ∧
        (∀ st : Fin 16, b.valves[st].hold = manualHolds s.valves[st].hold) ∧
        (∀ st : Fin 16, b.watchUnit.watches[st] =
          ⟨if (s.watchCfg st).enabled = true ∧ (s.watchStation st).isSome then .clear else .off,
            none, none, none, none⟩) ∧ b.watchUnit.firstPending = true ∧
        (s.now = none → u = b) ∧ PostsOnly watchKinds b u ∧ WatchesJudged b u

/-- Power-on and power loss (R17, R37, R38, R76, R116, R135, R151, R171, R172, R182, R186, R193 to R195). The check bits of
images and retention, the geometry mark, a power-on of a part that has power, and what working memory holds without
power are the model's choices (notes/assumptions/9.md, 10.md, 11.md). -/
def Obligations.PowerComesAndGoes : Prop :=
  (∀ s : State, ∃ t, exec .powerLoss s = .next t ∧ OnlyChanges [.powered, .valves, .port, .reply] s t ∧
    t.powered = false ∧ t.reply = none ∧
    (∀ st : Fin 16, t.valves[st] = { s.valves[st] with contact := false }) ∧
    (∀ m : Master, t.context m = { s.context m with line := false }) ∧
    t.port.detail = s.port.detail ∧ t.port.dropCount = s.port.dropCount ∧ t.port.lastDrop = s.port.lastDrop) ∧
  ∀ (a b retention : Bool) (s : State), ∃ t, exec (.powerOn a b retention) s = .next t ∧ t.powered = true ∧
    t.reply = none ∧ t.pending = s.pending ∧
    let first := { s.store.firstImage with valid := s.store.firstImage.valid && a }
    let second := { s.store.secondImage with valid := s.store.secondImage.valid && b }
    t.store.firstImage = first ∧ t.store.secondImage = second ∧ t.store.writing = none ∧
    (first.valid = false → second.valid = false →
      t.profile = Profile.empty ∧ t.store.imageState = .empty ∧ t.store.currentImage = none) ∧
    (first.valid = true → second.valid = false → t.profile = first.contents ∧ t.store.currentImage = some .first ∧
      t.store.imageState = if first.writeCount < second.writeCount then .reverted else .current) ∧
    (first.valid = false → second.valid = true → t.profile = second.contents ∧ t.store.currentImage = some .second ∧
      t.store.imageState = if second.writeCount < first.writeCount then .reverted else .current) ∧
    (first.valid = true → second.valid = true → t.store.imageState = .current ∧
      (first.writeCount < second.writeCount → t.profile = second.contents ∧ t.store.currentImage = some .second) ∧
      (second.writeCount ≤ first.writeCount → t.profile = first.contents ∧ t.store.currentImage = some .first)) ∧
    let valid := retention && t.store.imageState != .empty && s.geometryMark == geometryOf t.profile
    t.clock = ⟨none, ⟨if valid then .powerOn else .powerOnRetentionLost, none, none⟩⟩ ∧
    (valid = false → t.register = ⟨[], [], [], 1⟩ ∧ t.signallers = Vector.replicate 32 SigRuntime.fresh ∧
      t.geometryMark = geometryOf t.profile ∧ t.traps = ⟨TrapRecord.unknown, TrapRecord.unknown, none⟩) ∧
    (valid = true → t.signallers = s.signallers ∧ t.geometryMark = s.geometryMark ∧
      t.register = { s.register with inLine := s.register.inLine.map (fun p =>
        if p.status = .running ∨ p.status = .overdue ∨ p.status = .stalled then
          { p with status := .unverified, overdueAt := none, speed := 0, estimate := none }
        else { p with estimate := none }) } ∧
      (∀ x : TrapId, t.trap x =
        ⟨if (s.trap x).step = none then (s.trap x).state else .unknown, none, none, none, none⟩) ∧
      t.traps.launchOverdue = none) ∧
    (∀ st : Fin 16, t.valves[st] =
      ⟨.unknown, if valid then manualHolds s.valves[st].hold else 0#7, none, none, none, false⟩) ∧
    t.tracker = ⟨Vector.replicate 15 FlowEntry.empty, false, none, none⟩ ∧
    t.intake = ⟨[], ⟨0, 0, 0, 0, 0, 0⟩⟩ ∧ t.fixUnit = ⟨[], 0⟩ ∧
    t.inputUnit.channels = Vector.replicate 8 Channel.idle ∧ t.inputUnit.inputs = s.inputUnit.inputs ∧
    t.port.contexts = t.profile.masters.mapIdx (fun _ c => ⟨c, 1#16, 0#16, false, none, .hold, none⟩) ∧
    t.port.detail = (Vector.replicate 16 Detail.empty).set 0 ⟨none, none, 1⟩ ∧
    t.port.dropCount = 0 ∧ t.port.lastDrop = none ∧ t.watchUnit.firstPending = true ∧
    ∀ st : Fin 16, t.watchUnit.watches[st] =
      ⟨if t.profile.watches[st].enabled = true ∧ st.val < t.profile.count ∧ (t.profile.station? st).isSome
        then .clear else .off, none, none, none, none⟩

/-! ## Laws that every step keeps, from every state -/

/-- R182, R133: the attention lines follow the attention and enable sets; a hold contact is energised exactly while its hold
set is empty, line time is set and the station is one of the line. -/
def Obligations.StepsKeepTheOutputs : Prop :=
  ∀ s t : State, step s = .next t →
    (AttentionLineLaw s → AttentionLineLaw t) ∧ (HoldContactLaw s → HoldContactLaw t)

/-- R147: WATCH is a member exactly while its watch, with HOLD, is MADE, BREAKING, LATCHED or INHIBITED. -/
def Obligations.StepsKeepTheWatchMembers : Prop :=
  ∀ s t : State, WatchMemberLaw s → step s = .next t → WatchMemberLaw t

/-- R19 to R24: the register's capacities, tags, ratios and order of lists, and the optional fields of each status. R25: the
positions of the line, kept 1,000 mm apart and at or below L; where a pig lies below 1,000 mm the pig behind it may lie at
0 (notes/assumptions/23.md), which no step brings about while no pig is staged. The geometry mark is the geometry itself,
the model's choice (notes/assumptions/10.md). -/
def Obligations.StepsKeepTheRegister : Prop :=
  ∀ s t : State, RegisterLaw s → step s = .next t →
    RegisterLaw t ∧ (OptionalFieldsLaw s → OptionalFieldsLaw t) ∧
      (GeometryMarkLaw s → InLineLaw s → InLineLaw t) ∧
      (GeometryMarkLaw s → InLineLaw s → ProfileLaw s → CompleteLaw s → s.register.launchBarrel = [] →
        Separated s.register.inLine → Separated t.register.inLine)

/-- R62, R70, R109: the intake list stays ordered, no two of its entries share a signaller and a sequence number (that a
newer report of a waiting entry's name is a DUPLICATE is the model's choice, notes/assumptions/31.md), and both lists
stay within their capacities. R152, R155, R161, R166: the
receive trap is never DRIVING, and an UNKNOWN trap has no step in progress. -/
def Obligations.StepsKeepTheListsAndTraps : Prop :=
  ∀ s t : State, step s = .next t → (ListsLaw s → ListsLaw t) ∧ (TrapLaw s → TrapLaw t)

/-- R13, R179, R193: some master is SERVICE, contexts hold the classes of the profile, and the geometry mark is that
of the running copy. R5 to R8, R10, R11: the running copy and both images keep their ranges, stations apart with zones
that do not touch, and signallers rising. R4, R15: while the register holds a record the profile is complete. The mark is
the geometry itself, the model's choice (notes/assumptions/10.md). -/
def Obligations.StepsKeepTheServiceAndTheMark : Prop :=
  ∀ s t : State, step s = .next t →
    (ServiceLaw s → ServiceLaw t) ∧ (GeometryMarkLaw s → GeometryMarkLaw t) ∧ (ProfileLaw s → ProfileLaw t) ∧
      (GeometryMarkLaw s → CompleteLaw s → CompleteLaw t)

/-- Every law holds right after reset. What a new part holds is the model's choice (notes/assumptions/7.md, 8.md). -/
def Obligations.LawsHoldAtReset : Prop :=
  AttentionLineLaw State.reset ∧ HoldContactLaw State.reset ∧ WatchMemberLaw State.reset ∧
    RegisterLaw State.reset ∧ OptionalFieldsLaw State.reset ∧ ListsLaw State.reset ∧ TrapLaw State.reset ∧
    ServiceLaw State.reset ∧ GeometryMarkLaw State.reset ∧ InLineLaw State.reset ∧ ProfileLaw State.reset ∧
    CompleteLaw State.reset

/-! ## Rules of the whole machine -/

/-- A stroke permit comes only from a REQUEST STROKE, for the master that sent it, at a station whose hold set is empty
(R128). -/
def Obligations.PermitsComeOnlyByRequest : Prop :=
  ∀ (i : Instr) (s t : State) (st : Fin 16) (p : Permit), exec i s = .next t → s.valves[st].permit = none →
    t.valves[st].permit = some p →
    ∃ m d, i = .requestStroke m (some ⟨st.val, d⟩) ∧ p.owner = m ∧ p.direction = d ∧ s.valves[st].hold = 0#7

/-- While the register holds a record, no command or event but a power-on changes a geometry field (R4), and a tag enters
the register only by STAGE PIG (R21). -/
def Obligations.LockAndStaging : Prop :=
  ∀ (i : Instr) (s t : State), exec i s = .next t →
    (s.register.view ≠ [] → (∀ a b c, i ≠ .powerOn a b c) → geometryOf t.profile = geometryOf s.profile) ∧
    (∀ p ∈ t.register.view, (∀ q ∈ s.register.view, q.tag ≠ p.tag) → ∃ m x, i = .stagePig m (some x))

/-- What is a master's own changes at its own hand alone, restarts apart (R30, R180, R184, R185): a kind leaves its
attention set, its enables change, and its cursor moves, only by its own command; a cursor on a removed record
becomes empty. -/
def Obligations.ContextsAreTheirOwners : Prop :=
  ∀ (i : Instr) (s t : State) (m : Master), exec i s = .next t → (∀ a b c, i ≠ .powerOn a b c) →
    (∀ k a, i ≠ .restart k a) →
    ((s.context m).attention &&& ~~~ (t.context m).attention ≠ 0#16 → ∃ a, i = .acknowledgeAttention m a) ∧
    ((t.context m).enables ≠ (s.context m).enables → ∃ a, i = .setEnables m a) ∧
    ((t.context m).cursorMode ≠ (s.context m).cursorMode → ∃ a, i = .cursorSet m a) ∧
    ((t.context m).cursorTag ≠ (s.context m).cursorTag →
      (∃ a, i = .cursorSet m a) ∨ (∃ a, i = .cursorRead m a) ∨
        ((t.context m).cursorTag = none ∧ ∃ k, (∃ a, i = .writeOff k a) ∨ ∃ a, i = .removePig k a)) ∧
    ((t.context m).lastRefusal ≠ (s.context m).lastRefusal → ∃ c, i.request = some (m, c) ∨
      ∃ code, i = .unknownCommandCode m code)
end

