-- ==== Sys2Proof/Laws/State.lean ====
section
/-! SUPPORT. Laws/State.lean: each named update of the state read back, field by field. -/

namespace Sys2Proof.Machine

@[simp] theorem State.setPort_port (s : State) (x : Port) : (s.setPort x).port = x := rfl
@[simp] theorem State.setPort_store (s : State) (x : Port) : (s.setPort x).store = s.store := rfl
@[simp] theorem State.setPort_clock (s : State) (x : Port) : (s.setPort x).clock = s.clock := rfl
@[simp] theorem State.setPort_geometryMark (s : State) (x : Port) : (s.setPort x).geometryMark = s.geometryMark := rfl
@[simp] theorem State.setPort_register (s : State) (x : Port) : (s.setPort x).register = s.register := rfl
@[simp] theorem State.setPort_tracker (s : State) (x : Port) : (s.setPort x).tracker = s.tracker := rfl
@[simp] theorem State.setPort_intake (s : State) (x : Port) : (s.setPort x).intake = s.intake := rfl
@[simp] theorem State.setPort_signallers (s : State) (x : Port) : (s.setPort x).signallers = s.signallers := rfl
@[simp] theorem State.setPort_inputUnit (s : State) (x : Port) : (s.setPort x).inputUnit = s.inputUnit := rfl
@[simp] theorem State.setPort_fixUnit (s : State) (x : Port) : (s.setPort x).fixUnit = s.fixUnit := rfl
@[simp] theorem State.setPort_valves (s : State) (x : Port) : (s.setPort x).valves = s.valves := rfl
@[simp] theorem State.setPort_watchUnit (s : State) (x : Port) : (s.setPort x).watchUnit = s.watchUnit := rfl
@[simp] theorem State.setPort_traps (s : State) (x : Port) : (s.setPort x).traps = s.traps := rfl
@[simp] theorem State.setPort_reply (s : State) (x : Port) : (s.setPort x).reply = s.reply := rfl
@[simp] theorem State.setPort_freeCount (s : State) (x : Port) : (s.setPort x).freeCount = s.freeCount := rfl
@[simp] theorem State.setPort_powered (s : State) (x : Port) : (s.setPort x).powered = s.powered := rfl
@[simp] theorem State.setPort_pending (s : State) (x : Port) : (s.setPort x).pending = s.pending := rfl

@[simp] theorem State.setStore_port (s : State) (x : ProfileStore) : (s.setStore x).port = s.port := rfl
@[simp] theorem State.setStore_store (s : State) (x : ProfileStore) : (s.setStore x).store = x := rfl
@[simp] theorem State.setStore_clock (s : State) (x : ProfileStore) : (s.setStore x).clock = s.clock := rfl
@[simp] theorem State.setStore_geometryMark (s : State) (x : ProfileStore) : (s.setStore x).geometryMark = s.geometryMark := rfl
@[simp] theorem State.setStore_register (s : State) (x : ProfileStore) : (s.setStore x).register = s.register := rfl
@[simp] theorem State.setStore_tracker (s : State) (x : ProfileStore) : (s.setStore x).tracker = s.tracker := rfl
@[simp] theorem State.setStore_intake (s : State) (x : ProfileStore) : (s.setStore x).intake = s.intake := rfl
@[simp] theorem State.setStore_signallers (s : State) (x : ProfileStore) : (s.setStore x).signallers = s.signallers := rfl
@[simp] theorem State.setStore_inputUnit (s : State) (x : ProfileStore) : (s.setStore x).inputUnit = s.inputUnit := rfl
@[simp] theorem State.setStore_fixUnit (s : State) (x : ProfileStore) : (s.setStore x).fixUnit = s.fixUnit := rfl
@[simp] theorem State.setStore_valves (s : State) (x : ProfileStore) : (s.setStore x).valves = s.valves := rfl
@[simp] theorem State.setStore_watchUnit (s : State) (x : ProfileStore) : (s.setStore x).watchUnit = s.watchUnit := rfl
@[simp] theorem State.setStore_traps (s : State) (x : ProfileStore) : (s.setStore x).traps = s.traps := rfl
@[simp] theorem State.setStore_reply (s : State) (x : ProfileStore) : (s.setStore x).reply = s.reply := rfl
@[simp] theorem State.setStore_freeCount (s : State) (x : ProfileStore) : (s.setStore x).freeCount = s.freeCount := rfl
@[simp] theorem State.setStore_powered (s : State) (x : ProfileStore) : (s.setStore x).powered = s.powered := rfl
@[simp] theorem State.setStore_pending (s : State) (x : ProfileStore) : (s.setStore x).pending = s.pending := rfl

@[simp] theorem State.setClock_port (s : State) (x : LineClock) : (s.setClock x).port = s.port := rfl
@[simp] theorem State.setClock_store (s : State) (x : LineClock) : (s.setClock x).store = s.store := rfl
@[simp] theorem State.setClock_clock (s : State) (x : LineClock) : (s.setClock x).clock = x := rfl
@[simp] theorem State.setClock_geometryMark (s : State) (x : LineClock) : (s.setClock x).geometryMark = s.geometryMark := rfl
@[simp] theorem State.setClock_register (s : State) (x : LineClock) : (s.setClock x).register = s.register := rfl
@[simp] theorem State.setClock_tracker (s : State) (x : LineClock) : (s.setClock x).tracker = s.tracker := rfl
@[simp] theorem State.setClock_intake (s : State) (x : LineClock) : (s.setClock x).intake = s.intake := rfl
@[simp] theorem State.setClock_signallers (s : State) (x : LineClock) : (s.setClock x).signallers = s.signallers := rfl
@[simp] theorem State.setClock_inputUnit (s : State) (x : LineClock) : (s.setClock x).inputUnit = s.inputUnit := rfl
@[simp] theorem State.setClock_fixUnit (s : State) (x : LineClock) : (s.setClock x).fixUnit = s.fixUnit := rfl
@[simp] theorem State.setClock_valves (s : State) (x : LineClock) : (s.setClock x).valves = s.valves := rfl
@[simp] theorem State.setClock_watchUnit (s : State) (x : LineClock) : (s.setClock x).watchUnit = s.watchUnit := rfl
@[simp] theorem State.setClock_traps (s : State) (x : LineClock) : (s.setClock x).traps = s.traps := rfl
@[simp] theorem State.setClock_reply (s : State) (x : LineClock) : (s.setClock x).reply = s.reply := rfl
@[simp] theorem State.setClock_freeCount (s : State) (x : LineClock) : (s.setClock x).freeCount = s.freeCount := rfl
@[simp] theorem State.setClock_powered (s : State) (x : LineClock) : (s.setClock x).powered = s.powered := rfl
@[simp] theorem State.setClock_pending (s : State) (x : LineClock) : (s.setClock x).pending = s.pending := rfl

@[simp] theorem State.setGeometryMark_port (s : State) (x : Geometry) : (s.setGeometryMark x).port = s.port := rfl
@[simp] theorem State.setGeometryMark_store (s : State) (x : Geometry) : (s.setGeometryMark x).store = s.store := rfl
@[simp] theorem State.setGeometryMark_clock (s : State) (x : Geometry) : (s.setGeometryMark x).clock = s.clock := rfl
@[simp] theorem State.setGeometryMark_geometryMark (s : State) (x : Geometry) : (s.setGeometryMark x).geometryMark = x := rfl
@[simp] theorem State.setGeometryMark_register (s : State) (x : Geometry) : (s.setGeometryMark x).register = s.register := rfl
@[simp] theorem State.setGeometryMark_tracker (s : State) (x : Geometry) : (s.setGeometryMark x).tracker = s.tracker := rfl
@[simp] theorem State.setGeometryMark_intake (s : State) (x : Geometry) : (s.setGeometryMark x).intake = s.intake := rfl
@[simp] theorem State.setGeometryMark_signallers (s : State) (x : Geometry) : (s.setGeometryMark x).signallers = s.signallers := rfl
@[simp] theorem State.setGeometryMark_inputUnit (s : State) (x : Geometry) : (s.setGeometryMark x).inputUnit = s.inputUnit := rfl
@[simp] theorem State.setGeometryMark_fixUnit (s : State) (x : Geometry) : (s.setGeometryMark x).fixUnit = s.fixUnit := rfl
@[simp] theorem State.setGeometryMark_valves (s : State) (x : Geometry) : (s.setGeometryMark x).valves = s.valves := rfl
@[simp] theorem State.setGeometryMark_watchUnit (s : State) (x : Geometry) : (s.setGeometryMark x).watchUnit = s.watchUnit := rfl
@[simp] theorem State.setGeometryMark_traps (s : State) (x : Geometry) : (s.setGeometryMark x).traps = s.traps := rfl
@[simp] theorem State.setGeometryMark_reply (s : State) (x : Geometry) : (s.setGeometryMark x).reply = s.reply := rfl
@[simp] theorem State.setGeometryMark_freeCount (s : State) (x : Geometry) : (s.setGeometryMark x).freeCount = s.freeCount := rfl
@[simp] theorem State.setGeometryMark_powered (s : State) (x : Geometry) : (s.setGeometryMark x).powered = s.powered := rfl
@[simp] theorem State.setGeometryMark_pending (s : State) (x : Geometry) : (s.setGeometryMark x).pending = s.pending := rfl

@[simp] theorem State.setRegister_port (s : State) (x : Register) : (s.setRegister x).port = s.port := rfl
@[simp] theorem State.setRegister_store (s : State) (x : Register) : (s.setRegister x).store = s.store := rfl
@[simp] theorem State.setRegister_clock (s : State) (x : Register) : (s.setRegister x).clock = s.clock := rfl
@[simp] theorem State.setRegister_geometryMark (s : State) (x : Register) : (s.setRegister x).geometryMark = s.geometryMark := rfl
@[simp] theorem State.setRegister_register (s : State) (x : Register) : (s.setRegister x).register = x := rfl
@[simp] theorem State.setRegister_tracker (s : State) (x : Register) : (s.setRegister x).tracker = s.tracker := rfl
@[simp] theorem State.setRegister_intake (s : State) (x : Register) : (s.setRegister x).intake = s.intake := rfl
@[simp] theorem State.setRegister_signallers (s : State) (x : Register) : (s.setRegister x).signallers = s.signallers := rfl
@[simp] theorem State.setRegister_inputUnit (s : State) (x : Register) : (s.setRegister x).inputUnit = s.inputUnit := rfl
@[simp] theorem State.setRegister_fixUnit (s : State) (x : Register) : (s.setRegister x).fixUnit = s.fixUnit := rfl
@[simp] theorem State.setRegister_valves (s : State) (x : Register) : (s.setRegister x).valves = s.valves := rfl
@[simp] theorem State.setRegister_watchUnit (s : State) (x : Register) : (s.setRegister x).watchUnit = s.watchUnit := rfl
@[simp] theorem State.setRegister_traps (s : State) (x : Register) : (s.setRegister x).traps = s.traps := rfl
@[simp] theorem State.setRegister_reply (s : State) (x : Register) : (s.setRegister x).reply = s.reply := rfl
@[simp] theorem State.setRegister_freeCount (s : State) (x : Register) : (s.setRegister x).freeCount = s.freeCount := rfl
@[simp] theorem State.setRegister_powered (s : State) (x : Register) : (s.setRegister x).powered = s.powered := rfl
@[simp] theorem State.setRegister_pending (s : State) (x : Register) : (s.setRegister x).pending = s.pending := rfl

@[simp] theorem State.setTracker_port (s : State) (x : Tracker) : (s.setTracker x).port = s.port := rfl
@[simp] theorem State.setTracker_store (s : State) (x : Tracker) : (s.setTracker x).store = s.store := rfl
@[simp] theorem State.setTracker_clock (s : State) (x : Tracker) : (s.setTracker x).clock = s.clock := rfl
@[simp] theorem State.setTracker_geometryMark (s : State) (x : Tracker) : (s.setTracker x).geometryMark = s.geometryMark := rfl
@[simp] theorem State.setTracker_register (s : State) (x : Tracker) : (s.setTracker x).register = s.register := rfl
@[simp] theorem State.setTracker_tracker (s : State) (x : Tracker) : (s.setTracker x).tracker = x := rfl
@[simp] theorem State.setTracker_intake (s : State) (x : Tracker) : (s.setTracker x).intake = s.intake := rfl
@[simp] theorem State.setTracker_signallers (s : State) (x : Tracker) : (s.setTracker x).signallers = s.signallers := rfl
@[simp] theorem State.setTracker_inputUnit (s : State) (x : Tracker) : (s.setTracker x).inputUnit = s.inputUnit := rfl
@[simp] theorem State.setTracker_fixUnit (s : State) (x : Tracker) : (s.setTracker x).fixUnit = s.fixUnit := rfl
@[simp] theorem State.setTracker_valves (s : State) (x : Tracker) : (s.setTracker x).valves = s.valves := rfl
@[simp] theorem State.setTracker_watchUnit (s : State) (x : Tracker) : (s.setTracker x).watchUnit = s.watchUnit := rfl
@[simp] theorem State.setTracker_traps (s : State) (x : Tracker) : (s.setTracker x).traps = s.traps := rfl
@[simp] theorem State.setTracker_reply (s : State) (x : Tracker) : (s.setTracker x).reply = s.reply := rfl
@[simp] theorem State.setTracker_freeCount (s : State) (x : Tracker) : (s.setTracker x).freeCount = s.freeCount := rfl
@[simp] theorem State.setTracker_powered (s : State) (x : Tracker) : (s.setTracker x).powered = s.powered := rfl
@[simp] theorem State.setTracker_pending (s : State) (x : Tracker) : (s.setTracker x).pending = s.pending := rfl

@[simp] theorem State.setIntake_port (s : State) (x : Intake) : (s.setIntake x).port = s.port := rfl
@[simp] theorem State.setIntake_store (s : State) (x : Intake) : (s.setIntake x).store = s.store := rfl
@[simp] theorem State.setIntake_clock (s : State) (x : Intake) : (s.setIntake x).clock = s.clock := rfl
@[simp] theorem State.setIntake_geometryMark (s : State) (x : Intake) : (s.setIntake x).geometryMark = s.geometryMark := rfl
@[simp] theorem State.setIntake_register (s : State) (x : Intake) : (s.setIntake x).register = s.register := rfl
@[simp] theorem State.setIntake_tracker (s : State) (x : Intake) : (s.setIntake x).tracker = s.tracker := rfl
@[simp] theorem State.setIntake_intake (s : State) (x : Intake) : (s.setIntake x).intake = x := rfl
@[simp] theorem State.setIntake_signallers (s : State) (x : Intake) : (s.setIntake x).signallers = s.signallers := rfl
@[simp] theorem State.setIntake_inputUnit (s : State) (x : Intake) : (s.setIntake x).inputUnit = s.inputUnit := rfl
@[simp] theorem State.setIntake_fixUnit (s : State) (x : Intake) : (s.setIntake x).fixUnit = s.fixUnit := rfl
@[simp] theorem State.setIntake_valves (s : State) (x : Intake) : (s.setIntake x).valves = s.valves := rfl
@[simp] theorem State.setIntake_watchUnit (s : State) (x : Intake) : (s.setIntake x).watchUnit = s.watchUnit := rfl
@[simp] theorem State.setIntake_traps (s : State) (x : Intake) : (s.setIntake x).traps = s.traps := rfl
@[simp] theorem State.setIntake_reply (s : State) (x : Intake) : (s.setIntake x).reply = s.reply := rfl
@[simp] theorem State.setIntake_freeCount (s : State) (x : Intake) : (s.setIntake x).freeCount = s.freeCount := rfl
@[simp] theorem State.setIntake_powered (s : State) (x : Intake) : (s.setIntake x).powered = s.powered := rfl
@[simp] theorem State.setIntake_pending (s : State) (x : Intake) : (s.setIntake x).pending = s.pending := rfl

@[simp] theorem State.setSignallers_port (s : State) (x : Vector SigRuntime 32) : (s.setSignallers x).port = s.port := rfl
@[simp] theorem State.setSignallers_store (s : State) (x : Vector SigRuntime 32) : (s.setSignallers x).store = s.store := rfl
@[simp] theorem State.setSignallers_clock (s : State) (x : Vector SigRuntime 32) : (s.setSignallers x).clock = s.clock := rfl
@[simp] theorem State.setSignallers_geometryMark (s : State) (x : Vector SigRuntime 32) : (s.setSignallers x).geometryMark = s.geometryMark := rfl
@[simp] theorem State.setSignallers_register (s : State) (x : Vector SigRuntime 32) : (s.setSignallers x).register = s.register := rfl
@[simp] theorem State.setSignallers_tracker (s : State) (x : Vector SigRuntime 32) : (s.setSignallers x).tracker = s.tracker := rfl
@[simp] theorem State.setSignallers_intake (s : State) (x : Vector SigRuntime 32) : (s.setSignallers x).intake = s.intake := rfl
@[simp] theorem State.setSignallers_signallers (s : State) (x : Vector SigRuntime 32) : (s.setSignallers x).signallers = x := rfl
@[simp] theorem State.setSignallers_inputUnit (s : State) (x : Vector SigRuntime 32) : (s.setSignallers x).inputUnit = s.inputUnit := rfl
@[simp] theorem State.setSignallers_fixUnit (s : State) (x : Vector SigRuntime 32) : (s.setSignallers x).fixUnit = s.fixUnit := rfl
@[simp] theorem State.setSignallers_valves (s : State) (x : Vector SigRuntime 32) : (s.setSignallers x).valves = s.valves := rfl
@[simp] theorem State.setSignallers_watchUnit (s : State) (x : Vector SigRuntime 32) : (s.setSignallers x).watchUnit = s.watchUnit := rfl
@[simp] theorem State.setSignallers_traps (s : State) (x : Vector SigRuntime 32) : (s.setSignallers x).traps = s.traps := rfl
@[simp] theorem State.setSignallers_reply (s : State) (x : Vector SigRuntime 32) : (s.setSignallers x).reply = s.reply := rfl
@[simp] theorem State.setSignallers_freeCount (s : State) (x : Vector SigRuntime 32) : (s.setSignallers x).freeCount = s.freeCount := rfl
@[simp] theorem State.setSignallers_powered (s : State) (x : Vector SigRuntime 32) : (s.setSignallers x).powered = s.powered := rfl
@[simp] theorem State.setSignallers_pending (s : State) (x : Vector SigRuntime 32) : (s.setSignallers x).pending = s.pending := rfl

@[simp] theorem State.setInputUnit_port (s : State) (x : InputUnit) : (s.setInputUnit x).port = s.port := rfl
@[simp] theorem State.setInputUnit_store (s : State) (x : InputUnit) : (s.setInputUnit x).store = s.store := rfl
@[simp] theorem State.setInputUnit_clock (s : State) (x : InputUnit) : (s.setInputUnit x).clock = s.clock := rfl
@[simp] theorem State.setInputUnit_geometryMark (s : State) (x : InputUnit) : (s.setInputUnit x).geometryMark = s.geometryMark := rfl
@[simp] theorem State.setInputUnit_register (s : State) (x : InputUnit) : (s.setInputUnit x).register = s.register := rfl
@[simp] theorem State.setInputUnit_tracker (s : State) (x : InputUnit) : (s.setInputUnit x).tracker = s.tracker := rfl
@[simp] theorem State.setInputUnit_intake (s : State) (x : InputUnit) : (s.setInputUnit x).intake = s.intake := rfl
@[simp] theorem State.setInputUnit_signallers (s : State) (x : InputUnit) : (s.setInputUnit x).signallers = s.signallers := rfl
@[simp] theorem State.setInputUnit_inputUnit (s : State) (x : InputUnit) : (s.setInputUnit x).inputUnit = x := rfl
@[simp] theorem State.setInputUnit_fixUnit (s : State) (x : InputUnit) : (s.setInputUnit x).fixUnit = s.fixUnit := rfl
@[simp] theorem State.setInputUnit_valves (s : State) (x : InputUnit) : (s.setInputUnit x).valves = s.valves := rfl
@[simp] theorem State.setInputUnit_watchUnit (s : State) (x : InputUnit) : (s.setInputUnit x).watchUnit = s.watchUnit := rfl
@[simp] theorem State.setInputUnit_traps (s : State) (x : InputUnit) : (s.setInputUnit x).traps = s.traps := rfl
@[simp] theorem State.setInputUnit_reply (s : State) (x : InputUnit) : (s.setInputUnit x).reply = s.reply := rfl
@[simp] theorem State.setInputUnit_freeCount (s : State) (x : InputUnit) : (s.setInputUnit x).freeCount = s.freeCount := rfl
@[simp] theorem State.setInputUnit_powered (s : State) (x : InputUnit) : (s.setInputUnit x).powered = s.powered := rfl
@[simp] theorem State.setInputUnit_pending (s : State) (x : InputUnit) : (s.setInputUnit x).pending = s.pending := rfl

@[simp] theorem State.setFixUnit_port (s : State) (x : FixUnit) : (s.setFixUnit x).port = s.port := rfl
@[simp] theorem State.setFixUnit_store (s : State) (x : FixUnit) : (s.setFixUnit x).store = s.store := rfl
@[simp] theorem State.setFixUnit_clock (s : State) (x : FixUnit) : (s.setFixUnit x).clock = s.clock := rfl
@[simp] theorem State.setFixUnit_geometryMark (s : State) (x : FixUnit) : (s.setFixUnit x).geometryMark = s.geometryMark := rfl
@[simp] theorem State.setFixUnit_register (s : State) (x : FixUnit) : (s.setFixUnit x).register = s.register := rfl
@[simp] theorem State.setFixUnit_tracker (s : State) (x : FixUnit) : (s.setFixUnit x).tracker = s.tracker := rfl
@[simp] theorem State.setFixUnit_intake (s : State) (x : FixUnit) : (s.setFixUnit x).intake = s.intake := rfl
@[simp] theorem State.setFixUnit_signallers (s : State) (x : FixUnit) : (s.setFixUnit x).signallers = s.signallers := rfl
@[simp] theorem State.setFixUnit_inputUnit (s : State) (x : FixUnit) : (s.setFixUnit x).inputUnit = s.inputUnit := rfl
@[simp] theorem State.setFixUnit_fixUnit (s : State) (x : FixUnit) : (s.setFixUnit x).fixUnit = x := rfl
@[simp] theorem State.setFixUnit_valves (s : State) (x : FixUnit) : (s.setFixUnit x).valves = s.valves := rfl
@[simp] theorem State.setFixUnit_watchUnit (s : State) (x : FixUnit) : (s.setFixUnit x).watchUnit = s.watchUnit := rfl
@[simp] theorem State.setFixUnit_traps (s : State) (x : FixUnit) : (s.setFixUnit x).traps = s.traps := rfl
@[simp] theorem State.setFixUnit_reply (s : State) (x : FixUnit) : (s.setFixUnit x).reply = s.reply := rfl
@[simp] theorem State.setFixUnit_freeCount (s : State) (x : FixUnit) : (s.setFixUnit x).freeCount = s.freeCount := rfl
@[simp] theorem State.setFixUnit_powered (s : State) (x : FixUnit) : (s.setFixUnit x).powered = s.powered := rfl
@[simp] theorem State.setFixUnit_pending (s : State) (x : FixUnit) : (s.setFixUnit x).pending = s.pending := rfl

@[simp] theorem State.setValves_port (s : State) (x : Vector Valve 16) : (s.setValves x).port = s.port := rfl
@[simp] theorem State.setValves_store (s : State) (x : Vector Valve 16) : (s.setValves x).store = s.store := rfl
@[simp] theorem State.setValves_clock (s : State) (x : Vector Valve 16) : (s.setValves x).clock = s.clock := rfl
@[simp] theorem State.setValves_geometryMark (s : State) (x : Vector Valve 16) : (s.setValves x).geometryMark = s.geometryMark := rfl
@[simp] theorem State.setValves_register (s : State) (x : Vector Valve 16) : (s.setValves x).register = s.register := rfl
@[simp] theorem State.setValves_tracker (s : State) (x : Vector Valve 16) : (s.setValves x).tracker = s.tracker := rfl
@[simp] theorem State.setValves_intake (s : State) (x : Vector Valve 16) : (s.setValves x).intake = s.intake := rfl
@[simp] theorem State.setValves_signallers (s : State) (x : Vector Valve 16) : (s.setValves x).signallers = s.signallers := rfl
@[simp] theorem State.setValves_inputUnit (s : State) (x : Vector Valve 16) : (s.setValves x).inputUnit = s.inputUnit := rfl
@[simp] theorem State.setValves_fixUnit (s : State) (x : Vector Valve 16) : (s.setValves x).fixUnit = s.fixUnit := rfl
@[simp] theorem State.setValves_valves (s : State) (x : Vector Valve 16) : (s.setValves x).valves = x := rfl
@[simp] theorem State.setValves_watchUnit (s : State) (x : Vector Valve 16) : (s.setValves x).watchUnit = s.watchUnit := rfl
@[simp] theorem State.setValves_traps (s : State) (x : Vector Valve 16) : (s.setValves x).traps = s.traps := rfl
@[simp] theorem State.setValves_reply (s : State) (x : Vector Valve 16) : (s.setValves x).reply = s.reply := rfl
@[simp] theorem State.setValves_freeCount (s : State) (x : Vector Valve 16) : (s.setValves x).freeCount = s.freeCount := rfl
@[simp] theorem State.setValves_powered (s : State) (x : Vector Valve 16) : (s.setValves x).powered = s.powered := rfl
@[simp] theorem State.setValves_pending (s : State) (x : Vector Valve 16) : (s.setValves x).pending = s.pending := rfl

@[simp] theorem State.setWatchUnit_port (s : State) (x : WatchUnit) : (s.setWatchUnit x).port = s.port := rfl
@[simp] theorem State.setWatchUnit_store (s : State) (x : WatchUnit) : (s.setWatchUnit x).store = s.store := rfl
@[simp] theorem State.setWatchUnit_clock (s : State) (x : WatchUnit) : (s.setWatchUnit x).clock = s.clock := rfl
@[simp] theorem State.setWatchUnit_geometryMark (s : State) (x : WatchUnit) : (s.setWatchUnit x).geometryMark = s.geometryMark := rfl
@[simp] theorem State.setWatchUnit_register (s : State) (x : WatchUnit) : (s.setWatchUnit x).register = s.register := rfl
@[simp] theorem State.setWatchUnit_tracker (s : State) (x : WatchUnit) : (s.setWatchUnit x).tracker = s.tracker := rfl
@[simp] theorem State.setWatchUnit_intake (s : State) (x : WatchUnit) : (s.setWatchUnit x).intake = s.intake := rfl
@[simp] theorem State.setWatchUnit_signallers (s : State) (x : WatchUnit) : (s.setWatchUnit x).signallers = s.signallers := rfl
@[simp] theorem State.setWatchUnit_inputUnit (s : State) (x : WatchUnit) : (s.setWatchUnit x).inputUnit = s.inputUnit := rfl
@[simp] theorem State.setWatchUnit_fixUnit (s : State) (x : WatchUnit) : (s.setWatchUnit x).fixUnit = s.fixUnit := rfl
@[simp] theorem State.setWatchUnit_valves (s : State) (x : WatchUnit) : (s.setWatchUnit x).valves = s.valves := rfl
@[simp] theorem State.setWatchUnit_watchUnit (s : State) (x : WatchUnit) : (s.setWatchUnit x).watchUnit = x := rfl
@[simp] theorem State.setWatchUnit_traps (s : State) (x : WatchUnit) : (s.setWatchUnit x).traps = s.traps := rfl
@[simp] theorem State.setWatchUnit_reply (s : State) (x : WatchUnit) : (s.setWatchUnit x).reply = s.reply := rfl
@[simp] theorem State.setWatchUnit_freeCount (s : State) (x : WatchUnit) : (s.setWatchUnit x).freeCount = s.freeCount := rfl
@[simp] theorem State.setWatchUnit_powered (s : State) (x : WatchUnit) : (s.setWatchUnit x).powered = s.powered := rfl
@[simp] theorem State.setWatchUnit_pending (s : State) (x : WatchUnit) : (s.setWatchUnit x).pending = s.pending := rfl

@[simp] theorem State.setTraps_port (s : State) (x : Traps) : (s.setTraps x).port = s.port := rfl
@[simp] theorem State.setTraps_store (s : State) (x : Traps) : (s.setTraps x).store = s.store := rfl
@[simp] theorem State.setTraps_clock (s : State) (x : Traps) : (s.setTraps x).clock = s.clock := rfl
@[simp] theorem State.setTraps_geometryMark (s : State) (x : Traps) : (s.setTraps x).geometryMark = s.geometryMark := rfl
@[simp] theorem State.setTraps_register (s : State) (x : Traps) : (s.setTraps x).register = s.register := rfl
@[simp] theorem State.setTraps_tracker (s : State) (x : Traps) : (s.setTraps x).tracker = s.tracker := rfl
@[simp] theorem State.setTraps_intake (s : State) (x : Traps) : (s.setTraps x).intake = s.intake := rfl
@[simp] theorem State.setTraps_signallers (s : State) (x : Traps) : (s.setTraps x).signallers = s.signallers := rfl
@[simp] theorem State.setTraps_inputUnit (s : State) (x : Traps) : (s.setTraps x).inputUnit = s.inputUnit := rfl
@[simp] theorem State.setTraps_fixUnit (s : State) (x : Traps) : (s.setTraps x).fixUnit = s.fixUnit := rfl
@[simp] theorem State.setTraps_valves (s : State) (x : Traps) : (s.setTraps x).valves = s.valves := rfl
@[simp] theorem State.setTraps_watchUnit (s : State) (x : Traps) : (s.setTraps x).watchUnit = s.watchUnit := rfl
@[simp] theorem State.setTraps_traps (s : State) (x : Traps) : (s.setTraps x).traps = x := rfl
@[simp] theorem State.setTraps_reply (s : State) (x : Traps) : (s.setTraps x).reply = s.reply := rfl
@[simp] theorem State.setTraps_freeCount (s : State) (x : Traps) : (s.setTraps x).freeCount = s.freeCount := rfl
@[simp] theorem State.setTraps_powered (s : State) (x : Traps) : (s.setTraps x).powered = s.powered := rfl
@[simp] theorem State.setTraps_pending (s : State) (x : Traps) : (s.setTraps x).pending = s.pending := rfl

@[simp] theorem State.setReply_port (s : State) (x : Option Reply) : (s.setReply x).port = s.port := rfl
@[simp] theorem State.setReply_store (s : State) (x : Option Reply) : (s.setReply x).store = s.store := rfl
@[simp] theorem State.setReply_clock (s : State) (x : Option Reply) : (s.setReply x).clock = s.clock := rfl
@[simp] theorem State.setReply_geometryMark (s : State) (x : Option Reply) : (s.setReply x).geometryMark = s.geometryMark := rfl
@[simp] theorem State.setReply_register (s : State) (x : Option Reply) : (s.setReply x).register = s.register := rfl
@[simp] theorem State.setReply_tracker (s : State) (x : Option Reply) : (s.setReply x).tracker = s.tracker := rfl
@[simp] theorem State.setReply_intake (s : State) (x : Option Reply) : (s.setReply x).intake = s.intake := rfl
@[simp] theorem State.setReply_signallers (s : State) (x : Option Reply) : (s.setReply x).signallers = s.signallers := rfl
@[simp] theorem State.setReply_inputUnit (s : State) (x : Option Reply) : (s.setReply x).inputUnit = s.inputUnit := rfl
@[simp] theorem State.setReply_fixUnit (s : State) (x : Option Reply) : (s.setReply x).fixUnit = s.fixUnit := rfl
@[simp] theorem State.setReply_valves (s : State) (x : Option Reply) : (s.setReply x).valves = s.valves := rfl
@[simp] theorem State.setReply_watchUnit (s : State) (x : Option Reply) : (s.setReply x).watchUnit = s.watchUnit := rfl
@[simp] theorem State.setReply_traps (s : State) (x : Option Reply) : (s.setReply x).traps = s.traps := rfl
@[simp] theorem State.setReply_reply (s : State) (x : Option Reply) : (s.setReply x).reply = x := rfl
@[simp] theorem State.setReply_freeCount (s : State) (x : Option Reply) : (s.setReply x).freeCount = s.freeCount := rfl
@[simp] theorem State.setReply_powered (s : State) (x : Option Reply) : (s.setReply x).powered = s.powered := rfl
@[simp] theorem State.setReply_pending (s : State) (x : Option Reply) : (s.setReply x).pending = s.pending := rfl

@[simp] theorem State.setFreeCount_port (s : State) (x : Nat) : (s.setFreeCount x).port = s.port := rfl
@[simp] theorem State.setFreeCount_store (s : State) (x : Nat) : (s.setFreeCount x).store = s.store := rfl
@[simp] theorem State.setFreeCount_clock (s : State) (x : Nat) : (s.setFreeCount x).clock = s.clock := rfl
@[simp] theorem State.setFreeCount_geometryMark (s : State) (x : Nat) : (s.setFreeCount x).geometryMark = s.geometryMark := rfl
@[simp] theorem State.setFreeCount_register (s : State) (x : Nat) : (s.setFreeCount x).register = s.register := rfl
@[simp] theorem State.setFreeCount_tracker (s : State) (x : Nat) : (s.setFreeCount x).tracker = s.tracker := rfl
@[simp] theorem State.setFreeCount_intake (s : State) (x : Nat) : (s.setFreeCount x).intake = s.intake := rfl
@[simp] theorem State.setFreeCount_signallers (s : State) (x : Nat) : (s.setFreeCount x).signallers = s.signallers := rfl
@[simp] theorem State.setFreeCount_inputUnit (s : State) (x : Nat) : (s.setFreeCount x).inputUnit = s.inputUnit := rfl
@[simp] theorem State.setFreeCount_fixUnit (s : State) (x : Nat) : (s.setFreeCount x).fixUnit = s.fixUnit := rfl
@[simp] theorem State.setFreeCount_valves (s : State) (x : Nat) : (s.setFreeCount x).valves = s.valves := rfl
@[simp] theorem State.setFreeCount_watchUnit (s : State) (x : Nat) : (s.setFreeCount x).watchUnit = s.watchUnit := rfl
@[simp] theorem State.setFreeCount_traps (s : State) (x : Nat) : (s.setFreeCount x).traps = s.traps := rfl
@[simp] theorem State.setFreeCount_reply (s : State) (x : Nat) : (s.setFreeCount x).reply = s.reply := rfl
@[simp] theorem State.setFreeCount_freeCount (s : State) (x : Nat) : (s.setFreeCount x).freeCount = x := rfl
@[simp] theorem State.setFreeCount_powered (s : State) (x : Nat) : (s.setFreeCount x).powered = s.powered := rfl
@[simp] theorem State.setFreeCount_pending (s : State) (x : Nat) : (s.setFreeCount x).pending = s.pending := rfl

@[simp] theorem State.setPowered_port (s : State) (x : Bool) : (s.setPowered x).port = s.port := rfl
@[simp] theorem State.setPowered_store (s : State) (x : Bool) : (s.setPowered x).store = s.store := rfl
@[simp] theorem State.setPowered_clock (s : State) (x : Bool) : (s.setPowered x).clock = s.clock := rfl
@[simp] theorem State.setPowered_geometryMark (s : State) (x : Bool) : (s.setPowered x).geometryMark = s.geometryMark := rfl
@[simp] theorem State.setPowered_register (s : State) (x : Bool) : (s.setPowered x).register = s.register := rfl
@[simp] theorem State.setPowered_tracker (s : State) (x : Bool) : (s.setPowered x).tracker = s.tracker := rfl
@[simp] theorem State.setPowered_intake (s : State) (x : Bool) : (s.setPowered x).intake = s.intake := rfl
@[simp] theorem State.setPowered_signallers (s : State) (x : Bool) : (s.setPowered x).signallers = s.signallers := rfl
@[simp] theorem State.setPowered_inputUnit (s : State) (x : Bool) : (s.setPowered x).inputUnit = s.inputUnit := rfl
@[simp] theorem State.setPowered_fixUnit (s : State) (x : Bool) : (s.setPowered x).fixUnit = s.fixUnit := rfl
@[simp] theorem State.setPowered_valves (s : State) (x : Bool) : (s.setPowered x).valves = s.valves := rfl
@[simp] theorem State.setPowered_watchUnit (s : State) (x : Bool) : (s.setPowered x).watchUnit = s.watchUnit := rfl
@[simp] theorem State.setPowered_traps (s : State) (x : Bool) : (s.setPowered x).traps = s.traps := rfl
@[simp] theorem State.setPowered_reply (s : State) (x : Bool) : (s.setPowered x).reply = s.reply := rfl
@[simp] theorem State.setPowered_freeCount (s : State) (x : Bool) : (s.setPowered x).freeCount = s.freeCount := rfl
@[simp] theorem State.setPowered_powered (s : State) (x : Bool) : (s.setPowered x).powered = x := rfl
@[simp] theorem State.setPowered_pending (s : State) (x : Bool) : (s.setPowered x).pending = s.pending := rfl

@[simp] theorem State.setPending_port (s : State) (x : List Instr) : (s.setPending x).port = s.port := rfl
@[simp] theorem State.setPending_store (s : State) (x : List Instr) : (s.setPending x).store = s.store := rfl
@[simp] theorem State.setPending_clock (s : State) (x : List Instr) : (s.setPending x).clock = s.clock := rfl
@[simp] theorem State.setPending_geometryMark (s : State) (x : List Instr) : (s.setPending x).geometryMark = s.geometryMark := rfl
@[simp] theorem State.setPending_register (s : State) (x : List Instr) : (s.setPending x).register = s.register := rfl
@[simp] theorem State.setPending_tracker (s : State) (x : List Instr) : (s.setPending x).tracker = s.tracker := rfl
@[simp] theorem State.setPending_intake (s : State) (x : List Instr) : (s.setPending x).intake = s.intake := rfl
@[simp] theorem State.setPending_signallers (s : State) (x : List Instr) : (s.setPending x).signallers = s.signallers := rfl
@[simp] theorem State.setPending_inputUnit (s : State) (x : List Instr) : (s.setPending x).inputUnit = s.inputUnit := rfl
@[simp] theorem State.setPending_fixUnit (s : State) (x : List Instr) : (s.setPending x).fixUnit = s.fixUnit := rfl
@[simp] theorem State.setPending_valves (s : State) (x : List Instr) : (s.setPending x).valves = s.valves := rfl
@[simp] theorem State.setPending_watchUnit (s : State) (x : List Instr) : (s.setPending x).watchUnit = s.watchUnit := rfl
@[simp] theorem State.setPending_traps (s : State) (x : List Instr) : (s.setPending x).traps = s.traps := rfl
@[simp] theorem State.setPending_reply (s : State) (x : List Instr) : (s.setPending x).reply = s.reply := rfl
@[simp] theorem State.setPending_freeCount (s : State) (x : List Instr) : (s.setPending x).freeCount = s.freeCount := rfl
@[simp] theorem State.setPending_powered (s : State) (x : List Instr) : (s.setPending x).powered = s.powered := rfl
@[simp] theorem State.setPending_pending (s : State) (x : List Instr) : (s.setPending x).pending = x := rfl

end Sys2Proof.Machine
end

