-- ==== Sys2Proof/Laws/Frames.lean ====
section
/-! SUPPORT. Laws/Frames.lean: what each shared operation may change: the algebra of frames, and one frame for each
operation over the state. -/

namespace Sys2Proof.Machine

/-! ## The algebra of frames -/

theorem OnlyChanges.refl (l : List Block) (s : State) : OnlyChanges l s s := by
  intro b _; cases b <;> rfl

theorem OnlyChanges.mono {l k : List Block} {s t : State} (h : OnlyChanges l s t) (hl : ∀ b ∈ l, b ∈ k) :
    OnlyChanges k s t := fun b hb => h b (fun hm => hb (hl b hm))

theorem OnlyChanges.trans {l : List Block} {s t u : State} (h : OnlyChanges l s t) (h' : OnlyChanges l t u) :
    OnlyChanges l s u := by
  intro b hb
  have h1 := h b hb
  have h2 := h' b hb
  cases b <;> simp only [State.agrees] at * <;> exact h2.trans h1

/-- A fold of steps that each keep a frame keeps it. -/
theorem OnlyChanges.foldl {α : Type} {l : List Block} (f : State → α → State)
    (h : ∀ s x, OnlyChanges l s (f s x)) (xs : List α) (s : State) : OnlyChanges l s (xs.foldl f s) := by
  induction xs generalizing s with
  | nil => exact OnlyChanges.refl l s
  | cons x xs ih => exact (h s x).trans (ih (f s x))

/-! ## The named updates -/

theorem setPort_only (s : State) (x : Port) : OnlyChanges [.port] s (s.setPort x) := by
  intro b hb; cases b <;> first | rfl | simp at hb
theorem setStore_only (s : State) (x : ProfileStore) : OnlyChanges [.store] s (s.setStore x) := by
  intro b hb; cases b <;> first | rfl | simp at hb
theorem setClock_only (s : State) (x : LineClock) : OnlyChanges [.clock] s (s.setClock x) := by
  intro b hb; cases b <;> first | rfl | simp at hb
theorem setGeometryMark_only (s : State) (x : Geometry) : OnlyChanges [.geometryMark] s (s.setGeometryMark x) := by
  intro b hb; cases b <;> first | rfl | simp at hb
theorem setRegister_only (s : State) (x : Register) : OnlyChanges [.register] s (s.setRegister x) := by
  intro b hb; cases b <;> first | rfl | simp at hb
theorem setTracker_only (s : State) (x : Tracker) : OnlyChanges [.tracker] s (s.setTracker x) := by
  intro b hb; cases b <;> first | rfl | simp at hb
theorem setIntake_only (s : State) (x : Intake) : OnlyChanges [.intake] s (s.setIntake x) := by
  intro b hb; cases b <;> first | rfl | simp at hb
theorem setSignallers_only (s : State) (x : Vector SigRuntime 32) : OnlyChanges [.signallers] s (s.setSignallers x) := by
  intro b hb; cases b <;> first | rfl | simp at hb
theorem setInputUnit_only (s : State) (x : InputUnit) : OnlyChanges [.inputUnit] s (s.setInputUnit x) := by
  intro b hb; cases b <;> first | rfl | simp at hb
theorem setFixUnit_only (s : State) (x : FixUnit) : OnlyChanges [.fixUnit] s (s.setFixUnit x) := by
  intro b hb; cases b <;> first | rfl | simp at hb
theorem setValves_only (s : State) (x : Vector Valve 16) : OnlyChanges [.valves] s (s.setValves x) := by
  intro b hb; cases b <;> first | rfl | simp at hb
theorem setWatchUnit_only (s : State) (x : WatchUnit) : OnlyChanges [.watchUnit] s (s.setWatchUnit x) := by
  intro b hb; cases b <;> first | rfl | simp at hb
theorem setTraps_only (s : State) (x : Traps) : OnlyChanges [.traps] s (s.setTraps x) := by
  intro b hb; cases b <;> first | rfl | simp at hb
theorem setReply_only (s : State) (x : Option Reply) : OnlyChanges [.reply] s (s.setReply x) := by
  intro b hb; cases b <;> first | rfl | simp at hb
theorem setFreeCount_only (s : State) (x : Nat) : OnlyChanges [.freeCount] s (s.setFreeCount x) := by
  intro b hb; cases b <;> first | rfl | simp at hb
theorem setPowered_only (s : State) (x : Bool) : OnlyChanges [.powered] s (s.setPowered x) := by
  intro b hb; cases b <;> first | rfl | simp at hb
theorem setPending_only (s : State) (x : List Instr) : OnlyChanges [.pending] s (s.setPending x) := by
  intro b hb; cases b <;> first | rfl | simp at hb

/-- A named update inside a wider frame. -/
theorem OnlyChanges.then {l k : List Block} {s t u : State} (h : OnlyChanges l s t) (h' : OnlyChanges k t u)
    (hk : ∀ b ∈ k, b ∈ l) : OnlyChanges l s u := h.trans (h'.mono hk)

/-! ## Context frames -/

@[simp] theorem context_mapIdx (s : State) (f : Context → Context) (m : Master) :
    (s.setPort { s.port with contexts := s.port.contexts.mapIdx (fun _ c => f c) }).context m = f (s.context m) := by
  simp [State.context]

@[simp] theorem setContext_context (s : State) (m n : Master) (c : Context) :
    (s.setContext m c).context n = if n = m then c else s.context n := by
  simp [State.setContext, State.context, Port.setContext, Vector.getElem_set, Fin.ext_iff, eq_comm]

theorem setContext_only (s : State) (m : Master) (c : Context) : OnlyChanges [.port] s (s.setContext m c) := by
  intro b hb; cases b <;> first | rfl | simp at hb

/-! ## Postings -/

theorem post_only (k : AttnKind) (x : Option Subject) (s : State) : OnlyChanges [.port] s (post k x s) := by
  intro b hb; cases b <;> first | rfl | simp at hb

theorem post_context (k : AttnKind) (x : Option Subject) (s : State) (m : Master) :
    (post k x s).context m = (s.context m).attend ((s.context m).attention ||| k.mask) := by
  simp [post, State.context]

theorem post_own (k : AttnKind) (x : Option Subject) (s : State) (m : Master) :
    ((post k x s).context m).own = (s.context m).own := by
  rw [post_context]; rfl

theorem post_detail (k : AttnKind) (x : Option Subject) (s : State) (j : Fin 16) :
    (post k x s).port.detail[j] =
      if j = k.bit then ⟨x, s.now, bump s.port.detail[k.bit].count⟩ else s.port.detail[j] := by
  simp [post, Vector.getElem_set, Fin.ext_iff, eq_comm]

@[simp] theorem post_dropCount (k : AttnKind) (x : Option Subject) (s : State) :
    (post k x s).port.dropCount = s.port.dropCount := rfl
@[simp] theorem post_lastDrop (k : AttnKind) (x : Option Subject) (s : State) :
    (post k x s).port.lastDrop = s.port.lastDrop := rfl

theorem postAll_only (l : List AttnKind) (x : Subject) (s : State) : OnlyChanges [.port] s (postAll l x s) :=
  OnlyChanges.foldl _ (fun s k => post_only k (some x) s) l s

theorem keepSubject_only (k : AttnKind) (choice : Nat) (l : List Subject) (s : State) :
    OnlyChanges [.port] s (keepSubject k choice l s) := by
  unfold keepSubject
  split
  · exact OnlyChanges.refl _ s
  · exact setPort_only s _

@[simp] theorem keepSubject_contexts (k : AttnKind) (choice : Nat) (l : List Subject) (s : State) :
    (keepSubject k choice l s).port.contexts = s.port.contexts := by
  unfold keepSubject
  split <;> rfl

/-- Of a detail entry a kept subject replaces the subject alone, by one of those posted. -/
theorem keepSubject_detail (k : AttnKind) (choice : Nat) (l : List Subject) (s : State) (h : l ≠ []) :
    ∃ x ∈ l, (keepSubject k choice l s).port.detail[k.bit] = { s.port.detail[k.bit] with subject := some x } := by
  cases l with
  | nil => exact absurd rfl h
  | cons x rest =>
    refine ⟨(x :: rest).getD (choice % (rest.length + 1)) x, ?_, by simp [keepSubject]⟩
    rw [List.getD_eq_getElem _ _ (by simpa using Nat.mod_lt _ (Nat.succ_pos _))]
    exact List.getElem_mem _

/-! ## The effects of the watches -/

theorem WatchEffects.refl (s : State) : WatchEffects s s :=
  ⟨OnlyChanges.refl _ s, fun _ => rfl, fun _ => rfl, rfl, rfl⟩

theorem WatchEffects.trans {s t u : State} (h : WatchEffects s t) (h' : WatchEffects t u) : WatchEffects s u :=
  ⟨h.1.trans h'.1, fun m => (h'.2.1 m).trans (h.2.1 m), fun st => (h'.2.2.1 st).trans (h.2.2.1 st),
    h'.2.2.2.1.trans h.2.2.2.1, h'.2.2.2.2.trans h.2.2.2.2⟩

theorem WatchEffects.foldl {α : Type} (f : State → α → State) (h : ∀ s x, WatchEffects s (f s x)) (xs : List α)
    (s : State) : WatchEffects s (xs.foldl f s) := by
  induction xs generalizing s with
  | nil => exact WatchEffects.refl s
  | cons x xs ih => exact (h s x).trans (ih (f s x))

theorem post_effects (k : AttnKind) (x : Option Subject) (s : State) : WatchEffects s (post k x s) :=
  ⟨(post_only k x s).mono (by simp), post_own k x s, fun _ => rfl, rfl, rfl⟩

theorem WatchEffects.contexts {s t : State} (h : WatchEffects s t) : ContextsKept s t := ⟨h.2.1, h.2.2.2⟩

theorem ContextsKept.trans {s t u : State} (h : ContextsKept s t) (h' : ContextsKept t u) : ContextsKept s u :=
  ⟨fun m => (h'.1 m).trans (h.1 m), h'.2.1.trans h.2.1, h'.2.2.trans h.2.2⟩

theorem setWatchUnit_effects (s : State) (x : WatchUnit) : WatchEffects s (s.setWatchUnit x) :=
  ⟨(setWatchUnit_only s x).mono (by simp), fun _ => rfl, fun _ => rfl, rfl, rfl⟩

theorem setWatch_effects (s : State) (st : Fin 16) (w : Watch) : WatchEffects s (s.setWatch st w) :=
  ⟨fun b hb => by cases b <;> first | rfl | simp at hb, fun _ => rfl, fun _ => rfl, rfl, rfl⟩

theorem setValve_valves (s : State) (st k : Fin 16) (v : Valve) :
    (s.setValve st v).valves[k] = if k = st then v else s.valves[k] := by
  simp [State.setValve, Vector.getElem_set, Fin.ext_iff, eq_comm]

/-- A change of a hold set that keeps the manual holds is among the effects of the watches. -/
theorem changeHold_effects (st : Fin 16) (h : HoldSet) (s : State)
    (hm : manualHolds h = manualHolds s.valves[st].hold) : WatchEffects s (changeHold st h s) := by
  have hv : WatchEffects s (s.setValve st { s.valves[st] with hold := h, contact := contactFor s st h }) := by
    refine ⟨fun b hb => by cases b <;> first | rfl | simp at hb, fun _ => rfl, fun k => ?_, rfl, rfl⟩
    rw [setValve_valves]
    split
    · subst k; simp [Valve.own, hm]
    · rfl
  unfold changeHold
  dsimp only
  split
  · exact WatchEffects.refl s
  · split
    · exact hv.trans (post_effects _ _ _)
    · exact hv

theorem manualHolds_or_watch (h : HoldSet) : manualHolds (h ||| watchBit) = manualHolds h := by
  revert h; decide

theorem manualHolds_idem (h : HoldSet) : manualHolds (manualHolds h) = manualHolds h := by
  revert h; decide

theorem applyHold_effects (st : Fin 16) (s : State) : WatchEffects s (applyHold st s) := by
  unfold applyHold
  apply changeHold_effects
  split
  · exact manualHolds_or_watch _
  · exact manualHolds_idem _

theorem madeActions_effects (st : Fin 16) (s : State) : WatchEffects s (madeActions st s) := by
  unfold madeActions
  dsimp only
  split <;> split <;>
    first
      | exact (post_effects _ _ _).trans (post_effects _ _ _)
      | exact post_effects _ _ _
      | exact WatchEffects.refl s

theorem settleWatch_effects (st : Fin 16) (made : Bool) (s : State) : WatchEffects s (settleWatch st made s) := by
  unfold settleWatch
  dsimp only
  split
  · exact (applyHold_effects st s).trans (madeActions_effects st _)
  · exact applyHold_effects st s

theorem judgeWatch_effects (first : Bool) (now : Nat) (s : State) (st : Fin 16) :
    WatchEffects s (judgeWatch first now s st) := by
  unfold judgeWatch
  dsimp only
  split
  · split
    · exact (setWatch_effects s st _).trans (settleWatch_effects st _ _)
    · exact (setWatch_effects s st _).trans (settleWatch_effects st _ _)
  · exact (setWatch_effects s st _).trans (settleWatch_effects st _ _)

theorem judgeOne_effects (st : Fin 16) (s : State) : WatchEffects s (judgeOne st s) := by
  unfold judgeOne
  split
  · exact WatchEffects.refl s
  · exact judgeWatch_effects _ _ _ _

theorem expireDelay_effects (st : Fin 16) (s : State) : WatchEffects s (expireDelay st s) := by
  unfold expireDelay
  dsimp only
  split
  · exact (setWatch_effects s st _).trans (settleWatch_effects st _ _)
  · exact (setWatch_effects s st _).trans (settleWatch_effects st _ _)
  · exact WatchEffects.refl s

/-- A judgement of every watch does what the watches may do, and nothing else. -/
theorem judgeAll_effects (s : State) : WatchEffects s (judgeAll s) := by
  unfold judgeAll
  split
  · exact WatchEffects.refl s
  · rename_i now _
    have h := WatchEffects.foldl (judgeWatch s.watchUnit.firstPending now)
      (judgeWatch_effects s.watchUnit.firstPending now) (List.finRange 16) s
    exact h.trans (setWatchUnit_effects _ _)

theorem judgeAll_only (s : State) : OnlyChanges [.port, .valves, .watchUnit] s (judgeAll s) := (judgeAll_effects s).1

/-! ## Register, fixes and intake -/

theorem removePig_only (tag : Nat) (s : State) :
    OnlyChanges [.register, .port, .valves, .watchUnit] s (removePig tag s) := by
  unfold removePig
  refine OnlyChanges.trans ?_ ((judgeAll_only _).mono (by simp))
  intro b hb; cases b <;> first | rfl | simp at hb

theorem setRuntime_only (s : State) (n : Nat) (r : SigRuntime) : OnlyChanges [.signallers] s (s.setRuntime n r) := by
  intro b hb; cases b <;> first | rfl | simp at hb

theorem setInLine_only (s : State) (l : List Pig) : OnlyChanges [.register] s (s.setInLine l) := by
  intro b hb; cases b <;> first | rfl | simp at hb

theorem countMissed_only (lo hi : Nat) (s : State) (n : Nat) :
    OnlyChanges [.signallers, .port] s (countMissed lo hi s n) := by
  unfold countMissed
  dsimp only
  split
  · exact OnlyChanges.refl _ s
  · split
    · split
      · exact ((setRuntime_only s n _).mono (by simp)).trans ((post_only _ _ _).mono (by simp))
      · exact (setRuntime_only s n _).mono (by simp)
    · exact OnlyChanges.refl _ s

theorem countFix_only (n : Nat) (g : Signaller) (p : Pig) (s : State) :
    OnlyChanges [.signallers, .port] s (countFix n g p s) := by
  unfold countFix countPassage
  split
  · exact (((setRuntime_only s n _).mono (by simp)).trans (OnlyChanges.foldl _ (countMissed_only _ _) _ _)).then
      (keepSubject_only _ _ _ _) (by simp)
  · exact (setRuntime_only s n _).mono (by simp)

theorem makeFix_only (now : Nat) (g : Signaller) (x : Passage) (early : Bool) (p : Pig) (s : State) :
    OnlyChanges [.register, .signallers, .port] s (makeFix now g x early p s) := by
  unfold makeFix
  exact ((setInLine_only s _).mono (by simp)).trans
    (((countFix_only _ _ _ _).mono (by simp)).trans ((post_only _ _ _).mono (by simp)))

theorem makeArrival_only (t tag : Nat) (s : State) : OnlyChanges [.register, .port] s (makeArrival t tag s) := by
  unfold makeArrival
  split
  · exact OnlyChanges.refl _ s
  · dsimp only
    split <;> (intro b hb; cases b <;> first | rfl | simp at hb)

theorem setLaunchOverdue_only (s : State) (d : Option Nat) : OnlyChanges [.traps] s (s.setLaunchOverdue d) :=
  setTraps_only s _

theorem makeLaunch_only (now : Nat) (g : Signaller) (x : Passage) (p : Pig) (s : State) :
    OnlyChanges [.register, .signallers, .port, .valves, .watchUnit, .traps] s (makeLaunch now g x p s) := by
  unfold makeLaunch countPassage
  refine OnlyChanges.then ?_ (setLaunchOverdue_only _ _) (by simp)
  refine OnlyChanges.then ?_ (judgeAll_only _) (by simp)
  refine OnlyChanges.then ?_ (post_only _ _ _) (by simp)
  refine OnlyChanges.then ?_ (setRuntime_only _ _ _) (by simp)
  exact (setRegister_only s _).mono (by simp)

theorem applyPassage_only (now : Nat) (g : Signaller) (x : Passage) (early : Bool) (p : Pig) (s : State) :
    OnlyChanges [.register, .signallers, .port, .valves, .watchUnit, .traps] s (applyPassage now g x early p s) := by
  unfold applyPassage
  split
  · exact makeLaunch_only now g x p s
  · dsimp only
    refine OnlyChanges.trans ((makeFix_only now g x early p s).mono (by simp)) ?_
    split
    · exact ((makeArrival_only _ _ _).mono (by simp)).trans ((judgeAll_only _).mono (by simp))
    · exact (judgeAll_only _).mono (by simp)

theorem noteUnmatched_only (now : Nat) (x : Passage) (r : UnmatchedReason) (s : State) :
    OnlyChanges [.fixUnit, .port] s (noteUnmatched now x r s) := by
  intro b hb; cases b <;> first | rfl | simp at hb

/-- What a passage, once handed, may change: neither the intake list nor the profile nor line time. -/
theorem takeEntry_only (now : Nat) (x : Passage) (s : State) :
    OnlyChanges [.register, .signallers, .port, .valves, .watchUnit, .traps, .fixUnit] s (takeEntry now x s) := by
  unfold takeEntry
  split
  · exact (noteUnmatched_only _ _ _ _).mono (by simp)
  · exact (applyPassage_only _ _ _ _ _ _).mono (by simp)
  · exact (applyPassage_only _ _ _ _ _ _).mono (by simp)
  · exact (noteUnmatched_only _ _ _ _).mono (by simp)

/-- What the handing of an entry may change. -/
def handBlocks : List Block := [.intake, .register, .signallers, .port, .valves, .watchUnit, .traps, .fixUnit]

theorem handFirst_only (now : Nat) (s : State) : OnlyChanges handBlocks s (handFirst now s) := by
  unfold handFirst
  split
  · exact OnlyChanges.refl _ s
  · split
    · refine OnlyChanges.trans ?_ ((takeEntry_only now _ _).mono (by simp [handBlocks]))
      intro b hb; cases b <;> first | rfl | simp [handBlocks] at hb
    · exact OnlyChanges.refl _ s

theorem handDue_only (now n : Nat) (s : State) : OnlyChanges handBlocks s (handDue now n s) := by
  induction n generalizing s with
  | zero => exact OnlyChanges.refl _ s
  | succ n ih => exact (handFirst_only now s).trans (ih _)

/-- A handed entry leaves the list, and nothing else leaves or enters it. -/
theorem handFirst_entries (now : Nat) (s : State) :
    (handFirst now s).intake.entries =
      match s.intake.entries with
      | [] => []
      | e :: rest => if isDue s.profile now e then rest else e :: rest := by
  unfold handFirst
  split
  · simp [*]
  · rename_i e rest h
    split
    · have := takeEntry_only now e.passage (s.setEntries rest) .intake (by simp)
      simp only [State.agrees] at this
      rw [this]
      simp_all [State.setEntries]
    · simp [*]

theorem countIntake_only (s : State) (f : IntakeCounts → IntakeCounts) :
    OnlyChanges [.intake] s (s.countIntake f) := by
  intro b hb; cases b <;> first | rfl | simp at hb

theorem noteSequence_only (e : IntakeEntry) (d : Nat) (s : State) :
    OnlyChanges [.signallers, .port] s (noteSequence e d s) := by
  unfold noteSequence
  dsimp only
  split <;> (intro b hb; cases b <;> first | rfl | simp at hb)

theorem acceptReport_only (now : Nat) (e : IntakeEntry) (d : Nat) (clamped : Bool) (s : State) :
    OnlyChanges handBlocks s (acceptReport now e d clamped s).1 := by
  unfold acceptReport
  have h : OnlyChanges handBlocks s (((noteSequence e d s).setEntries
      (insertEntry e (noteSequence e d s).intake.entries)).countIntake
        (fun c => { c with accepted := bump c.accepted })) := by
    refine OnlyChanges.then ?_ (countIntake_only _ _) (by simp [handBlocks])
    refine OnlyChanges.then ?_ (setIntake_only _ _) (by simp [handBlocks])
    exact (noteSequence_only e d s).mono (by simp [handBlocks])
  dsimp only
  split
  · exact h.trans (handDue_only _ _ _)
  · exact h

theorem takeInService_only (now : Nat) (e : IntakeEntry) (d : Nat) (s : State) :
    OnlyChanges handBlocks s (takeInService now e d s).1 := by
  unfold takeInService
  have h : OnlyChanges handBlocks s (if tooFarAhead now e.time then
      s.countIntake (fun c => { c with futureClamps := bump c.futureClamps }) else s) := by
    split
    · exact (countIntake_only _ _).mono (by simp [handBlocks])
    · exact OnlyChanges.refl _ s
  dsimp only
  generalize (if tooFarAhead now e.time = true then _ else s) = s1 at h
  split
  · exact h.then (countIntake_only _ _) (by simp [handBlocks])
  · split
    · refine OnlyChanges.then ?_ (post_only _ _ _) (by simp [handBlocks])
      exact h.then (countIntake_only _ _) (by simp [handBlocks])
    · exact h.trans (acceptReport_only _ _ _ _ _)

/-- What the taking of a report may change. -/
theorem takeReport_only (now : Nat) (e : IntakeEntry) (s : State) : OnlyChanges handBlocks s (takeReport now e s).1 := by
  unfold takeReport
  split
  · unfold takeOutOfService
    have h : OnlyChanges handBlocks s (s.countIntake (fun c => { c with outOfService := bump c.outOfService })) :=
      (countIntake_only _ _).mono (by simp [handBlocks])
    dsimp only
    split
    · exact h.then (setRuntime_only _ _ _) (by simp [handBlocks])
    · exact h
  · have hd : OnlyChanges handBlocks s (takeDuplicate s).1 := (countIntake_only _ _).mono (by simp [handBlocks])
    split
    · exact hd
    · split
      · exact hd
      · exact takeInService_only _ _ _ _

theorem localReport_only (now : Nat) (c : Fin 8) (time : Nat) (speed : Option Nat) (s : State) :
    OnlyChanges handBlocks s (localReport now c time speed s) := by
  unfold localReport
  split
  · exact OnlyChanges.refl _ s
  · exact takeReport_only _ _ _

/-! ## The tracker -/

theorem judgeFlow_only (now : Nat) (s : State) (r : Fin 15) : OnlyChanges [.tracker, .port] s (judgeFlow now s r) := by
  unfold judgeFlow
  dsimp only
  split
  · exact OnlyChanges.refl _ s
  · split <;> (intro b hb; cases b <;> first | rfl | simp at hb)

theorem advancePigs_only (now : Nat) (s : State) : OnlyChanges [.register, .port] s (advancePigs now s) := by
  unfold advancePigs
  exact ((setInLine_only s _).mono (by simp)).trans
    (OnlyChanges.foldl _ (fun s r => (postAll_only _ _ _).mono (by simp)) _ _)

/-- What an update of the tracker may change. -/
theorem trackerUpdate_only (now : Nat) (s : State) :
    OnlyChanges [.register, .tracker, .port, .valves, .watchUnit] s (trackerUpdate now s) := by
  unfold trackerUpdate
  refine OnlyChanges.then ?_ (judgeAll_only _) (by simp)
  refine OnlyChanges.then ?_ (setTracker_only _ _) (by simp)
  refine OnlyChanges.then ?_ (advancePigs_only now _) (by simp)
  exact (OnlyChanges.foldl _ (judgeFlow_only now) _ s).mono (by simp)

/-! ## Channel inputs -/

theorem setChannel_only (s : State) (c : Fin 8) (x : Channel) : OnlyChanges [.inputUnit] s (s.setChannel c x) :=
  setInputUnit_only s _

theorem setLevel_only (n : Nat) (level pair : Bool) (ms : Nat) (s : State) :
    OnlyChanges [.inputUnit] s (setLevel n level pair ms s) := setInputUnit_only s _

theorem tickTo_only (ms : Nat) (s : State) : OnlyChanges [.inputUnit] s (tickTo ms s) := setInputUnit_only s _

/-- With power, an input that may rise takes its level and is judged (R79). -/
theorem rising_judged (n : Nat) (pair : Bool) (ms : Nat) (f : State → State) (s : State) (hp : s.powered = true)
    (hr : s.mayRise n = true) : rising n pair ms f s = .next ((f (setLevel n true pair ms s)).setReply none) := by
  simp [rising, hp, hr]

/-- With power, an input that is active already starts nothing (R79). -/
theorem rising_active (n : Nat) (pair : Bool) (ms : Nat) (f : State → State) (s : State) (hp : s.powered = true)
    (hr : s.mayRise n = false) : rising n pair ms f s = .next ((tickTo ms s).setReply none) := by
  simp [rising, hp, hr]

/-- With power, an input that goes inactive takes its level and is judged. -/
theorem falling_judged (n ms : Nat) (f : State → State) (s : State) (hp : s.powered = true) :
    falling n ms f s = .next ((f (setLevel n false false ms s)).setReply none) := by
  simp [falling, hp]

/-- Without power, an input takes its level at most, and nothing is judged. -/
theorem rising_dark (n : Nat) (pair : Bool) (ms : Nat) (f : State → State) (s : State) (hp : s.powered = false) :
    ∃ t, rising n pair ms f s = .next (t.setReply none) ∧ OnlyChanges [.inputUnit] s t := by
  cases hr : s.mayRise n with
  | true => exact ⟨_, by simp [rising, hp, hr], setLevel_only n true pair 0 s⟩
  | false => exact ⟨_, by simp [rising, hp, hr], OnlyChanges.refl _ _⟩

/-! ## Deadlines -/

/-- What the deadlines of a forward setting may change: neither the profile store, nor line time, nor the channels. -/
def runBlocks : List Block :=
  [.tracker, .intake, .register, .signallers, .port, .valves, .watchUnit, .traps, .fixUnit, .freeCount]

theorem leaveDriving_only (t : TrapId) (old new : TrapState) (s : State) :
    OnlyChanges [.traps] s (leaveDriving t old new s) := by
  unfold leaveDriving
  split <;> (intro b hb; cases b <;> first | rfl | simp at hb)

theorem setTrap_only (s : State) (t : TrapId) (r : TrapRecord) : OnlyChanges [.traps] s (s.setTrap t r) := by
  unfold State.setTrap
  cases t <;> (intro b hb; cases b <;> first | rfl | simp at hb)

theorem expireStep_only (t : TrapId) (s : State) : OnlyChanges [.traps, .port] s (expireStep t s) := by
  unfold expireStep trapEvent
  dsimp only
  split
  · exact OnlyChanges.refl _ s
  · exact (((setTrap_only s t _).mono (by simp)).trans ((post_only _ _ _).mono (by simp))).trans
      ((leaveDriving_only _ _ _ _).mono (by simp))

theorem expirePermit_only (st : Fin 16) (s : State) :
    OnlyChanges [.port, .valves, .watchUnit] s (expirePermit st s) := by
  unfold expirePermit handPosition
  dsimp only
  split
  · exact OnlyChanges.refl _ s
  · split
    · intro b hb; cases b <;> first | rfl | simp at hb
    · refine OnlyChanges.trans ?_ (judgeAll_only _)
      intro b hb; cases b <;> first | rfl | simp at hb

theorem runOut_only (now : Nat) (s : State) (t : Timer) : OnlyChanges runBlocks s (runOut now s t) := by
  cases t with
  | update => exact (trackerUpdate_only now s).mono (by simp [runBlocks])
  | entry => exact (handFirst_only now s).mono (by simp [runBlocks, handBlocks])
  | permit st => exact (expirePermit_only st s).mono (by simp [runBlocks])
  | step t => exact (expireStep_only t s).mono (by simp [runBlocks])
  | delay st => exact (expireDelay_effects st s).1.mono (by simp [runBlocks])
  | launch => intro b hb; cases b <;> first | rfl | simp [runBlocks] at hb

theorem runDeadlines_only (now fuel : Nat) (s : State) : OnlyChanges runBlocks s (runDeadlines now fuel s) := by
  induction fuel generalizing s with
  | zero => exact OnlyChanges.refl _ s
  | succ n ih =>
    unfold runDeadlines
    split
    · exact OnlyChanges.refl _ s
    · exact (runOut_only now s _).trans (ih _)
    · refine OnlyChanges.trans ?_ (ih _)
      refine OnlyChanges.trans ?_ (runOut_only now _ _)
      intro b hb; cases b <;> first | rfl | simp [runBlocks] at hb

/-! ## Requests and replies -/

theorem sendReply_only (m : Master) (a : Answer) (s : State) : OnlyChanges [.reply] s (sendReply m a s) := by
  intro b hb; cases b <;> first | rfl | simp at hb

@[simp] theorem sendReply_context (m n : Master) (a : Answer) (s : State) :
    (sendReply m a s).context n = s.context n := rfl

theorem sendReply_replied (m : Master) (a : Answer) (s : State) : Replied m a (sendReply m a s) := rfl

/-- A request open to the caller's class, at a part with power, is answered by its own rule. -/
theorem serve_open (m : Master) (k : Command) (body : State → State × Answer) (s : State) (hp : s.powered = true)
    (hc : mayUse (s.context m).cls k = true) : serve m k body s = .next (respond m k.code (body s)) := by
  simp [serve, hp, hc]

/-- Any request answers a next state. -/
theorem serve_next (m : Master) (k : Command) (body : State → State × Answer) (s : State) :
    serve m k body s = .next
      (if s.powered then
        respond m k.code (if mayUse (s.context m).cls k then body s else refuse .cls s)
      else s.setReply none) := by
  unfold serve
  split <;> [split; skip] <;> simp_all

@[simp] theorem respond_done (m : Master) (code : Nat) (d : ReplyData) (s : State) :
    respond m code (s, .done d) = sendReply m (.done d) s := rfl
@[simp] theorem respond_accepted (m : Master) (code : Nat) (d : ReplyData) (s : State) :
    respond m code (s, .accepted d) = sendReply m (.accepted d) s := rfl
@[simp] theorem respond_discarded (m : Master) (code : Nat) (why : Discard) (d : ReplyData) (s : State) :
    respond m code (s, .discarded why d) = sendReply m (.discarded why d) s := rfl
@[simp] theorem respond_late (m : Master) (code : Nat) (d : ReplyData) (s : State) :
    respond m code (s, .late d) = sendReply m (.late d) s := rfl
@[simp] theorem respond_wait (m : Master) (code : Nat) (s : State) :
    respond m code (s, .wait) = sendReply m .wait s := rfl
@[simp] theorem respond_end (m : Master) (code : Nat) (s : State) :
    respond m code (s, .endOfView) = sendReply m .endOfView s := rfl
@[simp] theorem respond_refused (m : Master) (code : Nat) (r : Reason) (d : ReplyData) (s : State) :
    respond m code (s, .refused r d) = sendReply m (.refused r d)
      (s.setContext m { s.context m with lastRefusal := some ⟨code, r, s.now⟩ }) := rfl

theorem noteRefusal_only (m : Master) (code : Nat) (a : Answer) (s : State) :
    OnlyChanges [.port] s (noteRefusal m code a s) := by
  cases a <;> first | exact OnlyChanges.refl _ s | exact setContext_only s m _

end Sys2Proof.Machine
end

