-- ==== Sys2Proof/Laws/Requests.lean ====
section
/-! SUPPORT. Laws/Requests.lean: what every request has in common: it is served, refused CLASS or unheard, and its meaning
comes after the checks of R15, R2 and R190. -/

namespace Sys2Proof.Machine

/-- Every request is served by a body of its own. -/
theorem exec_request {i : Instr} {m : Master} {k : Command} (h : i.request = some (m, k)) :
    ∃ body, ∀ s, exec i s = serve m k body s := by
  cases i <;> simp only [Instr.request, Option.some.injEq, Prod.mk.injEq, reduceCtorEq] at h <;>
    (obtain ⟨rfl, rfl⟩ := h) <;> exact ⟨_, fun _ => rfl⟩

/-- Every event, dropped frame and unknown code answers a next state. -/
theorem exec_event {i : Instr} (h : i.request = none) (s : State) : ∃ t, exec i s = .next t := by
  cases i <;> first
    | exact ⟨_, rfl⟩
    | (simp only [exec, execUnknownCommandCode]; split <;> exact ⟨_, rfl⟩)
    | simp [Instr.request] at h

/-- Every command answers a next state. -/
theorem exec_next (i : Instr) (s : State) : ∃ t, exec i s = .next t := by
  cases h : i.request with
  | none => exact exec_event h s
  | some r =>
    obtain ⟨body, hb⟩ := exec_request (m := r.1) (k := r.2) h
    exact ⟨_, (hb s).trans (serve_next _ _ _ _)⟩

/-- A read, a cursor command and an attention command are open to every class (R179). -/
theorem mayUse_all {k : Command} (hk : k ∈ openToAll) (c : MasterClass) : mayUse c k = true := by
  simp [mayUse, hk]

/-- A class that the table of R179 gives a command may use it. -/
theorem mayUse_class {s : State} {m : Master} {l : List MasterClass} {k : Command} (h : s.serves m l)
    (hk : ∀ c ∈ l, mayUse c k = true) : mayUse (s.context m).cls k = true := hk _ h.2

@[simp] theorem whenComplete_complete (body : State → State × Answer) {s : State} (h : s.profile.complete = true) :
    whenComplete body s = body s := by simp [whenComplete, h]

@[simp] theorem whenComplete_incomplete (body : State → State × Answer) {s : State}
    (h : s.profile.complete = false) : whenComplete body s = refuse .state s := by simp [whenComplete, h]

@[simp] theorem whenIdle_idle (body : State → State × Answer) {s : State} (h : s.store.writing = none) :
    whenIdle body s = body s := by simp [whenIdle, h]

@[simp] theorem whenTime_set (body : Nat → State → State × Answer) {s : State} {now : Nat} (h : s.now = some now) :
    whenTime body s = body now s := by simp [whenTime, h]

@[simp] theorem whenTime_unset (body : Nat → State → State × Answer) {s : State} (h : s.now = none) :
    whenTime body s = refuse .timeUnset s := by simp [whenTime, h]

@[simp] theorem withParams_some {α : Type} (x : α) (body : α → State → State × Answer) (s : State) :
    withParams (some x) body s = body x s := rfl

@[simp] theorem withParams_none {α : Type} (body : α → State → State × Answer) (s : State) :
    withParams none body s = refuse .range s := rfl

/-- A request that its own rule refuses without data. -/
theorem refuses_of {i : Instr} {m : Master} {k : Command} {r : Reason} {s : State} (hi : i.request = some (m, k))
    (h : exec i s = .next (respond m k.code (refuse r s))) : Refuses i r s := ⟨m, k, hi, h⟩

/-- A master may use its command but the part has no power: nothing but the reply changes. -/
theorem exec_unpowered {i : Instr} {m : Master} {k : Command} (h : i.request = some (m, k)) {s : State}
    (hp : s.powered = false) : exec i s = .next (s.setReply none) := by
  obtain ⟨body, hb⟩ := exec_request h
  rw [hb, serve_next]
  simp [hp]

/-- A request of another class is refused CLASS. -/
theorem exec_class {i : Instr} {m : Master} {k : Command} (h : i.request = some (m, k)) {s : State}
    (hp : s.powered = true) (hc : mayUse (s.context m).cls k = false) : Refuses i .cls s := by
  obtain ⟨body, hb⟩ := exec_request h
  refine refuses_of h ?_
  rw [hb, serve_next]
  simp [hp, hc]

end Sys2Proof.Machine
end

