-- ==== Sys2Proof/Laws/Checks.lean ====
section
/-! SUPPORT. Laws/Checks.lean: the range checks of SET CHANNEL MODE, SET WATCH and DEFINE TRAP answer yes exactly where the
terms of R88, R137 and R12 hold. -/

namespace Sys2Proof.Machine

@[simp] theorem within_iff {low high n : Nat} : within low high n = true ↔ low ≤ n ∧ n ≤ high := by simp [within]

@[simp] theorem optWithin_iff {low high : Nat} {o : Option Nat} :
    optWithin low high o = true ↔ ∀ n, o = some n → low ≤ n ∧ n ≤ high := by
  cases o <;> simp [optWithin]

theorem channelMode_succ (p : Profile) (c : Fin 8) (h : c.val % 2 = 0) :
    p.channelMode (c.val + 1) = .off ↔ ∀ d : Fin 8, d.val = c.val + 1 → p.channels[d].mode = .off := by
  have hc : c.val + 1 < 8 := by omega
  rw [Profile.channelMode, Vector.getElem?_eq_getElem hc]
  exact ⟨fun h d hd => by simpa [← hd] using h, fun h => h ⟨c.val + 1, hc⟩ rfl⟩

theorem channelMode_pred (p : Profile) (c : Fin 8) (h : c.val % 2 = 1) :
    p.channelMode (c.val - 1) = .pair ↔ ∃ d : Fin 8, d.val + 1 = c.val ∧ p.channels[d].mode = .pair := by
  have hc : c.val - 1 < 8 := by omega
  rw [Profile.channelMode, Vector.getElem?_eq_getElem hc]
  refine ⟨fun h => ⟨⟨c.val - 1, hc⟩, by simp; omega, h⟩, fun ⟨d, hd, h⟩ => ?_⟩
  have : d.val = c.val - 1 := by omega
  simpa [← this] using h

/-- The range check of SET CHANNEL MODE (R14, R88). -/
theorem channelInRange_iff {p : Profile} {c : Fin 8} {x : ChannelArgs} :
    channelInRange p c x (channelFrom x p.channels[c]) = true ↔ ChannelFits p c x := by
  have hl (n : Nat) : p.isLocal n = true ↔ ∃ g, p.signaller? n = some g ∧ g.source = .localInput := by
    unfold Profile.isLocal
    cases p.signaller? n <;> simp
  have hp : (c.val % 2 = 0 ∧ p.channelMode (c.val + 1) = .off) ↔
      c.val % 2 = 0 ∧ ∀ d : Fin 8, d.val = c.val + 1 → p.channels[d].mode = .off :=
    and_congr_right fun h => channelMode_succ p c h
  have ho : offCarries x = false ↔ (x.mode = .off → x.signaller = none ∧ x.minWidth = none ∧ x.maxWidth = none ∧
      x.spacing = none ∧ x.interval = none) := by
    simp [offCarries, and_assoc]
  simp only [channelInRange, ChannelArgs.inRange, ChannelFits, Bool.and_eq_true, Bool.or_eq_true, Bool.not_eq_true',
    optWithin_iff, decide_eq_true_eq, bne_iff_ne, beq_iff_eq, ho, Option.any_eq_true, hl, hp, and_assoc]
  have hm : (channelFrom x p.channels[c]).mode = x.mode := rfl
  grind

/-- The channel conflict check of SET CHANNEL MODE (R88). -/
theorem channelConflict_iff {p : Profile} {c : Fin 8} {x : ChannelArgs} :
    channelConflict p c (channelFrom x p.channels[c]) = true ↔ ChannelConflicts p c x := by
  have hp : (c.val % 2 = 1 ∧ p.channelMode (c.val - 1) = .pair) ↔
      c.val % 2 = 1 ∧ ∃ d : Fin 8, d.val + 1 = c.val ∧ p.channels[d].mode = .pair :=
    and_congr_right fun h => channelMode_pred p c h
  have hm : (channelFrom x p.channels[c]).mode = x.mode := rfl
  simp only [channelConflict, ChannelConflicts, hm, Bool.and_eq_true, Bool.or_eq_true, bne_iff_ne, beq_iff_eq,
    List.any_eq_true, List.mem_finRange, true_and, and_assoc, hp]

/-- The range check of SET WATCH (R137). -/
theorem watchInRange_iff {held : WatchCfg} {x : WatchArgs} : watchInRange x held = true ↔ WatchFits held x := by
  simp only [watchInRange, WatchFits, Bool.and_eq_true, Bool.or_eq_true, optWithin_iff, beq_iff_eq,
    Option.isSome_iff_ne_none, Nat.zero_le, true_and]
  grind [WatchSource.limit]

/-- A trap has a parameter and its range takes a value (R12). -/
theorem trapTakes_iff {k : TrapParam} {t : TrapId} {v : Nat} :
    (k.ofTrap t && k.inRange v) = true ↔ TrapTakes t v k := by
  cases k <;> cases t <;> simp [TrapParam.ofTrap, TrapParam.inRange, TrapTakes]

end Sys2Proof.Machine
end

