-- ==== Sys2Proof/Laws/Places.lean ====
section
/-! SUPPORT. Laws/Places.lean: what the searches over stations, signallers and limits find, and where a fix or an update
places a pig. -/

namespace Sys2Proof.Machine

/-! ## Searches over indices -/

/-- The first index of a range at which a search finds something. -/
theorem findSome?_range_iff {α : Type} (f : Nat → Option α) (n : Nat) (y : α) :
    (List.range n).findSome? f = some y ↔ ∃ j, j < n ∧ f j = some y ∧ ∀ k, k < j → f k = none := by
  induction n with
  | zero => simp
  | succ n ih =>
    rw [List.range_succ, List.findSome?_append, Option.or_eq_some_iff, ih, List.findSome?_eq_none_iff]
    constructor
    · rintro (⟨j, hj, h⟩ | ⟨h, hn⟩)
      · exact ⟨j, by omega, h⟩
      · exact ⟨n, by omega, by simpa using hn, fun k hk => h k (by simpa using hk)⟩
    · rintro ⟨j, hj, h, hk⟩
      rcases Nat.lt_succ_iff_lt_or_eq.mp hj with hj | rfl
      · exact .inl ⟨j, hj, h, hk⟩
      · exact .inr ⟨fun k hk' => hk k (by simpa using hk'), by simpa using h⟩

/-- The last index of a range at which a search finds something. -/
theorem findSome?_range_reverse_iff {α : Type} (f : Nat → Option α) (n : Nat) (y : α) :
    (List.range n).reverse.findSome? f = some y ↔ ∃ j, j < n ∧ f j = some y ∧ ∀ k, j < k → k < n → f k = none := by
  induction n with
  | zero => simp
  | succ n ih =>
    rw [List.range_succ, List.reverse_append, List.findSome?_append, Option.or_eq_some_iff, ih]
    simp only [List.reverse_cons, List.reverse_nil, List.nil_append, List.findSome?_singleton]
    constructor
    · rintro (h | ⟨hn, j, hj, h, hk⟩)
      · exact ⟨n, by omega, h, fun k _ _ => by omega⟩
      · refine ⟨j, by omega, h, fun k h1 h2 => ?_⟩
        rcases Nat.lt_succ_iff_lt_or_eq.mp h2 with h2 | rfl
        · exact hk k h1 h2
        · exact hn
    · rintro ⟨j, hj, h, hk⟩
      rcases Nat.lt_succ_iff_lt_or_eq.mp hj with hj | rfl
      · exact .inr ⟨hk n hj (by omega), j, hj, h, fun k h1 h2 => hk k h1 (by omega)⟩
      · exact .inl h

theorem station?_lt {p : Profile} {i : Nat} {st : Station} (h : p.station? i = some st) : i < 16 := by
  by_contra hi
  simp [Profile.station?, Nat.not_lt.mp hi] at h

theorem reach?_lt {p : Profile} {i : Nat} {r : Reach} (h : p.reach? i = some r) : i < 15 := by
  by_contra hi
  simp [Profile.reach?, Nat.not_lt.mp hi] at h

theorem signaller?_lt {p : Profile} {n : Nat} {g : Signaller} (h : p.signaller? n = some g) : n < 32 := by
  by_contra hn
  simp [Profile.signaller?, Nat.not_lt.mp hn] at h

/-! ## Places of stations and signallers (R6, R7, R10) -/

theorem stationPlaceOk_iff (p : Profile) (i c : Nat) : p.stationPlaceOk i c = true ↔ StationPlace p i c := by
  unfold Profile.stationPlaceOk StationPlace
  split <;> [skip; split] <;> simp_all

theorem apart_iff (a b : Station) : apart a b = true ↔ StationsApart a b := by
  simp [apart, StationsApart, Nat.add_assoc]

theorem signallersApart_iff (i a b : Nat) : signallersApart i a b = true ↔ SignallersRise i a b := by
  simp [signallersApart, SignallersRise, Decidable.imp_iff_not_or]

/-- What holds of the nearest defined item below an index. -/
theorem nearestBelow_all {α : Type} (f : Nat → Option α) (n : Nat) (q : α → Bool) :
    (nearestBelow f n).all q = true ↔
      ∀ j x, j < n → f j = some x → (∀ k, j < k → k < n → f k = none) → q x = true := by
  rw [Option.all_eq_true]
  unfold nearestBelow
  simp only [findSome?_range_reverse_iff]
  exact ⟨fun h j x hj hx hk => h x ⟨j, hj, hx, hk⟩, fun h x ⟨j, hj, hx, hk⟩ => h j x hj hx hk⟩

/-- What holds of the nearest defined item above an index. -/
theorem nearestAbove_all {α : Type} (f : Nat → Option α) (n count : Nat) (q : α → Bool) :
    (nearestAbove f n count).all q = true ↔
      ∀ j x, n < j → j < count → f j = some x → (∀ k, n < k → k < j → f k = none) → q x = true := by
  rw [Option.all_eq_true]
  unfold nearestAbove
  simp only [findSome?_range_iff]
  constructor
  · intro h j x h1 h2 hx hk
    refine h x ⟨j, h2, by simp [h1, hx], fun k hk' => ?_⟩
    split
    · exact hk k ‹_› hk'
    · rfl
  · rintro h x ⟨j, hj, hx, hk⟩
    split at hx
    · rename_i h1
      refine h j x h1 hj hx fun k h2 h3 => ?_
      simpa [h2] using hk k h3
    · cases hx

theorem stationFits_iff (p : Profile) (i : Nat) (st : Station) :
    p.stationFits i st = true ↔ StationRoom p i st := by
  simp only [Profile.stationFits, StationRoom, Bool.and_eq_true, nearestBelow_all, nearestAbove_all, apart_iff]

theorem signallerFits_iff (p : Profile) (n c : Nat) : p.signallerFits n c = true ↔ SignallerRoom p n c := by
  simp only [Profile.signallerFits, SignallerRoom, Bool.and_eq_true, nearestBelow_all, nearestAbove_all,
    signallersApart_iff, and_assoc]
  have h1 : ((if n = 0 then within 10 200 c else decide (c ≤ p.lineEnd)) = true) ↔
      (n = 0 → 10 ≤ c ∧ c ≤ 200) ∧ (n ≠ 0 → c ≤ p.lineEnd) := by
    split <;> simp_all [within]
  rw [h1, and_assoc]
  refine and_congr_right fun _ => and_congr_right fun _ => and_congr ?_ ?_
  · constructor
    · intro h j l hj hl hk
      exact h j (j, l.chainage) hj (by simp [hl]) (fun k h2 h3 => by simp [hk k h2 h3])
    · rintro h j x hj hx hk
      obtain ⟨l, hl, rfl⟩ := Option.map_eq_some_iff.mp hx
      exact h j l hj hl fun k h2 h3 => Option.map_eq_none_iff.mp (hk k h2 h3)
  · constructor
    · intro h j u h1 h2 hu hk
      exact h j u.chainage h1 h2 (by simp [hu]) (fun k h3 h4 => by simp [hk k h3 h4])
    · rintro h j x h1 h2 hx hk
      obtain ⟨u, hu, rfl⟩ := Option.map_eq_some_iff.mp hx
      exact h j u h1 h2 hu fun k h3 h4 => Option.map_eq_none_iff.mp (hk k h3 h4)

/-! ## Limits and places of pigs (R51, R52, R97) -/

theorem nextSignaller_iff (s : State) (above n : Nat) (g : Signaller) :
    nextSignaller s above = some (n, g) ↔ FirstInService s above n g := by
  unfold nextSignaller FirstInService
  rw [findSome?_range_iff]
  constructor
  · rintro ⟨j, _, hj, hk⟩
    split at hj
    · rename_i g' hg
      split at hj
      · rename_i hs
        cases hj
        refine ⟨hg, hs.1, hs.2, fun k h hlt hh hr => ?_⟩
        have := hk k hlt
        simp only [hh, hr, true_and, ite_eq_right_iff, reduceCtorEq, imp_false] at this
        omega
      · cases hj
    · cases hj
  · rintro ⟨hg, hs, ha, hk⟩
    refine ⟨n, signaller?_lt hg, by simp [hg, hs, ha], fun k hlt => ?_⟩
    split
    · rename_i h hh
      have : ¬ ((s.runtime k).service = .inService ∧ above < h.chainage * 1000) := fun hc =>
        absurd (hk k h hlt hh hc.1) (by omega)
      simp [this]
    · rfl

theorem capAt_le (n : Nat) (o : Option Nat) : capAt n o ≤ n := by cases o <;> simp [capAt]

/-- A number cut to a limit that may be absent is the least of the two. -/
theorem capAt_eq (n : Nat) (o : Option Nat) : capAt n o = n ∨ o = some (capAt n o) := by
  cases o with
  | none => exact .inl rfl
  | some l => simp only [capAt, Option.some.injEq]; omega

theorem capAt_le_some (n l : Nat) : capAt n (some l) ≤ l := by simp only [capAt]; omega

/-- The valve limit is the lowest zone start, from a position on, of a station whose valve stands CLOSED. -/
theorem valveLimit_spec (s : State) (pos : Nat) :
    (∀ l, valveLimit s pos = some l → ∃ i st, i < 16 ∧ s.profile.station? i = some st ∧ s.valveClosed i = true ∧
      (pos : Int) ≤ st.zoneStart ∧ l = st.zoneStart.toNat) ∧
    ∀ i st, i < 16 → s.profile.station? i = some st → s.valveClosed i = true → (pos : Int) ≤ st.zoneStart →
      ∃ l, valveLimit s pos = some l ∧ l ≤ st.zoneStart.toNat := by
  unfold valveLimit
  generalize 16 = n
  induction n with
  | zero => simp
  | succ n ih =>
    rw [List.range_succ, List.foldl_append]
    generalize (List.range n).foldl _ none = best at ih
    simp only [List.foldl_cons, List.foldl_nil]
    cases hst : s.profile.station? n with
    | none =>
      dsimp only
      refine ⟨fun l hl => ?_, fun i st hi hs hv hp => ?_⟩
      · obtain ⟨i, st, hi, h⟩ := ih.1 l hl
        exact ⟨i, st, by omega, h⟩
      · rcases Nat.lt_succ_iff_lt_or_eq.mp hi with hi | rfl
        · exact ih.2 i st hi hs hv hp
        · simp [hst] at hs
    | some sn =>
      dsimp only
      by_cases hc : s.valveClosed n = true ∧ (pos : Int) ≤ sn.zoneStart
      · rw [if_pos hc]
        refine ⟨fun l hl => ?_, fun i st hi hs hv hp => ?_⟩
        · simp only [Option.some.injEq] at hl
          subst hl
          rcases capAt_eq sn.zoneStart.toNat best with h | h
          · exact ⟨n, sn, by omega, hst, hc.1, hc.2, h⟩
          · obtain ⟨i, st, hi, h'⟩ := ih.1 _ h
            exact ⟨i, st, by omega, h'⟩
        · refine ⟨_, rfl, ?_⟩
          rcases Nat.lt_succ_iff_lt_or_eq.mp hi with hi | rfl
          · obtain ⟨l, hl, hle⟩ := ih.2 i st hi hs hv hp
            subst hl
            exact (capAt_le_some _ _).trans hle
          · rw [hst] at hs
            cases hs
            exact capAt_le _ _
      · rw [if_neg hc]
        refine ⟨fun l hl => ?_, fun i st hi hs hv hp => ?_⟩
        · obtain ⟨i, st, hi, h⟩ := ih.1 l hl
          exact ⟨i, st, by omega, h⟩
        · rcases Nat.lt_succ_iff_lt_or_eq.mp hi with hi | rfl
          · exact ih.2 i st hi hs hv hp
          · rw [hst] at hs
            cases hs
            exact absurd ⟨hv, hp⟩ hc

theorem valveClosed_iff (s : State) (i : Fin 16) :
    s.valveClosed i.val = true ↔ i.val < s.profile.count ∧ s.valves[i].position = .closed := by
  simp [State.valveClosed, State.valveAt]

/-- The number that the cuts to every limit leave is the least of the uncut one and the limits. -/
theorem least_of_limits (s : State) (above : Option Nat) (place start : Nat) (ahead : Option Nat) :
    Least (fun x => x = start ∨ Limit s above place ahead x)
      (min (capAt (capAt (capAt start ((above.bind (nextSignaller s)).map (fun n => n.2.limit))) (valveLimit s place))
        (ahead.map (· - 1000))) (s.profile.lineEnd * 1000)) := by
  have hz : ∀ st : Station, ((st.chainage : Int) - st.halfWidth) * 1000 = st.zoneStart := fun _ => rfl
  constructor
  · rcases Nat.le_total (capAt (capAt (capAt start ((above.bind (nextSignaller s)).map (fun n => n.2.limit)))
      (valveLimit s place)) (ahead.map (· - 1000))) (s.profile.lineEnd * 1000) with h | h
    · rw [Nat.min_eq_left h]
      rcases capAt_eq (capAt (capAt start ((above.bind (nextSignaller s)).map (fun n => n.2.limit)))
        (valveLimit s place)) (ahead.map (· - 1000)) with h1 | h1
      · rw [h1]
        rcases capAt_eq (capAt start ((above.bind (nextSignaller s)).map (fun n => n.2.limit)))
          (valveLimit s place) with h2 | h2
        · rw [h2]
          rcases capAt_eq start ((above.bind (nextSignaller s)).map (fun n => n.2.limit)) with h3 | h3
          · exact .inl h3
          · obtain ⟨⟨n, g⟩, hn, hl⟩ := Option.map_eq_some_iff.mp h3
            obtain ⟨c, hc, hn⟩ := Option.bind_eq_some_iff.mp hn
            exact .inr (.inr (.inr (.inl ⟨c, n, g, hc, (nextSignaller_iff _ _ _ _).mp hn, hl.symm⟩)))
        · obtain ⟨i, st, hi, hs, hv, hp, hl⟩ := (valveLimit_spec s place).1 _ h2
          refine .inr (.inr (.inr (.inr ⟨⟨i, hi⟩, st, hs, ?_⟩)))
          obtain ⟨hcount, hclosed⟩ := (valveClosed_iff s ⟨i, hi⟩).mp hv
          refine ⟨hcount, hclosed, hp, ?_⟩
          rw [hl, hz]
          omega
      · obtain ⟨a, ha, hl⟩ := Option.map_eq_some_iff.mp h1
        exact .inr (.inr (.inl ⟨a, ha, hl.symm⟩))
    · exact .inr (.inl (Nat.min_eq_right h))
  · rintro x (hx | hx | ⟨a, ha, hx⟩ | ⟨c, n, g, hc, hn, hx⟩ | ⟨i, st, hs, hcount, hclosed, hp, hx⟩)
    · rw [hx]
      exact (Nat.min_le_left _ _).trans ((capAt_le _ _).trans ((capAt_le _ _).trans (capAt_le _ _)))
    · rw [hx]
      exact Nat.min_le_right _ _
    · rw [hx, ha]
      exact (Nat.min_le_left _ _).trans (capAt_le_some _ _)
    · refine (Nat.min_le_left _ _).trans ((capAt_le _ _).trans ((capAt_le _ _).trans ?_))
      rw [hc, Option.bind_some, (nextSignaller_iff _ _ _ _).mpr hn, hx]
      exact capAt_le_some _ _
    · refine (Nat.min_le_left _ _).trans ((capAt_le _ _).trans ?_)
      obtain ⟨l, hl, hle⟩ := (valveLimit_spec s place).2 i st i.isLt hs ((valveClosed_iff s i).mpr ⟨hcount, hclosed⟩) hp
      rw [hl]
      refine (capAt_le_some _ _).trans ?_
      rw [hz] at hx
      omega

/-- Where an update moves a pig (R52): the greater of its position and the least of the candidate and the limits. -/
theorem advanced_least (s : State) (ahead above : Option Nat) (p : Pig) (d : Nat) :
    ∃ m, Least (fun x => x = p.position + d ∨ Limit s above p.position ahead x) m ∧
      advanced s ahead ((above.bind (nextSignaller s)).map (fun n => n.2.limit)) p d = max p.position m :=
  ⟨_, least_of_limits s above p.position (p.position + d) ahead, rfl⟩

/-- Where a passage places a pig (R97). -/
theorem fixPosition_placed (s : State) (now : Nat) (g : Signaller) (x : Passage) (ratio : Nat) (ahead : Option Nat) :
    PlacedAt s now g x.time x.speed ratio ahead (fixPosition s now g x ratio ahead) := by
  have h := least_of_limits s (some (g.chainage * 1000)) (g.chainage * 1000) (g.chainage * 1000 +
    x.speed.getD (velocityAt s (g.chainage * 1000) * ratio / 1000) * (now - x.time) / 10) ahead
  have hv : extrapolationSpeed (velocityAt s (g.chainage * 1000)) ratio x.speed =
      x.speed.getD (velocityAt s (g.chainage * 1000) * ratio / 1000) := by
    cases x.speed <;> rfl
  unfold PlacedAt fixPosition
  simpa only [travel, hv, Option.bind_some] using h

end Sys2Proof.Machine
end

