-- ==== Sys2Proof/Laws/Watches.lean ====
section
/-! SUPPORT. Laws/Watches.lean: what a judgement of one watch can do, said once (R139 to R146): the conditions, the value
and the transition of the machine are those that statements speak of. -/

namespace Sys2Proof.Machine

theorem makes_iff (c : WatchCfg) (v : WatchValue) : c.makes v = true ↔ c.Makes v := by
  cases v <;> cases h : c.source <;> simp [WatchCfg.makes, WatchCfg.Makes, WatchSource.unit, h]

theorem breaks_iff (c : WatchCfg) (v : WatchValue) : c.breaks v = true ↔ c.Breaks v := by
  cases v <;> cases h : c.source <;> simp [WatchCfg.breaks, WatchCfg.Breaks, WatchSource.unit, h]

/-- The value of a watch is the one it reads over the pig it watches (R140). -/
theorem watchValue_reads (src : WatchSource) (x : Station) (inLine : List Pig) :
    Reads src x (watchedPig x inLine) (watchValue src x inLine) := by
  unfold watchValue
  cases watchedPig x inLine with
  | none => rfl
  | some p =>
    cases src <;> simp only [Reads, watchReading, etaOver] <;> refine ⟨?_, ?_, ?_, ?_⟩ <;> intros <;> simp_all <;> omega

/-- A judgement goes where R143, R144 and R146 say. -/
theorem judge_goes (c : WatchCfg) (first : Bool) (now : Nat) (w : Watch) (v : WatchValue) :
    let verdict := c.judge first now w v
    c.Goes first now v (w.state, w.delay) (verdict.state, verdict.delay) := by
  simp only [WatchCfg.Goes, ← makes_iff, ← breaks_iff]
  cases h : w.state <;> cases hm : c.makes v <;> cases hb : c.breaks v <;>
    simp [WatchCfg.judge, h, hm, hb, WatchCfg.broken, addTime, tenths, maxTime] <;> split <;> simp_all

/-- The verdict says MADE was entered exactly where the watch stands MADE and did not before (R148). -/
theorem judge_made (c : WatchCfg) (first : Bool) (now : Nat) (w : Watch) (v : WatchValue) :
    (c.judge first now w v).made = decide ((c.judge first now w v).state = .made ∧ w.state ≠ .made) := by
  cases h : w.state <;> cases hm : c.makes v <;> cases hb : c.breaks v <;> cases c.latch <;>
    simp [WatchCfg.judge, h, hm, hb, WatchCfg.broken] <;> (repeat' split) <;> simp_all

end Sys2Proof.Machine
end

