-- ==== Sys2Proof/Machine/Frame.lean ====
section
/-! DEFINITION. Machine/Frame.lean: the bytes of a reply frame (R187 to R189): the outcome and reason codes, the data of
every reply field after field in the order its rule names them, the pig summary, and the CRC. Where R189 leaves a field's
place or width open, notes/assumptions/12.md says what stands here. -/

namespace Sys2Proof.Machine

/-! ## Fields (R189) -/

/-- A number in one byte. -/
def byte1 (n : Nat) : List Byte := [BitVec.ofNat 8 n]

/-- A number in two bytes, most significant byte first. -/
def byte2 (n : Nat) : List Byte := byte1 (n / 256) ++ byte1 n

/-- A number in four bytes, most significant byte first. -/
def byte4 (n : Nat) : List Byte := byte2 (n / 65536) ++ byte2 n

/-- A signed number in four bytes, two's complement. -/
def signed4 (i : Int) : List Byte := byte4 (BitVec.ofInt 32 i).toNat

/-- A yes or no. -/
def yesNo (b : Bool) : List Byte := byte1 (if b then 1 else 0)

/-- A field that may be absent. -/
def maybe {α : Type} (f : α → List Byte) : Option α → List Byte
  | none => byte1 0
  | some x => byte1 1 ++ f x

/-- A number in four bytes that may be NONE. -/
def orNone4 : Option Nat → List Byte
  | none => byte1 2
  | some n => byte1 1 ++ byte4 n

/-- An enumerated value: its place in the list, counting from 1. -/
def place {α : Type} [DecidableEq α] (values : List α) (x : α) : List Byte := byte1 (values.idxOf x + 1)

/-- A list of indices as a mask. -/
def indexMask (l : List Nat) : List Byte := byte2 ((l.map (fun i => 2 ^ i)).sum)

def sourceByte (x : SigSource) : List Byte := place [.remote, .localInput] x
def firmnessByte (x : Firmness) : List Byte := place [.firm, .soft] x
def classByte (x : MasterClass) : List Byte := place [.dispatch, .link, .trap, .service, .none] x
def watchSourceByte (x : WatchSource) : List Byte := place [.distance, .eta] x
def chanModeByte (x : ChanMode) : List Byte := place [.off, .contact, .pulse, .pair] x
def imageStateByte (x : ImageState) : List Byte := place [.current, .reverted, .empty] x
def flowStateByte (x : FlowState) : List Byte := place [.fresh, .stale, .lapsed] x
def zeroCauseByte (x : ZeroCause) : List Byte := place [.lapsed, .valveClosed] x
def statusByte (x : PigStatus) : List Byte :=
  place [.staged, .running, .overdue, .stalled, .unverified, .arrived] x
def ratioSourceByte (x : RatioSource) : List Byte := place [.learnt, .manual] x
def chanStateByte (x : ChanState) : List Byte := place [.idle, .armed, .measuring, .tripped, .fault, .guard] x
def serviceByte (x : Service) : List Byte := place [.inService, .out] x
def unmatchedReasonByte (x : UnmatchedReason) : List Byte := place [.stray, .staleFix, .earlySoft] x
def positionByte (x : ValvePos) : List Byte := place [.opened, .closed, .moving, .unknown] x
def directionByte (x : Direction) : List Byte := place [.toOpen, .toClose] x
def strokeCheckByte (x : StrokeCheck) : List Byte := place [.zone, .unverified, .approach] x
def watchStateByte (x : WatchState) : List Byte :=
  place [.off, .clear, .making, .made, .breaking, .latched, .inhibited] x
def stepByte (x : TrapStep) : List Byte :=
  place [.openDoor, .closeDoor, .fill, .lineUp, .drive, .isolate, .vent] x
def trapStateByte (x : TrapState) : List Byte :=
  place [.vented, .doorOpen, .pressurised, .linedUp, .driving, .unknown] x
def stepCheckByte (x : StepCheck) : List Byte := place [.pressure, .valve, .spacing, .guard] x
def dropCauseByte (x : DropCause) : List Byte := place [.crc, .masterNumber, .malformed] x
def restartCauseByte (x : RestartCause) : List Byte := place [.powerOn, .powerOnRetentionLost, .commanded] x
def trapByte (x : TrapId) : List Byte := place [.launch, .receive] x

/-- A refusal reason's code (R187). -/
def Reason.code : Reason → Nat
  | .cls => 1 | .state => 2 | .busy => 3 | .full => 4 | .range => 5 | .noSuch => 6 | .held => 7 | .interlock => 8
  | .notOwner => 9 | .stale => 10 | .locked => 11 | .timeUnset => 12

/-! ## The pig summary (R188) -/

/-- A field of the summary: 0 where the record lacks it. -/
def orZero {α : Type} (f : α → List Byte) (zero : List Byte) : Option α → List Byte
  | none => zero
  | some x => f x

def kindCode : PigKind → Nat
  | .scraper => 1 | .brush => 2 | .foam => 3 | .sphere => 4 | .gauge => 5 | .bypass => 6

def partCode : RegisterPart → Nat
  | .receiveBarrel => 1 | .inLine => 2 | .launchBarrel => 3

/-- Bits in one byte, the first in bit 0. -/
def bitsByte (l : List Bool) : List Byte := byte1 (l.foldr (fun b n => 2 * n + (if b then 1 else 0)) 0)

/-- The 47 bytes of the pig summary. -/
def pigBytes (p : PigSummary) : List Byte :=
  byte1 p.tag ++ byte1 (kindCode p.kind) ++ statusByte p.status ++ byte1 (partCode p.part) ++ byte1 p.ordinal ++
    byte1 p.records ++ byte2 p.ratio ++ byte1 (if p.source = .learnt then 0 else 1) ++
    bitsByte [p.flags.early, p.flags.struck, p.flags.aged] ++
    bitsByte [p.position.isSome, p.lastFix.isSome, p.overdueAt.isSome, p.launchTime.isSome, p.arrivalTime.isSome,
      p.error.isSome] ++
    byte4 (p.position.getD 0) ++ byte2 p.speed ++ byte4 p.fluid ++
    orZero (fun f => byte1 f.signaller ++ byte4 f.chainage ++ byte4 f.time) (List.replicate 9 0#8) p.lastFix ++
    orZero (fun o => byte1 o.signaller ++ byte4 o.since) (List.replicate 5 0#8) p.overdueAt ++
    byte4 (p.launchTime.getD 0) ++ byte4 (p.arrivalTime.getD 0) ++ signed4 (p.error.getD 0)

/-! ## The data of each reply -/

def trapCommonBytes (c : TrapCommon) : List Byte :=
  byte2 c.openDoorTime ++ byte2 c.closeDoorTime ++ byte2 c.fillTime ++ byte2 c.lineUpTime ++ byte2 c.isolateTime ++
    byte2 c.ventTime

def actionsByte (a : Actions) : List Byte := bitsByte [a.hold, a.notify, a.armCheck]

def watchCfgBytes (w : WatchCfg) : List Byte :=
  yesNo w.enabled ++ watchSourceByte w.source ++ byte2 w.threshold ++ byte2 w.hysteresis ++ byte2 w.makeDelay ++
    byte2 w.breakDelay ++ yesNo w.latch ++ yesNo w.startInhibit ++ actionsByte w.actions

def chanCfgBytes (c : ChanCfg) : List Byte :=
  chanModeByte c.mode ++ maybe byte1 c.signaller ++ byte2 c.minWidth ++ byte2 c.maxWidth ++ byte2 c.spacing ++
    byte2 c.interval

def summaryBytes (p : ProfileSummary) : List Byte :=
  yesNo p.complete ++ yesNo p.lineDefined ++ indexMask p.undefinedStations ++ indexMask p.undefinedReaches ++
    yesNo p.launchSignaller ++ maybe byte1 p.receiveSignaller ++ byte1 p.signallers ++ yesNo p.locked ++
    byte4 p.writeCount ++ imageStateByte p.imageState

/-- The region and its index. -/
def regionBytes : Region → List Byte
  | .launchTrap => byte1 1 ++ maybe byte1 none
  | .receiveTrap => byte1 2 ++ maybe byte1 none
  | .valveZone s => byte1 3 ++ maybe byte1 (some s)
  | .reach r => byte1 4 ++ maybe byte1 (some r)

def originBytes : Origin → List Byte
  | .master m => byte1 1 ++ byte1 m
  | .channel c => byte1 2 ++ byte1 c

def countsBytes (c : IntakeCounts) : List Byte :=
  byte2 c.accepted ++ byte2 c.duplicates ++ byte2 c.outOfService ++ byte2 c.stale ++ byte2 c.overruns ++
    byte2 c.futureClamps

/-- A measurement: the width of a pulse, or the interval and then the speed of a pair, a speed above two bytes as 65,535. No
byte says which it is: the mode, sent before it, does (DESIGN CHOICE, notes/assumptions/12.md). -/
def measurementBytes : Measurement → List Byte
  | .pulse w => byte2 w
  | .pair i v => byte2 i ++ byte2 (min v 65535)

/-- A watch value: 0 absent, 2 NONE, 1 and the value (R189). A value by DISTANCE is sent in millimetres, as R140 makes it and
the record holds it: R139 says only that it is in the source's unit, whose threshold is in metres (DESIGN CHOICE,
notes/assumptions/12.md). -/
def watchValueBytes : Option WatchValue → List Byte
  | none => byte1 0
  | some .noValue => byte1 2
  | some (.value n) => byte1 1 ++ byte4 n

/-- One presence byte stands before the fields of a permit, a lapsed permit or the last forced stroke, which are sent in the
order of R117 (DESIGN CHOICE, notes/assumptions/12.md). -/
def valveRecordBytes (v : Valve) : List Byte :=
  positionByte v.position ++ byte1 v.hold.toNat ++
    maybe (fun p => byte1 p.owner ++ directionByte p.direction ++ byte4 p.expiry) v.permit ++
    maybe (fun p => byte1 p.owner ++ directionByte p.direction) v.lapsed ++
    maybe (fun f => directionByte f.direction ++ maybe byte4 f.time) v.forced ++ yesNo v.contact

/-- One byte of the READ VALVE summary. -/
def valveLineByte (l : ValveLine) : List Byte :=
  byte1 (([ValvePos.opened, .closed, .moving, .unknown].idxOf l.position) + (if l.permit then 4 else 0) +
    (if l.contact then 8 else 0) + (if l.watch then 16 else 0) + 32 * l.members)

/-- One presence byte stands before the delay deadline and its start, which are present together (DESIGN CHOICE,
notes/assumptions/12.md). -/
def watchRecordBytes (w : Watch) (member : Bool) : List Byte :=
  watchStateByte w.state ++ maybe byte1 w.tag ++ watchValueBytes w.value ++
    maybe (fun d => byte4 d.deadline ++ byte4 d.start) w.delay ++ yesNo member ++ maybe byte4 w.lastJudged

/-- A pressure and right after it its report time, which may be absent alone. R170 does not say whether the times follow each
pressure or both (DESIGN CHOICE, notes/assumptions/12.md). -/
def pressureBytes (p : Pressure) : List Byte := byte2 p.kPa ++ maybe byte4 p.time

/-- The barrel pressure with its time stands before the line pressure with its time, and one presence byte before the fields
of the step in progress, of the lapsed step and of each pressure (DESIGN CHOICE, notes/assumptions/12.md). -/
def trapRecordBytes (r : TrapRecord) (tags : List Nat) : List Byte :=
  trapStateByte r.state ++ maybe (fun h => stepByte h.step ++ byte1 h.owner ++ byte4 h.deadline) r.step ++
    maybe (fun h => stepByte h.step ++ byte1 h.owner) r.lapsed ++ maybe pressureBytes r.barrel ++
    maybe pressureBytes r.line ++ tags.flatMap byte1 ++ byte1 tags.length

def subjectByte : Subject → List Byte
  | .tag n => byte1 n
  | .signaller n => byte1 n
  | .station n => byte1 n
  | .trap t => trapByte t

def restartBytes (r : RestartRecord) : List Byte :=
  restartCauseByte r.cause ++ maybe byte4 r.restartTime ++ maybe byte4 r.timeSet

/-- The data bytes of a reply. A two-valued level (an input, a hold contact, an attention line) is sent as a yes or no, 1
for active, energised and asserted, and the update timer as an enumerated place, 1 for IDLE and 2 for RUNNING (DESIGN
CHOICE: R189 does not say which of its two forms they take). An item of READ PROFILE is sent in the order of the rule
that defines it, before what READ PROFILE adds to it, and the flow states of READ FLOW without a count before them
(DESIGN CHOICE; notes/assumptions/12.md). -/
def ReplyData.bytes : ReplyData → List Byte
  | .nothing => []
  | .lineItem d => byte1 d.count ++ byte4 d.lineEnd
  | .stationItem s i last =>
    byte4 s.chainage ++ byte2 s.halfWidth ++ byte2 s.strokeTime ++ byte1 i ++ yesNo last
  | .reachItem r => byte2 r.area ++ byte2 r.stallTime ++ byte2 r.flowTimeout
  | .signallerItem g receive =>
    sourceByte g.source ++ byte4 g.chainage ++ firmnessByte g.firmness ++ byte2 g.window ++ yesNo receive
  | .trackingItem t => byte2 t.period ++ byte2 t.holdBack ++ byte1 t.weight
  | .launchItem t =>
    trapCommonBytes t.common ++ byte2 t.driveTime ++ byte2 t.common.ventLimit ++ byte2 t.common.equaliseBand ++
      byte2 t.spacing ++ byte2 t.overdueTime
  | .receiveItem t =>
    trapCommonBytes t.common ++ byte2 t.common.ventLimit ++ byte2 t.common.equaliseBand ++ byte2 t.guardDistance ++
      byte1 t.capacity
  | .masterItem c => classByte c
  | .watchItem w => watchCfgBytes w
  | .channelItem c => chanCfgBytes c
  | .profileSummary p => summaryBytes p
  | .region r c clamped reach => regionBytes r ++ byte4 c ++ yesNo clamped ++ maybe byte1 reach
  | .pig p => pigBytes p
  | .cursorTag t => maybe byte1 t
  | .ratioHeld r src => byte2 r ++ ratioSourceByte src
  | .placed c clamped => byte4 c ++ yesNo clamped
  | .flowTaken f was => byte2 f ++ flowStateByte was
  | .flowEntry e effective cause area velocity =>
    byte2 e.flow ++ yesNo e.reverse ++ maybe byte4 e.reportTime ++ flowStateByte e.state ++ byte2 effective ++
      maybe zeroCauseByte cause ++ byte2 area ++ byte2 velocity
  | .trackerSummary running period last due n states =>
    byte1 (if running then 2 else 1) ++ byte2 period ++ maybe byte4 last ++ maybe byte4 due ++ byte1 n ++
      states.flatMap flowStateByte
  | .eta t d v target clamped status =>
    orNone4 t ++ byte4 d ++ byte2 v ++ byte4 target ++ yesNo clamped ++ statusByte status
  | .accepted k handed left gap clamped => byte1 k ++ yesNo handed ++ byte1 left ++ byte2 gap ++ yesNo clamped
  | .lastSequence n => byte2 n
  | .intakeSummary n first hold counts => byte1 n ++ maybe byte4 first ++ byte2 hold ++ countsBytes counts
  | .intakeEntry e due =>
    byte1 e.signaller ++ byte2 e.sequence ++ byte4 e.time ++ maybe byte2 e.speed ++ originBytes e.origin ++ byte4 due
  | .sequenceState last gaps n => maybe byte2 last ++ byte2 gaps ++ byte1 n
  | .flagState st active => chanStateByte st ++ yesNo active
  | .channelRecord cfg partner st active b measurement last noise faults incomplete reverse =>
    chanCfgBytes cfg ++ maybe byte1 partner ++ chanStateByte st ++ yesNo active ++ maybe yesNo b ++
      maybe measurementBytes measurement ++ maybe byte4 last ++ byte2 noise ++ byte2 faults ++ byte2 incomplete ++
      byte2 reverse
  | .serviceHeld x n => serviceByte x ++ byte1 n
  | .assigned c r src status => byte4 c ++ byte2 r ++ ratioSourceByte src ++ statusByte status
  | .entriesLeft n => byte1 n
  | .matchingSummary n dropped out => byte1 n ++ byte2 dropped ++ byte1 out
  | .unmatchedEntry e =>
    byte1 e.signaller ++ byte2 e.sequence ++ byte4 e.time ++ unmatchedReasonByte e.reason ++ maybe byte2 e.speed ++
      byte4 e.entered
  | .serviceRecord x missed passages c => serviceByte x ++ byte1 missed ++ byte2 passages ++ maybe byte1 c
  | .valveTaken was permit => positionByte was ++ yesNo permit
  | .holdSet h => byte1 h.toNat
  | .emptied n => byte1 n
  | .expiry t => byte4 t
  | .strokeInterlock check tag t => strokeCheckByte check ++ byte1 tag ++ maybe byte4 t
  | .struck n owner => byte1 n ++ maybe (fun (m : Master) => byte1 m) owner
  | .valveRecord v stroke zoneStart zoneEnd limit =>
    valveRecordBytes v ++ byte2 stroke ++ signed4 zoneStart ++ signed4 zoneEnd ++ byte2 limit
  | .valveSummary l => l.flatMap valveLineByte
  | .watchState x => watchStateByte x
  | .watchRecord w member => watchRecordBytes w member
  | .pressures b l d => maybe byte2 b ++ maybe byte2 l ++ maybe byte2 d
  | .deadline t => byte4 t
  | .stepInterlock check tag => stepCheckByte check ++ maybe byte1 tag
  | .trapState x => trapStateByte x
  | .staged tag r src n => byte1 tag ++ byte2 r ++ ratioSourceByte src ++ byte1 n
  | .removed barrel register => byte1 barrel ++ byte1 register
  | .launchRecord r tags overdue => trapRecordBytes r tags ++ maybe byte4 overdue
  | .receiveRecord r tags capacity overfull => trapRecordBytes r tags ++ byte1 capacity ++ yesNo overfull
  | .attention set enables line last drops cause =>
    byte2 set.toNat ++ byte2 enables.toNat ++ yesNo line ++ maybe byte1 (last.map (·.code)) ++
      maybe byte1 (last.map (fun l => l.reason.code)) ++ maybe byte4 (last.bind (·.time)) ++ byte2 drops ++
      maybe dropCauseByte cause
  | .attentionDetail d held => maybe subjectByte d.subject ++ maybe byte4 d.time ++ byte2 d.count ++ yesNo held
  | .attentionSet set line => byte2 set.toNat ++ yesNo line
  | .clock t first r => maybe byte4 t ++ yesNo first ++ restartBytes r
  | .restarted r => restartBytes r

/-! ## The reply frame (R177, R187) -/

/-- The outcome's code, the reason's code and the data. -/
def Answer.fields : Answer → Nat × Nat × ReplyData
  | .done d => (1, 0, d)
  | .accepted d => (2, 0, d)
  | .discarded .duplicate d => (3, 13, d)
  | .discarded .outOfService d => (3, 14, d)
  | .late d => (4, 0, d)
  | .wait => (5, 0, .nothing)
  | .endOfView => (6, 0, .nothing)
  | .refused r d => (7, r.code, d)

/-- The reply frame after its start byte and before its CRC. -/
def Reply.body (r : Reply) : List Byte :=
  let data := r.answer.fields.2.2.bytes
  byte1 (r.answer.fields.1 + (if r.attentionMark then 128 else 0) + (if r.restartMark then 64 else 0)) ++
    byte1 r.answer.fields.2.1 ++ byte1 data.length ++ data

/-- The bytes of a reply frame. -/
def Reply.bytes (r : Reply) : List Byte := 0x3C#8 :: (r.body ++ byte2 (crc16 r.body).toNat)

end Sys2Proof.Machine
end

