-- ==== Sys2Proof/WellFormed.lean ====
section
/-! DEFINITION. WellFormed.lean: which terms of `Instr` stand for a request that the bus can carry or an event
that the part can see: every number fits the bytes that R189 gives it, an unknown code is unknown, a dropped frame
has a cause, and a pair of sensors begins at an even input. -/

namespace Sys2Proof

/-- `n` fits in `k` bytes. -/
def fits (k n : Nat) : Bool := n < 256 ^ k

/-- An omitted field fits; a carried one must fit its bytes. -/
def optFits (k : Nat) : Option Nat → Bool
  | none => true
  | some n => fits k n

/-- Parameters that do not fit their layout are a request too (R189). -/
def carried {α : Type} (ok : α → Bool) : Carried α → Bool
  | none => true
  | some a => ok a

def ProfileSel.wf : ProfileSel → Bool
  | .station i | .reach i | .signaller i | .master i | .watch i | .channel i => fits 1 i
  | .line | .tracking | .trap _ | .summary => true

def IntakeSel.wf : IntakeSel → Bool
  | .entry k | .signaller k => fits 1 k
  | .summary => true

def MatchingSel.wf : MatchingSel → Bool
  | .unmatched k | .signaller k => fits 1 k
  | .summary => true

/-- Whether a command or event is well formed. -/
def Instr.wf : Instr → Bool
  | .defineLine _ a => carried (fun x => fits 1 x.count && fits 4 x.lineEnd) a
  | .defineStation _ a => carried (fun x =>
      fits 1 x.index && fits 4 x.chainage && optFits 2 x.halfWidth && optFits 2 x.strokeTime) a
  | .defineReach _ a => carried (fun x =>
      fits 1 x.index && fits 2 x.area && optFits 2 x.stallTime && optFits 2 x.flowTimeout) a
  | .defineSignaller _ a => carried (fun x =>
      fits 1 x.index && carried (fun p => fits 4 p.chainage && optFits 2 p.window) x.place) a
  | .defineTracking _ a => carried (fun x => fits 2 x.period && optFits 2 x.holdBack && optFits 1 x.weight) a
  | .defineTrap _ a => carried (fun x => x.settings.length ≤ 10 && x.settings.all (fun p => fits 2 p.2)) a
  | .defineMaster _ a => carried (fun x => fits 1 x.master) a
  | .readProfile _ a => carried ProfileSel.wf a
  | .decodeChainage _ a => carried (fits 4) a
  | .readPig _ a => carried (fits 1) a
  | .cursorSet _ a => carried (fun x => optFits 1 x.tag) a
  | .cursorRead _ _ => true
  | .setRatio _ a => carried (fun x => fits 1 x.tag && fits 2 x.ratio) a
  | .writeOff _ a => carried (fits 1) a
  | .confirm _ a => carried (fun x => fits 1 x.tag && fits 4 x.chainage) a
  | .reportFlow _ a => carried (fun x => fits 1 x.reach && fits 2 x.flow) a
  | .readFlow _ a => carried (optFits 1) a
  | .queryEta _ a => carried (fun x => fits 1 x.tag && fits 4 x.chainage) a
  | .reportPassage _ a => carried (fun x =>
      fits 1 x.signaller && fits 2 x.sequence && fits 4 x.time && optFits 2 x.speed) a
  | .readIntake _ a => carried IntakeSel.wf a
  | .resetFlag _ a => carried (fits 1) a
  | .setChannelMode _ a => carried (fun x =>
      fits 1 x.channel && optFits 1 x.signaller && optFits 2 x.minWidth && optFits 2 x.maxWidth &&
        optFits 2 x.spacing && optFits 2 x.interval) a
  | .readChannel _ a => carried (fits 1) a
  | .setSignallerService _ a => carried (fun x => fits 1 x.signaller) a
  | .assignPassage _ a => carried (fun x => fits 1 x.signaller && fits 2 x.sequence && fits 1 x.tag) a
  | .discardPassage _ a => carried (fun x => fits 1 x.signaller && fits 2 x.sequence) a
  | .readMatching _ a => carried MatchingSel.wf a
  | .reportValve _ a => carried (fun x => fits 1 x.station) a
  | .setHold _ a => carried (fits 1) a
  | .releaseHold _ a => carried (fits 1) a
  | .clearHolds _ a => carried (optFits 1) a
  | .requestStroke _ a => carried (fun x => fits 1 x.station) a
  | .strokeDone _ a => carried (fun x => fits 1 x.station) a
  | .notifyForcedStroke _ a => carried (fun x => fits 1 x.station) a
  | .readValve _ a => carried (optFits 1) a
  | .setWatch _ a => carried (fun x =>
      fits 1 x.station && optFits 2 x.threshold && optFits 2 x.hysteresis && optFits 2 x.makeDelay &&
        optFits 2 x.breakDelay) a
  | .acknowledgeWatch _ a => carried (fits 1) a
  | .readWatch _ a => carried (fits 1) a
  | .reportPressure _ a => carried (fun x => optFits 2 x.barrel && optFits 2 x.line) a
  | .trapStep _ _ => true
  | .trapDone _ _ => true
  | .stagePig _ a => carried (fun x => optFits 2 x.ratio) a
  | .removePig _ a => carried (fun x => fits 1 x.tag) a
  | .recoverTrap _ _ => true
  | .readTrap _ _ => true
  | .readAttention _ _ => true
  | .acknowledgeAttention _ _ => true
  | .setEnables _ _ => true
  | .setLineTime _ a => carried (optFits 4) a
  | .restart _ _ => true
  | .unknownCommandCode _ code => fits 1 code && (code == 0 || 50 < code)
  | .frameDropped frame => (dropCause frame).isSome
  | .byteGapTimeout => true
  | .storeWriteComplete => true
  | .trackerUpdate => true
  | .entryDue => true
  | .permitExpiry _ => true
  | .trapStepDeadline _ => true
  | .watchDelayExpiry _ => true
  | .launchOverdue => true
  | .contactLeadingEdge _ _ => true
  | .contactBounce _ _ => true
  | .contactClosure _ _ => true
  | .pulseLeadingEdge _ _ => true
  | .pulseTrailingEdge _ _ => true
  | .pulseFault _ _ => true
  | .pulseFaultEnd _ _ => true
  | .pairAEdge c _ => c.val % 2 == 0
  | .pairBEdge c _ => c.val % 2 == 0
  | .pairIncomplete c _ => c.val % 2 == 0
  | .guardExpiry c _ => c.val % 2 == 0
  | .powerOn _ _ _ => true
  | .powerLoss => true
  | .lineTimeAdvance => true

end Sys2Proof
end

