-- ==== Sys2Proof/Tests/Slice0.lean ====
section
/-! SUPPORT. Tests/Slice0.lean: ill-formed terms refused, frames written out by hand, one or two steps for each command and
event with figures worked from the manual's rules, and a witness for the hypotheses of each statement. -/

namespace Sys2Proof.Tests

open Sys2Proof Sys2Proof.Machine

/-! ## A small part: the line of six stations of spec/01_line_profile_and_chainage.md's kind, in service -/

/-- The line of the tests: six stations, five reaches, seven signallers, and a master of each class. -/
def profile : Profile :=
  { Profile.empty with
    line := some ⟨6, 68900⟩
    stations := ((((((Vector.replicate 16 none).set 0 (some ⟨0, 200, 60⟩)).set 1 (some ⟨14800, 200, 60⟩)).set 2
      (some ⟨27300, 200, 60⟩)).set 3 (some ⟨40600, 200, 60⟩)).set 4 (some ⟨52700, 200, 60⟩)).set 5
      (some ⟨68900, 200, 60⟩)
    reaches := (((((Vector.replicate 15 none).set 0 (some ⟨11310, 900, 120⟩)).set 1 (some ⟨11310, 900, 120⟩)).set 2
      (some ⟨9500, 900, 120⟩)).set 3 (some ⟨11310, 900, 120⟩)).set 4 (some ⟨11310, 900, 120⟩)
    signallers := (((((((Vector.replicate 32 none).set 0 (some ⟨.remote, 60, .firm, 2000⟩)).set 1
      (some ⟨.localInput, 14800, .firm, 2000⟩)).set 2 (some ⟨.localInput, 27300, .firm, 2000⟩)).set 3
      (some ⟨.remote, 41200, .firm, 2000⟩)).set 4 (some ⟨.remote, 52700, .firm, 2000⟩)).set 5
      (some ⟨.remote, 61000, .soft, 2000⟩)).set 6 (some ⟨.remote, 68900, .firm, 2000⟩)
    masters := #v[.service, .link, .dispatch, .trap, .link, .none] }

/-- A part that runs this profile, before line time is set. -/
def fresh : State :=
  { State.reset with
    store := ⟨profile, ⟨1, true, profile⟩, Image.blank, some .first, none, .current⟩
    geometryMark := geometryOf profile
    port := { State.reset.port with contexts := profile.masters.mapIdx (fun _ c => Context.restarted c) } }

/-- The same part in service at line time 100,000, every valve of the line OPEN. -/
def part : State :=
  { fresh with
    clock := ⟨some 100000, ⟨.powerOn, none, some 100000⟩⟩
    tracker := { fresh.tracker with running := true, lastUpdate := some 100000, deadline := some 100020 }
    valves := fresh.valves.mapIdx (fun i v =>
      if i < 6 then { v with position := .opened, contact := true } else v) }

/-- A pig in the line that has passed signaller 1. -/
def pig (tag position : Nat) : Pig :=
  ⟨tag, .scraper, .running, 950, .learnt, position, 1400, 5000000, some ⟨1, 14800000, 99000⟩, none, some 90000, none, none,
    PigFlags.none, some 100000⟩

/-- A staged pig. -/
def staged (tag : Nat) : Pig := stagedPig tag ⟨.foam, none⟩

/-- The part with two pigs in the line, one staged and none received. -/
def loaded : State := part.setRegister ⟨[], [pig 2 26000000, pig 1 20000000], [staged 3], 4⟩

/-- The part without line time, and one with the register of `loaded` and line time unset. -/
def unsetLoaded : State := { loaded with clock := ⟨none, ⟨.powerOn, none, none⟩⟩ }

/-- The part with 6,000 litres a minute reported in reach 1 a second ago. -/
def flowing : State := loaded.setFlow 1 ⟨6000, false, some 99990, .fresh⟩

/-- A pig nearing signaller 3, last seen at signaller 2. -/
def nearing : Pig := { pig 2 40000000 with lastFix := some ⟨2, 27300000, 95000⟩ }

/-- The part with that pig in the line and a passage at a signaller waiting since long enough to be due. -/
def waiting (n time : Nat) : State := (part.setInLine [nearing]).setEntries [⟨n, 7, time, none, .master 1⟩]

/-- The part with one channel set and in a state. -/
def channelled (c : Fin 8) (cfg : ChanCfg) (x : Channel) : State :=
  { part with
    store := { part.store with running := { profile with channels := profile.channels.set c cfg } }
    inputUnit := { part.inputUnit with channels := part.inputUnit.channels.set c x } }

/-- The settings of the channels of the tests. -/
def setting (mode : ChanMode) (n : Nat) : ChanCfg := ⟨mode, some n, 20, 2000, 1000, 10000⟩

/-- A part whose inputs all read active. -/
def active (s : State) : State := s.setInputUnit { s.inputUnit with inputs := Vector.replicate 8 true }

/-- A channel in a state, timing from reading 1,000 of the millisecond timer at line time 99,990. -/
def timing (state : ChanState) : Channel := { Channel.idle with state := state, flight := some ⟨1000, 99990⟩ }

/-- A channel at rest in a state. -/
def resting (state : ChanState) : Channel := { Channel.idle with state := state }

/-- The part with a watch of station 2, its settings and its state. -/
def watching (w : WatchCfg) (x : Watch) (s : State) : State :=
  { s with
    store := { s.store with running := { s.store.running with watches := s.store.running.watches.set 2 w } }
    watchUnit := { s.watchUnit with watches := s.watchUnit.watches.set 2 x, firstPending := false } }

/-- A watch of 2,000 m with 200 m of hysteresis, by its delays, latch and HOLD action. -/
def watchBy (make brk : Nat) (latch hold : Bool) : WatchCfg :=
  ⟨true, .distance, 2000, 200, make, brk, latch, true, ⟨hold, true, false⟩⟩

/-- The part with one trap in a state, a step in hand and one lapsed. -/
def trapped (t : TrapId) (state : TrapState) (step : Option StepInHand) (lapsed : Option LapsedStep) : State :=
  loaded.setTrap t ⟨state, step, lapsed, some ⟨10, none⟩, some ⟨50, none⟩⟩

/-- The part with the record of valve 2 written. -/
def valved (v : Valve) : State := loaded.setValve 2 v

/-- What a command leaves. -/
def after (i : Instr) (s : State) : State :=
  match exec i s with
  | .next t => t
  | .fault _ => s
  | .refused _ => s

/-- What a command answers. -/
def answer (i : Instr) (s : State) : Option Answer := (after i s).reply.map (·.answer)

/-! ## Ill-formed terms are refused (WellFormed) -/

theorem test_wf_profile : [
    Instr.defineLine 0 (some ⟨256, 1000⟩), .defineLine 0 (some ⟨2, 4294967296⟩),
    .defineStation 0 (some ⟨256, 0, none, none⟩), .defineStation 0 (some ⟨0, 4294967296, none, none⟩),
    .defineStation 0 (some ⟨0, 0, some 65536, none⟩), .defineStation 0 (some ⟨0, 0, none, some 65536⟩),
    .defineReach 0 (some ⟨256, 50, none, none⟩), .defineReach 0 (some ⟨0, 65536, none, none⟩),
    .defineReach 0 (some ⟨0, 50, some 65536, none⟩), .defineReach 0 (some ⟨0, 50, none, some 65536⟩),
    .defineSignaller 0 (some ⟨256, none⟩), .defineSignaller 0 (some ⟨0, some ⟨.remote, 4294967296, none, none⟩⟩),
    .defineSignaller 0 (some ⟨0, some ⟨.remote, 60, none, some 65536⟩⟩),
    .defineTracking 0 (some ⟨65536, none, none⟩), .defineTracking 0 (some ⟨2, some 65536, none⟩),
    .defineTracking 0 (some ⟨2, none, some 256⟩),
    .defineTrap 0 (some ⟨.launch, [(.ventLimit, 65536)]⟩),
    .defineTrap 0 (some ⟨.launch, List.replicate 11 (.ventLimit, 20)⟩),
    .defineMaster 0 (some ⟨256, .link⟩), .readProfile 0 (some (.station 256)), .decodeChainage 0 (some 4294967296)
  ].all (fun i => !i.wf) = true := by decide

theorem test_wf_register_and_tracker : [
    Instr.readPig 0 (some 256), .cursorSet 0 (some ⟨.hold, some 256⟩), .setRatio 0 (some ⟨256, 0⟩),
    .setRatio 0 (some ⟨1, 65536⟩), .writeOff 0 (some 256), .confirm 0 (some ⟨256, 0⟩),
    .confirm 0 (some ⟨1, 4294967296⟩), .reportFlow 0 (some ⟨256, 0, false⟩), .reportFlow 0 (some ⟨0, 65536, false⟩),
    .readFlow 0 (some (some 256)), .queryEta 0 (some ⟨256, 0⟩), .queryEta 0 (some ⟨1, 4294967296⟩)
  ].all (fun i => !i.wf) = true := by decide

theorem test_wf_intake_channels_and_fixes : [
    Instr.reportPassage 0 (some ⟨256, 0, 0, none⟩), .reportPassage 0 (some ⟨0, 65536, 0, none⟩),
    .reportPassage 0 (some ⟨0, 0, 4294967296, none⟩), .reportPassage 0 (some ⟨0, 0, 0, some 65536⟩),
    .readIntake 0 (some (.entry 256)), .resetFlag 0 (some 256),
    .setChannelMode 0 (some ⟨256, .off, none, none, none, none, none⟩),
    .setChannelMode 0 (some ⟨0, .pulse, some 256, none, none, none, none⟩),
    .setChannelMode 0 (some ⟨0, .pulse, none, some 65536, none, none, none⟩),
    .setChannelMode 0 (some ⟨0, .pulse, none, none, some 65536, none, none⟩),
    .setChannelMode 0 (some ⟨0, .pulse, none, none, none, some 65536, none⟩),
    .setChannelMode 0 (some ⟨0, .pulse, none, none, none, none, some 65536⟩), .readChannel 0 (some 256),
    .setSignallerService 0 (some ⟨256, .out⟩), .assignPassage 0 (some ⟨256, 0, 1⟩),
    .assignPassage 0 (some ⟨0, 65536, 1⟩), .assignPassage 0 (some ⟨0, 0, 256⟩), .discardPassage 0 (some ⟨256, 0⟩),
    .discardPassage 0 (some ⟨0, 65536⟩), .readMatching 0 (some (.unmatched 256)), .pairAEdge 1 0, .pairBEdge 3 0,
    .pairIncomplete 5 0, .guardExpiry 7 0
  ].all (fun i => !i.wf) = true := by decide

theorem test_wf_valves_watches_traps_and_port : [
    Instr.reportValve 0 (some ⟨256, .opened⟩), .setHold 0 (some 256), .releaseHold 0 (some 256),
    .clearHolds 0 (some (some 256)), .requestStroke 0 (some ⟨256, .toOpen⟩), .strokeDone 0 (some ⟨256, .opened⟩),
    .notifyForcedStroke 0 (some ⟨256, .toOpen⟩), .readValve 0 (some (some 256)),
    .setWatch 0 (some ⟨256, none, none, none, none, none, none, none, none, none⟩),
    .setWatch 0 (some ⟨0, none, none, some 65536, none, none, none, none, none, none⟩),
    .setWatch 0 (some ⟨0, none, none, none, some 65536, none, none, none, none, none⟩),
    .setWatch 0 (some ⟨0, none, none, none, none, some 65536, none, none, none, none⟩),
    .setWatch 0 (some ⟨0, none, none, none, none, none, some 65536, none, none, none⟩),
    .acknowledgeWatch 0 (some 256), .readWatch 0 (some 256), .reportPressure 0 (some ⟨.launch, some 65536, none⟩),
    .reportPressure 0 (some ⟨.launch, none, some 65536⟩), .stagePig 0 (some ⟨.foam, some 65536⟩),
    .removePig 0 (some ⟨.launch, 256⟩), .setLineTime 0 (some (some 4294967296)), .unknownCommandCode 0 50,
    .unknownCommandCode 0 256, .frameDropped []
  ].all (fun i => !i.wf) = true := by decide

/-! ## Frames (R174 to R177, R187): bytes worked by hand, CRCs by the published check value of CRC-16/CCITT-FALSE -/

theorem test_crc_check_value : crc16 [0x31#8, 0x32#8, 0x33#8, 0x34#8, 0x35#8, 0x36#8, 0x37#8, 0x38#8, 0x39#8] = 0x29B1#16 := by
  decide +kernel

theorem test_frame_set_hold : decodeFrame [0xC3#8, 0x40#8, 0x1D#8, 0x01#8, 0x03#8, 0xE8#8, 0x3C#8] =
    some (.setHold 2 (some 3)) := by decide +kernel

theorem test_frame_report_flow : decodeFrame
    [0xC3#8, 0x20#8, 0x10#8, 0x04#8, 0x02#8, 0x17#8, 0x70#8, 0x00#8, 0x2F#8, 0x78#8] =
    some (.reportFlow 1 (some ⟨2, 6000, false⟩)) := by decide +kernel

theorem test_frame_restart : decodeFrame [0xC3#8, 0x00#8, 0x32#8, 0x00#8, 0xAF#8, 0x6B#8] =
    some (.restart 0 (some ())) := by decide +kernel

/-- DONE (1) with the attention mark (bit 7), no reason, one byte of data, and master 2 in the hold set. -/
theorem test_reply_bytes : (Reply.body ⟨2, .done (.holdSet 0x04#7), true, false⟩) =
    [0x81#8, 0x00#8, 0x01#8, 0x04#8] := by decide

/-! ## Steps -/

theorem test_step_takes_the_front :
    step { part with pending := [.setHold 2 (some 3), .powerLoss] } =
      exec (.setHold 2 (some 3)) { part with pending := [.powerLoss] } := rfl

theorem test_step_idles : step part = .next part := rfl

/-! ## The profile -/

theorem test_define_line : (after (.defineLine 0 (some ⟨2, 1000⟩)) State.reset).profile.line = some ⟨2, 1000⟩ ∧
    (after (.defineLine 0 (some ⟨2, 1000⟩)) State.reset).store.writing = some .first := by decide

theorem test_define_station_keeps_width :
    (after (.defineStation 0 (some ⟨1, 14900, none, some 90⟩)) part).profile.station? 1 = some ⟨14900, 200, 90⟩ := by
  decide

theorem test_define_station_too_near : answer (.defineStation 0 (some ⟨1, 499, none, none⟩)) part =
    some (.refused .range .nothing) := by decide

theorem test_define_reach_keeps_times :
    (after (.defineReach 0 (some ⟨2, 9600, none, none⟩)) part).profile.reach? 2 = some ⟨9600, 900, 120⟩ := by decide

theorem test_define_signaller_locked : answer (.defineSignaller 0 (some ⟨5, none⟩)) loaded =
    some (.refused .locked .nothing) := by decide

theorem test_define_signaller_removes :
    (after (.defineSignaller 0 (some ⟨5, none⟩)) part).profile.signaller? 5 = none := by decide

theorem test_define_tracking : (after (.defineTracking 0 (some ⟨4, none, none⟩)) part).profile.tracking = ⟨4, 10, 4⟩ := by
  decide

theorem test_define_trap : ((after (.defineTrap 0 (some ⟨.launch, [(.driveTime, 400)]⟩)) part).profile.launch).driveTime = 400 ∧
    answer (.defineTrap 0 (some ⟨.receive, [(.driveTime, 400)]⟩)) part = some (.refused .range .nothing) := by decide

theorem test_define_master : ((after (.defineMaster 0 (some ⟨5, .trap⟩)) part).context 5).cls = .trap := by decide

theorem test_define_master_keeps_a_service : answer (.defineMaster 0 (some ⟨0, .link⟩)) part =
    some (.refused .range .nothing) := by decide

theorem test_read_profile : answer (.readProfile 5 (some .line)) part = some (.done (.lineItem ⟨6, 68900⟩)) := by decide

theorem test_decode_chainage_zone : answer (.decodeChainage 5 (some 27400)) part =
    some (.done (.region (.valveZone 2) 27400 false (some 2))) := by decide

theorem test_decode_chainage_beyond_the_end : answer (.decodeChainage 5 (some 70000)) part =
    some (.done (.region .receiveTrap 68900 true none)) := by decide

theorem test_store_write_complete :
    (after .storeWriteComplete { part with store := { part.store with writing := some .second } }).store.currentImage =
      some .second := by decide

/-! ## The register -/

theorem test_read_pig_absent : answer (.readPig 5 (some 9)) loaded = some (.refused .noSuch .nothing) := by decide

theorem test_read_pig : answer (.readPig 5 (some 3)) loaded = some (.done (.pig
    ⟨3, .foam, .staged, 850, .learnt, .launchBarrel, 3, 3, none, 0, 0, none, none, none, none, none, PigFlags.none⟩)) := by
  decide

theorem test_cursor_set : ((after (.cursorSet 5 (some ⟨.towardLaunch, none⟩)) loaded).context 5).cursorTag = some 2 := by
  decide

theorem test_cursor_read : ((after (.cursorRead 5 (some ()))
    (loaded.setContext 5 { loaded.context 5 with cursorTag := some 2, cursorMode := .towardLaunch })).context 5).cursorTag =
      some 1 := by decide

theorem test_cursor_read_end : answer (.cursorRead 5 (some ())) loaded = some .endOfView := by decide

theorem test_set_ratio_clamps : answer (.setRatio 2 (some ⟨1, 1500⟩)) loaded = some (.done (.ratioHeld 1000 .manual)) := by
  decide

theorem test_write_off : (after (.writeOff 2 (some 1)) loaded).register.view.map (·.tag) = [2, 3] := by decide +kernel

theorem test_confirm_keeps_the_separation : answer (.confirm 2 (some ⟨1, 30000⟩))
    (loaded.setInLine [pig 2 26000000, { pig 1 20000000 with status := .stalled }]) =
      some (.done (.placed 25999 true)) := by decide

/-! ## The tracker -/

theorem test_report_flow_reverse : answer (.reportFlow 1 (some ⟨1, 500, true⟩)) loaded =
    some (.done (.flowTaken 0 .lapsed)) := by decide

/-- 6,000 × 25,000 / (9 × 11,310) = 1,473.6 mm/s (R48). -/
theorem test_read_flow : answer (.readFlow 5 (some (some 1))) flowing =
    some (.done (.flowEntry ⟨6000, false, some 99990, .fresh⟩ 6000 none 11310 1473)) := by decide +kernel

/-- 7,300,000 mm at 1,400 mm/s is 5,214.3 s, rounded up (R59). -/
theorem test_query_eta : answer (.queryEta 5 (some ⟨1, 27300⟩)) loaded =
    some (.done (.eta (some 5215) 7300 1400 27300 false .running)) := by decide

/-- 1,473 × 950 / 1,000 = 1,399 mm/s over 2 s (R49, R50). -/
theorem test_tracker_update :
    (after .trackerUpdate { flowing with clock := ⟨some 100020, flowing.clock.record⟩ }).register.inLine.map
      (fun p => (p.position, p.fluid, p.speed)) = [(26002798, 5002946, 1399), (20002798, 5002946, 1399)] := by decide

theorem test_tracker_update_not_due : (after .trackerUpdate flowing).register = flowing.register := by decide

/-! ## Report intake -/

theorem test_report_passage : answer (.reportPassage 1 (some ⟨3, 8, 99990, some 1500⟩)) loaded =
    some (.accepted (.accepted 1 false 1 0 false)) := by decide

/-- Signaller 3 and number 7 wait already: another report of that name is a duplicate (R62). -/
theorem test_report_passage_waiting : (after (.reportPassage 1 (some ⟨3, 7, 99991, none⟩))
    (waiting 3 99990)).intake.entries = [⟨3, 7, 99990, none, .master 1⟩] := by decide

theorem test_report_passage_stale : answer (.reportPassage 1 (some ⟨3, 8, 63999, none⟩)) loaded =
    some (.refused .stale .nothing) := by decide

theorem test_read_intake : answer (.readIntake 5 (some (.entry 1))) (waiting 3 99990) =
    some (.done (.intakeEntry ⟨3, 7, 99990, none, .master 1⟩ 100090)) := by decide

/-- The fix of a pig 1,200 m short of the signaller, with no flow: it stands at the signaller (R97, R98). -/
theorem test_entry_due_fix : (after .entryDue (waiting 3 99880)).register.inLine.map
    (fun p => (p.position, p.lastFix, p.error)) = [(41200000, some ⟨3, 41200000, 99880⟩, some (-1200000))] := by decide +kernel

theorem test_entry_due_stray : ((after .entryDue (waiting 9 99880)).fixUnit.unmatched).map (fun e => (e.signaller, e.reason)) =
    [(9, .stray)] := by decide

/-! ## Local channels -/

theorem test_set_channel_mode : ((after (.setChannelMode 0 (some ⟨0, .contact, some 1, none, none, none, none⟩)) part).channel
    0).state = .armed := by decide

theorem test_read_channel : answer (.readChannel 5 (some 0)) (channelled 0 (setting .contact 1) (resting .armed)) =
    some (.done (.channelRecord (setting .contact 1) none .armed false none none none 0 0 0 0)) := by decide

theorem test_reset_flag : answer (.resetFlag 3 (some 0)) (channelled 0 (setting .contact 1) (resting .tripped)) =
    some (.done (.flagState .armed false)) := by decide

/-- A contact that is still closed stays TRIPPED, and the refusal carries that (R81). -/
theorem test_reset_flag_closed : answer (.resetFlag 3 (some 0))
    (active (channelled 0 (setting .contact 1) (resting .tripped))) = some (.refused .state (.flagState .tripped true)) := by
  decide

theorem test_contact_leading_edge :
    ((after (.contactLeadingEdge 0 1000) (channelled 0 (setting .contact 1) (resting .armed))).channel 0).state =
      .measuring := by decide

/-- A contact that reads closed already, after a RESTART say, starts nothing (R79). -/
theorem test_contact_leading_edge_active :
    ((after (.contactLeadingEdge 0 1000) (active (channelled 0 (setting .contact 1) (resting .armed)))).channel 0).state =
      .armed := by decide

theorem test_contact_bounce :
    ((after (.contactBounce 0 1049) (channelled 0 (setting .contact 1) (timing .measuring))).channel 0).noise = 1 := by
  decide

theorem test_contact_closure :
    (after (.contactClosure 0 1050) (channelled 0 (setting .contact 1) (timing .measuring))).intake.entries =
      [⟨1, 0, 99990, none, .channel 0⟩] := by decide

theorem test_pulse_leading_edge :
    ((after (.pulseLeadingEdge 0 1000) (channelled 0 (setting .pulse 1) (resting .armed))).channel 0).flight =
      some ⟨1000, 100000⟩ := by decide

/-- A pulse of 1,000 ms: its centre lies 500 ms, 5 tenths, before its end (R82). -/
theorem test_pulse_trailing_edge :
    (after (.pulseTrailingEdge 0 2000) (channelled 0 (setting .pulse 1) (timing .measuring))).intake.entries.map (·.time) =
      [99995] := by decide

theorem test_pulse_fault :
    ((after (.pulseFault 0 3001) (channelled 0 (setting .pulse 1) (timing .measuring))).channel 0).state = .fault := by
  decide

theorem test_pulse_fault_end :
    ((after (.pulseFaultEnd 0 4000) (channelled 0 (setting .pulse 1) (timing .fault))).channel 0).measurement =
      some (.pulse 3000) := by decide

theorem test_pair_a_edge :
    ((after (.pairAEdge 0 1000) (channelled 0 (setting .pair 1) (resting .armed))).channel 0).state = .measuring := by
  decide

/-- 1,000 mm in 500 ms is 2,000 mm/s (R85). -/
theorem test_pair_b_edge :
    (after (.pairBEdge 0 1500) (channelled 0 (setting .pair 1) (timing .measuring))).intake.entries =
      [⟨1, 0, 100000, some 2000, .channel 0⟩] := by decide +kernel

theorem test_pair_b_edge_reverse :
    ((after (.pairBEdge 0 1500) (channelled 0 (setting .pair 1) (resting .armed))).channel 0).reverse = 1 := by decide

theorem test_pair_incomplete :
    (after (.pairIncomplete 0 11000) (channelled 0 (setting .pair 1) (timing .measuring))).intake.entries =
      [⟨1, 0, 99990, none, .channel 0⟩] := by decide

theorem test_guard_expiry :
    ((after (.guardExpiry 0 11000) (channelled 0 (setting .pair 1) (timing .guard))).channel 0).state = .armed := by decide

/-! ## The fix unit's commands -/

/-- The part with one unmatched passage at signaller 3 and the pig that it fits. -/
def unmatched : State := { part.setInLine [nearing] with fixUnit := ⟨[⟨3, 7, 99880, .earlySoft, none, 99990⟩], 0⟩ }

theorem test_set_signaller_service :
    ((after (.setSignallerService 2 (some ⟨3, .out⟩)) part).runtime 3).service = .out := by decide

/-- 13,900,000 mm over 5,000,000 mm of fluid is clamped to 1,000; (950 × 12 + 1,000 × 4 + 8) / 16 = 963 (R104). -/
theorem test_assign_passage : answer (.assignPassage 2 (some ⟨3, 7, 2⟩)) unmatched =
    some (.done (.assigned 41200 963 .learnt .running)) := by decide +kernel

theorem test_assign_passage_interlock : answer (.assignPassage 2 (some ⟨3, 7, 3⟩))
    (unmatched.setRegister { unmatched.register with launchBarrel := [staged 3] }) =
      some (.refused .interlock .nothing) := by decide

theorem test_discard_passage : answer (.discardPassage 2 (some ⟨3, 7⟩)) unmatched = some (.done (.entriesLeft 0)) := by
  decide

theorem test_read_matching : answer (.readMatching 5 (some (.signaller 3))) unmatched =
    some (.done (.serviceRecord .inService 0 0 (some 2))) := by decide

/-! ## Line valves -/

theorem test_report_valve : answer (.reportValve 1 (some ⟨2, .closed⟩)) loaded = some (.done (.valveTaken .opened false)) := by
  decide

theorem test_set_hold_drops_the_contact : (after (.setHold 2 (some 3)) loaded).valves[(3 : Fin 16)] =
    ⟨.opened, 0x04#7, none, none, none, false⟩ := by decide

theorem test_release_hold : answer (.releaseHold 2 (some 2)) (valved ⟨.opened, 0x06#7, none, none, none, false⟩) =
    some (.done (.holdSet 0x02#7)) := by decide

theorem test_clear_holds : answer (.clearHolds 2 (some none)) (valved ⟨.opened, 0x06#7, none, none, none, false⟩) =
    some (.done (.emptied 1)) := by decide

/-- 60 s of stroke and 30 s of margin (R127, R128). -/
theorem test_request_stroke : answer (.requestStroke 1 (some ⟨3, .toClose⟩)) loaded = some (.done (.expiry 100900)) := by
  decide

/-- A pig at the zone start is in the zone for CLOSE (R126). -/
theorem test_request_stroke_zone : answer (.requestStroke 1 (some ⟨2, .toClose⟩))
    (loaded.setInLine [pig 2 27100000]) = some (.refused .interlock (.strokeInterlock .zone 2 none)) := by decide

theorem test_stroke_done : (after (.strokeDone 1 (some ⟨2, .closed⟩))
    (valved ⟨.opened, 0#7, some ⟨1, .toClose, 100500⟩, none, none, true⟩)).valves[(2 : Fin 16)].position = .closed := by
  decide

theorem test_stroke_done_late : answer (.strokeDone 1 (some ⟨2, .closed⟩))
    (valved ⟨.unknown, 0#7, none, some ⟨1, .toClose⟩, none, true⟩) = some (.late .nothing) := by decide

theorem test_notify_forced_stroke : ((after (.notifyForcedStroke 1 (some ⟨2, .toClose⟩))
    (loaded.setInLine [pig 2 27200000])).register.inLine.map (·.flags.struck)) = [true] := by decide

theorem test_read_valve : answer (.readValve 5 (some (some 2))) loaded = some (.done
    (.valveRecord ⟨.opened, 0#7, none, none, none, true⟩ 60 27100 27500 90)) := by decide

theorem test_permit_expiry : (after (.permitExpiry 2)
    (valved ⟨.moving, 0#7, some ⟨1, .toClose, 100000⟩, none, none, true⟩)).valves[(2 : Fin 16)].lapsed =
      some ⟨1, .toClose⟩ := by decide

/-! ## Approach watches -/

/-- The watch of station 2 sees the pig at 26,000 m, 1,300 m short: the make condition holds at 2,000 m (R141, R143). -/
theorem test_set_watch_makes : ((after (.setWatch 2 (some ⟨2, some true, none, none, none, none, none, none, none,
    some ⟨true, false, false⟩⟩)) loaded).watchUnit.watches[(2 : Fin 16)]).state = .made ∧
    ((after (.setWatch 2 (some ⟨2, some true, none, none, none, none, none, none, none,
      some ⟨true, false, false⟩⟩)) loaded).valves[(2 : Fin 16)]).hold = 0x40#7 := by decide

theorem test_acknowledge_watch : answer (.acknowledgeWatch 2 (some 2))
    (watching (watchBy 0 0 true false) ⟨.latched, none, none, none, none⟩ part) = some (.done (.watchState .clear)) := by
  decide

/-- A refusal of a watch that is not LATCHED carries the state it is left in (R149). -/
theorem test_acknowledge_watch_refused : answer (.acknowledgeWatch 2 (some 2))
    (watching (watchBy 0 0 true false) ⟨.inhibited, none, none, none, none⟩ part) =
      some (.refused .state (.watchState .inhibited)) := by decide

theorem test_read_watch : answer (.readWatch 5 (some 2)) part = some (.done (.watchRecord Watch.off false)) := by decide

theorem test_watch_delay_expiry : ((after (.watchDelayExpiry 2)
    (watching (watchBy 5 5 true false) ⟨.making, some 2, none, some ⟨99950, 100000⟩, none⟩ loaded)).watchUnit.watches[(2 :
      Fin 16)]).state = .made := by decide

/-! ## Traps -/

theorem test_report_pressure : answer (.reportPressure 3 (some ⟨.launch, some 30, none⟩)) (trapped .launch .vented none none) =
    some (.done (.pressures (some 30) (some 50) (some 20))) := by decide

theorem test_trap_step : answer (.trapStep 3 (some ⟨.launch, .openDoor⟩)) (trapped .launch .vented none none) =
    some (.done (.deadline 103000)) := by decide

theorem test_trap_step_pressure : answer (.trapStep 3 (some ⟨.launch, .openDoor⟩))
    (loaded.setTrap .launch ⟨.vented, none, none, some ⟨21, none⟩, none⟩) =
      some (.refused .interlock (.stepInterlock .pressure none)) := by decide

theorem test_trap_done : answer (.trapDone 3 (some ⟨.launch, .drive⟩))
    (trapped .launch .linedUp (some ⟨.drive, 3, 100500⟩) none) = some (.done (.trapState .driving)) := by decide

theorem test_trap_done_not_owner : answer (.trapDone 1 (some ⟨.launch, .drive⟩))
    (trapped .launch .linedUp (some ⟨.drive, 3, 100500⟩) none) = some (.refused .notOwner (.trapState .linedUp)) := by decide

theorem test_trap_done_overdue_deadline : (after (.trapDone 3 (some ⟨.launch, .drive⟩))
    (trapped .launch .linedUp (some ⟨.drive, 3, 100500⟩) none)).traps.launchOverdue = some 106000 := by decide

theorem test_stage_pig : answer (.stagePig 3 (some ⟨.sphere, none⟩)) (trapped .launch .doorOpen none none) =
    some (.done (.staged 4 980 .learnt 2)) := by decide

theorem test_remove_pig : answer (.removePig 3 (some ⟨.launch, 3⟩)) (trapped .launch .doorOpen none none) =
    some (.done (.removed 0 2)) := by decide +kernel

theorem test_recover_trap : ((after (.recoverTrap 2 (some ⟨.receive, .vented⟩))
    (trapped .receive .unknown none none)).trap .receive).state = .vented := by decide

theorem test_read_trap : answer (.readTrap 5 (some .launch)) (trapped .launch .vented none none) =
    some (.done (.launchRecord ⟨.vented, none, none, some ⟨10, none⟩, some ⟨50, none⟩⟩ [3] none)) := by decide

theorem test_trap_step_deadline : ((after (.trapStepDeadline .launch)
    (trapped .launch .vented (some ⟨.fill, 3, 100000⟩) none)).trap .launch).state = .unknown := by decide

theorem test_launch_overdue : ((after .launchOverdue (loaded.setLaunchOverdue (some 100000))).port.detail[(13 : Fin 16)]).count =
    1 := by decide

/-! ## The port -/

theorem test_read_attention : answer (.readAttention 5 (some none)) part =
    some (.done (.attention 1#16 0#16 false none 0 none)) := by decide

theorem test_acknowledge_attention : answer (.acknowledgeAttention 5 (some 1#16)) part =
    some (.done (.attentionSet 0#16 false)) := by decide

theorem test_set_enables : answer (.setEnables 5 (some 1#16)) part = some (.done (.attentionSet 1#16 true)) := by decide

theorem test_class_refused : answer (.setHold 3 (some 2)) part = some (.refused .cls .nothing) := by decide

theorem test_unknown_command_code : ((after (.unknownCommandCode 5 77) part).context 5).lastRefusal =
    some ⟨77, .range, some 100000⟩ := by decide

theorem test_frame_dropped : (after (.frameDropped [0x41#8]) part).port.lastDrop = some .malformed := by decide

theorem test_byte_gap_timeout : (after .byteGapTimeout part).port.dropCount = 1 := by decide

/-! ## Line time, restart and power -/

theorem test_set_line_time_first : answer (.setLineTime 2 (some (some 100000))) fresh =
    some (.done (.clock (some 100000) true ⟨.powerOnRetentionLost, none, some 100000⟩)) := by decide +kernel

theorem test_set_line_time_back : answer (.setLineTime 2 (some (some 99999))) part =
    some (.refused .state .nothing) := by decide

theorem test_restart : answer (.restart 0 (some ())) part = some (.done (.restarted ⟨.commanded, some 100000, none⟩)) := by
  decide +kernel

theorem test_power_on_unverifies : ((after (.powerOn true true true) loaded).register.inLine.map (·.status)) =
    [.unverified, .unverified] := by decide

theorem test_power_on_retention_lost : (after (.powerOn true true false) loaded).register = ⟨[], [], [], 1⟩ := by decide

theorem test_power_loss : ((after .powerLoss part).valves[(2 : Fin 16)]).contact = false := by decide

theorem test_line_time_advance : (after .lineTimeAdvance part).now = some 100001 := by decide

theorem test_line_time_stops : (after .lineTimeAdvance { part with clock := ⟨some 4294967295, part.clock.record⟩ }).now =
    some 4294967295 := by decide

/-! ## Witnesses: for each statement with hypotheses, a state and operands that meet them, clause by clause, at the bounds of
their ranges -/

theorem able_intro {s : State} {m : Master} {l : List MasterClass}
    (h : (s.powered && l.contains (s.context m).cls && s.profile.complete) = true) : s.able m l := by
  simp only [Bool.and_eq_true, List.contains_iff_mem] at h
  exact ⟨h.1, h.2⟩

theorem serves_intro {s : State} {m : Master} {l : List MasterClass}
    (h : (s.powered && l.contains (s.context m).cls) = true) : s.serves m l := by
  simp only [Bool.and_eq_true, List.contains_iff_mem] at h
  exact h

/-- The part with its line undefined. -/
def undefinedLine : State := part.setStore { part.store with running := { profile with line := none } }

/-- The part with station 3 and reach 4 undefined. -/
def withGaps : State := part.setStore { part.store with
  running := { profile with stations := profile.stations.set 3 none, reaches := profile.reaches.set 4 none } }

/-- The part without power. -/
def dark : State := { part with powered := false }

theorem witness_StepTakesTheFront :
    ({ part with pending := [.powerLoss] } : State).pending = .powerLoss :: [] ∧ part.pending = [] := ⟨rfl, rfl⟩

theorem witness_CheckedFramesAreRequests : ([] : List Byte).length ≤ 32 ∧ (List.replicate 32 0#8).length ≤ 32 := by decide

theorem witness_FramesAreDropped : 0x41#8 &&& 0x1F#8 ≠ 0#8 ∧ (0xA0#8 &&& 0x1F#8 = 0#8 ∧ 32 < (33#8).toNat) ∧
    (0xA0#8 &&& 0x1F#8 = 0#8 ∧ (0xA0#8).toNat < 192) ∧ (0xC0#8 &&& 0x1F#8 = 0#8 ∧ 192 ≤ (0xC0#8).toNat) ∧
    (List.replicate 32 0#8).length ≤ 32 ∧ part.powered = true ∧ dropCause [0x41#8] = some .malformed := by decide

theorem witness_PortRefuses : Instr.request (.setHold 3 (some 2)) = some (3, .setHold) ∧ part.powered = true ∧
    Command.setHold ∉ openToAll ∧ Command.setHold ∉ openToClass (part.context 3).cls ∧
    (Instr.request (.setHold 2 (some 2)) = some (2, .setHold) ∧ undefinedLine.powered = true ∧
      Command.setHold ∈ openToClass (undefinedLine.context 2).cls ∧ undefinedLine.profile.complete = false ∧
      Command.setHold ∉ [Command.defineLine, .defineStation, .defineReach, .defineSignaller, .defineTracking, .defineTrap,
        .defineMaster, .setWatch, .setChannelMode, .readProfile, .decodeChainage, .restart, .setLineTime,
        .readAttention, .acknowledgeAttention, .setEnables]) := by decide

theorem witness_NothingHappensWithoutPower : dark.powered = false ∧ Instr.trackerUpdate ≠ .powerLoss ∧
    exec .trackerUpdate dark = .next (dark.setReply none) := ⟨rfl, by decide, rfl⟩

theorem witness_AttentionCommands : part.powered = true := rfl

theorem witness_HoldCommands :
    (part.context 3).cls ∉ [MasterClass.dispatch, .link] ∧
    ((undefinedLine.context 2).cls ∈ [MasterClass.dispatch, .link] ∧ undefinedLine.profile.complete = false) ∧
    part.profile.count ≤ 6 ∧ (5 < part.profile.count ∧ (5 : Fin 16).val = 5) ∧
    part.valves[(5 : Fin 16)].hold.getLsbD 2 = false ∧
    (valved ⟨.opened, 0x04#7, none, none, none, false⟩).valves[(2 : Fin 16)].hold.getLsbD 2 = true := by decide

theorem witness_HoldCommands_able : part.able 2 [.dispatch, .link] := able_intro (by decide)

theorem witness_ClearHoldsCommand : (part.context 1).cls ≠ .dispatch ∧
    ((undefinedLine.context 2).cls = .dispatch ∧ undefinedLine.profile.complete = false) ∧ part.profile.count ≤ 6 ∧
    (5 : Fin 16).val < part.profile.count := by decide

theorem witness_ClearHoldsCommand_able : part.able 2 [.dispatch] := able_intro (by decide)

theorem witness_ReadsChangeNothing : Instr.request (.readPig 5 (some 3)) = some (5, .readPig) ∧ part.powered = true ∧
    Command.readPig ∈ [Command.readProfile, .decodeChainage, .readPig, .readFlow, .queryEta, .readIntake, .readChannel,
      .readMatching, .readValve, .readWatch, .readTrap, .readAttention] := by decide

theorem witness_ReadProfileAnswers : part.powered = true ∧ part.store.writing = none ∧
    part.profile.line = some ⟨6, 68900⟩ ∧ (5 < part.profile.count ∧ part.profile.station? 5 = some ⟨68900, 200, 60⟩) ∧
    (4 + 1 < part.profile.count ∧ part.profile.reach? 4 = some ⟨11310, 900, 120⟩) ∧
    part.profile.signaller? 6 = some ⟨.remote, 68900, .firm, 2000⟩ ∧
    (undefinedLine.store.writing = none ∧ undefinedLine.profile.line = none ∧ 15 ≤ 15 ∧ 14 ≤ 14 ∧
      undefinedLine.profile.count ≤ 16 ∧ 15 < 16 ∧ undefinedLine.profile.count ≤ 15 + 1 ∧ 14 < 15) ∧
    part.profile.count ≤ 6 ∧ part.profile.line ≠ none ∧ part.profile.count ≤ 5 + 1 ∧
    (withGaps.store.writing = none ∧ 3 < withGaps.profile.count ∧ withGaps.profile.station? 3 = none ∧
      4 + 1 < withGaps.profile.count ∧ withGaps.profile.reach? 4 = none ∧ withGaps.profile.line ≠ none) ∧
    (31 ≤ 31 ∧ part.profile.signaller? 31 = none) ∧ 31 < 32 := by decide

theorem witness_TableReadsAnswer : loaded.powered = true ∧ loaded.profile.complete = true ∧
    (loaded.register.find 3 = some (staged 3)) ∧
    ((4 : Fin 15).val + 1 < loaded.profile.count ∧ loaded.profile.reach? 4 = some ⟨11310, 900, 120⟩) ∧
    ((waiting 3 99990).intake.entries[0]? = some ⟨3, 7, 99990, none, .master 1⟩) ∧
    (unmatched.fixUnit.unmatched[0]? = some ⟨3, 7, 99880, .earlySoft, none, 99990⟩) ∧
    loaded.profile.signaller? 6 = some ⟨.remote, 68900, .firm, 2000⟩ := by decide

/-- A reach for each cause of READ FLOW: LAPSED, FRESH beside a closed valve, neither, and both. -/
theorem witness_TableReadsAnswer_causes :
    let shut := valved ⟨.closed, 0#7, none, none, none, true⟩
    ((loaded.tracker.flows[(4 : Fin 15)]).state = .lapsed ∧ loaded.valveClosed 4 = false ∧ loaded.valveClosed 5 = false) ∧
    (((shut.setFlow 1 ⟨6000, false, some 99990, .fresh⟩).tracker.flows[(1 : Fin 15)]).state = .fresh ∧
      shut.valveClosed 2 = true) ∧
    ((flowing.tracker.flows[(1 : Fin 15)]).state = .fresh ∧ flowing.valveClosed 1 = false ∧ flowing.valveClosed 2 = false) ∧
    ((shut.tracker.flows[(1 : Fin 15)]).state = .lapsed ∧ 1 + 1 < shut.profile.count) := by decide

theorem witness_UnitReadsAnswer : part.powered = true ∧ part.profile.complete = true ∧
    (5 : Fin 16).val < part.profile.count ∧ part.profile.station? (5 : Fin 16) = some ⟨68900, 200, 60⟩ := by decide

theorem witness_DecodeChainageAnswers : part.powered = true ∧ part.profile.complete = true ∧
    part.profile.signaller? 0 = some ⟨.remote, 60, .firm, 2000⟩ ∧ part.profile.line = some ⟨6, 68900⟩ ∧
    (∀ j ∈ List.range 6, ∀ i ∈ List.range j, (part.profile.station? i).bind (fun a => (part.profile.station? j).map
      (fun b => decide (a.chainage + a.halfWidth + b.halfWidth < b.chainage))) = some true) ∧ 60 ≤ 68900 := by
  decide +kernel

theorem witness_DecodeChainageAnswers_incomplete : undefinedLine.powered = true ∧ 999999 ≤ 999999 ∧
    undefinedLine.profile.complete = false := by decide

/-- A chainage for each clause: beyond all, the line end, the launch trap, both zones of a reach, and the reach itself. -/
theorem witness_DecodeChainageAnswers_clauses : 999999 < 1000000 ∧ 68900 ≤ 68900 ∧ (0 ≤ 0 ∧ 59 < 60) ∧
    (60 ≤ 60 ∧ 60 ≤ 0 + 200) ∧ (60 ≤ 14600 ∧ 14600 < 14800 ∧ 14800 ≤ 14600 + 200) ∧
    (0 + 200 < 201 ∧ 201 + 200 < 14800) := by decide

theorem witness_QueryEtaAnswers : loaded.powered = true ∧ loaded.profile.complete = true ∧
    loaded.register.find 1 = some (pig 1 20000000) ∧ (pig 1 20000000).status ≠ .staged ∧
    (pig 1 20000000).status ≠ .arrived ∧ min 19999 loaded.profile.lineEnd * 1000 < 20000000 ∧
    20000000 ≤ min 20000 loaded.profile.lineEnd * 1000 ∧ (pig 1 20000000).speed ≠ 0 ∧
    (loaded.register.find 3 = some (staged 3) ∧ (staged 3).status = .staged ∧ (staged 3).speed = 0) := by decide

theorem witness_CursorCommands : loaded.powered = true ∧ loaded.profile.complete = true ∧
    loaded.register.find 3 = some (staged 3) ∧ loaded.register.find 0 = none ∧ loaded.register.find 9 = none ∧
    (loaded.context 5).cursorTag = none ∧
    loaded.register.view = [pig 2 26000000] ++ pig 1 20000000 :: [staged 3] ∧
    (∀ q ∈ [pig 2 26000000], q.tag ≠ 1) ∧
    ((loaded.setContext 5 { loaded.context 5 with cursorTag := some 1 }).context 5).cursorTag = some 1 := by decide

theorem witness_RatioAndConfirm : (loaded.register.view.map (·.tag)).Nodup ∧
    loaded.register.inLine = [pig 2 26000000] ++ pig 1 20000000 :: [] ∧ (pig 1 20000000).status ≠ .stalled ∧
    (pig 1 20000000).status ≠ .unverified ∧
    (loaded.setInLine [pig 2 26000000, { pig 1 20000000 with status := .stalled }]).register.inLine =
      [pig 2 26000000] ++ { pig 1 20000000 with status := .stalled } :: [] ∧ staged 3 ∈ loaded.register.launchBarrel := by
  decide

theorem witness_RatioAndConfirm_able : loaded.able 2 [.dispatch] := able_intro (by decide)

theorem witness_RemovalsTakeTheRecord : loaded.register.find 1 = some (pig 1 20000000) ∧
    (loaded.register.find 3 = some (staged 3) ∧ (staged 3).status = .staged) ∧
    (loaded.trap .launch).state ≠ .doorOpen ∧
    (((trapped .launch .doorOpen (some ⟨.closeDoor, 3, 100500⟩) none).trap .launch).state = .doorOpen ∧
      ((trapped .launch .doorOpen (some ⟨.closeDoor, 3, 100500⟩) none).trap .launch).step ≠ none) ∧
    ((trapped .launch .doorOpen none none).trap .launch).step = none ∧
    (∀ p ∈ (trapped .launch .doorOpen none none).barrel .launch, p.tag ≠ 1) ∧
    (∃ p ∈ (trapped .launch .doorOpen none none).barrel .launch, p.tag = 3) := by decide

theorem witness_RemovalsTakeTheRecord_able : (trapped .launch .doorOpen none none).able 3 [.trap, .link] :=
  able_intro (by decide)

theorem witness_StagingMakesTheRecord : RegisterLaw (trapped .launch .doorOpen none none) :=
  ⟨by decide, by decide, by decide, by decide, by decide, by decide, by unfold allStatus; decide,
    by unfold allStatus; decide, by unfold allStatus; decide⟩

theorem witness_StagingMakesTheRecord_room :
    (trapped .launch .doorOpen none none).register.view.length < 12 ∧
    (trapped .launch .doorOpen none none).register.launchBarrel.length < 2 ∧
    ((trapped .launch .doorOpen none none).setRegister ⟨[], [], [staged 3, staged 4], 5⟩).register.launchBarrel.length =
      2 := by decide

theorem witness_FlowReportsAreWritten : (loaded.context 3).cls ∉ [MasterClass.dispatch, .link] ∧
    ((undefinedLine.context 1).cls ∈ [MasterClass.dispatch, .link] ∧ undefinedLine.profile.complete = false) ∧
    unsetLoaded.now = none ∧ loaded.now = some 100000 ∧
    loaded.profile.count ≤ 5 + 1 ∧ ((4 : Fin 15).val = 4 ∧ 4 + 1 < loaded.profile.count) := by decide

theorem witness_FlowReportsAreWritten_able : loaded.able 1 [.dispatch, .link] ∧ unsetLoaded.able 1 [.dispatch, .link] :=
  ⟨able_intro (by decide), able_intro (by decide)⟩

/-- The part at the moment its update timer expires. -/
def atUpdate : State := { flowing with clock := ⟨some 100020, flowing.clock.record⟩ }

theorem witness_UpdatesMovePigsForward : atUpdate.powered = true ∧ atUpdate.now = some 100020 ∧
    atUpdate.tracker.running = true ∧ atUpdate.tracker.deadline = some 100020 ∧
    (∀ p ∈ atUpdate.register.inLine, p.position ≤ atUpdate.profile.lineEnd * 1000) ∧
    atUpdate.profile.reach? 4 = some ⟨11310, 900, 120⟩ ∧ atUpdate.profile.reach? 5 = none ∧
    atUpdate.tracker.flows[(1 : Fin 15)].reportTime = some 99990 ∧
    atUpdate.tracker.flows[(0 : Fin 15)].reportTime = none := by decide

theorem witness_UpdatesMovePigsForward_separated : Separated atUpdate.register.inLine := ⟨by decide, trivial⟩

theorem witness_UpdatesMovePigsForward_fields : OptionalFieldsLaw atUpdate := by
  unfold OptionalFieldsLaw Pig.fieldsFit; decide

/-- A pig that moves, one that reaches its limit, one that stalls, and one that stands. -/
theorem witness_OnePigAtOneUpdate : (pig 1 20000000).status.inLine = true ∧
    (pig 1 20000000).position < (treatPig atUpdate 100020 none (pig 1 20000000)).1.position ∧
    (treatPig atUpdate 100020 none (pig 1 29300000)).1.status = .overdue ∧
    (treatPig atUpdate 109101 none { pig 1 20000000 with status := .overdue, overdueAt := some ⟨2, 100100⟩ }).1.status =
      .stalled ∧
    ({ pig 1 20000000 with status := .unverified } : Pig).status = .unverified ∧
    (treatPig atUpdate 100020 none (pig 1 20000000)).1.status = .running ∧
    (atUpdate.profile.reachAt 5000000 = some 0 ∧ (atUpdate.flowAt 0).state ≠ .fresh) := by decide +kernel

/-- Signaller 2 is the first in service above signaller 1: its window ends at 29,300,000 mm, where an OVERDUE pig stands. -/
theorem witness_OnePigAtOneUpdate_stands : FirstInService atUpdate 14800000 2 ⟨.localInput, 27300, .firm, 2000⟩ ∧
    (27300 + 2000) * 1000 ≤ (pig 1 29300000).position ∧ (pig 1 29300000).lastFix = some ⟨1, 14800000, 99000⟩ :=
  ⟨(nextSignaller_iff _ _ _ _).mp (by decide), by decide, rfl⟩

/-- The position that an OVERDUE pig may move from: below its limit. -/
theorem witness_OnePigAtOneUpdate_moves :
    ∀ n g, FirstInService atUpdate 14800000 n g → ¬ (g.chainage + g.window) * 1000 ≤ (pig 1 29299999).position := by
  intro n g h
  have h2 := (nextSignaller_iff _ _ _ _).mpr h
  rw [show nextSignaller atUpdate 14800000 = some (2, ⟨.localInput, 27300, .firm, 2000⟩) by decide] at h2
  cases h2
  decide

/-- A report in time, one that is due at once, one clamped, and the bounds of the sequence difference. -/
theorem witness_ReportsAreAccepted : loaded.now = some 100000 ∧ 3 ≤ 31 ∧
    loaded.profile.signaller? 3 = some ⟨.remote, 41200, .firm, 2000⟩ ∧ (loaded.runtime 3).service = .inService ∧
    (loaded.runtime 3).lastSequence = none ∧
    ((loaded.setRuntime 3 ⟨.inService, 0, 0, some 5, 0⟩).runtime 3).lastSequence = some 5 ∧
    (6 + 65536 - 5) % 65536 = 1 ∧ (32772 + 65536 - 5) % 65536 = 32767 ∧ 100000 ≤ 64000 + 36000 ∧
    loaded.intake.entries.length < 24 ∧ min (99900 + 10 * 10) 4294967295 ≤ 100000 ∧
    100000 < min (99901 + 10 * 10) 4294967295 ∧ 100000 + 50 < 100051 ∧
    (∀ e ∈ (waiting 3 99990).intake.entries, e.signaller ≠ 3 ∨ e.sequence ≠ 8) := by decide

theorem witness_ReportsAreAccepted_able : loaded.able 1 [.link, .trap] := able_intro (by decide)

/-- The part with a signaller OUT, one with a last sequence, and one with a full intake list. -/
def outOfService : State := loaded.setRuntime 3 ⟨.out, 0, 0, none, 0⟩
def sequenced : State := loaded.setRuntime 3 ⟨.inService, 0, 0, some 5, 0⟩
def intakeFull : State := loaded.setEntries (List.replicate 24 ⟨3, 7, 99990, none, .master 1⟩)

theorem witness_ReportsAreTurnedAway : unsetLoaded.now = none ∧ loaded.now = some 100000 ∧ 31 < 32 ∧
    (7 ≤ 31 ∧ loaded.profile.signaller? 7 = none) ∧
    loaded.profile.signaller? 1 = some ⟨.localInput, 14800, .firm, 2000⟩ ∧
    loaded.profile.signaller? 3 = some ⟨.remote, 41200, .firm, 2000⟩ ∧ (outOfService.runtime 3).service = .out ∧
    ((sequenced.runtime 3).service = .inService ∧ ¬ (1 ≤ (5 + 65536 - 5) % 65536)) ∧
    ((waiting 3 99990).runtime 3).service = .inService ∧ ((waiting 3 99990).runtime 3).lastSequence = none ∧
    (∃ e ∈ (waiting 3 99990).intake.entries, e.signaller = 3 ∧ e.sequence = 7) ∧
    63999 + 36000 < 100000 ∧ (∀ e ∈ intakeFull.intake.entries, e.signaller ≠ 3 ∨ e.sequence ≠ 8) ∧
    24 ≤ intakeFull.intake.entries.length := by decide

theorem witness_ReportsAreTurnedAway_able : unsetLoaded.able 1 [.link, .trap] ∧ outOfService.able 1 [.link, .trap] ∧
    sequenced.able 1 [.link, .trap] ∧ (waiting 3 99990).able 1 [.link, .trap] ∧ intakeFull.able 1 [.link, .trap] :=
  ⟨able_intro (by decide), able_intro (by decide), able_intro (by decide), able_intro (by decide),
    able_intro (by decide)⟩

/-- STRAY at an undefined signaller; STALE_FIX one tenth before the last fix; EARLY_SOFT a millimetre below the window. -/
def early : State :=
  (part.setInLine [{ nearing with position := 58999999 }]).setEntries [⟨5, 7, 99880, none, .master 1⟩]

theorem witness_DueEntriesGoUnmatched :
    ((waiting 9 99900).now = some 100000 ∧ min (99900 + (waiting 9 99900).profile.tracking.holdBack * 10) 4294967295 ≤ 100000 ∧
      (waiting 9 99900).profile.signaller? 9 = none) ∧
    ((waiting 3 94999).profile.signaller? 3 = some ⟨.remote, 41200, .firm, 2000⟩ ∧
      candidate (waiting 3 94999) 3 = some nearing ∧ nearing.lastFix = some ⟨2, 27300000, 95000⟩ ∧ 94999 < 95000) ∧
    (early.profile.signaller? 5 = some ⟨.remote, 61000, .soft, 2000⟩ ∧
      candidate early 5 = some { nearing with position := 58999999 } ∧ 95000 ≤ 99880 ∧
      58999999 + 2000 * 1000 < 61000 * 1000) := by decide

/-- A passage at signaller 0 with the trap DRIVING. -/
def launching : State :=
  ((loaded.setTrap .launch ⟨.driving, none, none, none, none⟩).setEntries [⟨0, 7, 99900, none, .master 1⟩])

theorem witness_DueEntriesLaunch : launching.powered = true ∧ launching.now = some 100000 ∧
    launching.intake.entries = [⟨0, 7, 99900, none, .master 1⟩] ∧
    min (99900 + launching.profile.tracking.holdBack * 10) 4294967295 ≤ 100000 ∧
    launching.profile.signaller? 0 = some ⟨.remote, 60, .firm, 2000⟩ ∧ launching.traps.launch.state = .driving ∧
    launching.register.launchBarrel = staged 3 :: [] := by decide

/-- A fix in the line, and an arrival with the receive trap LINED_UP. -/
def arriving : State :=
  (((part.setInLine [nearing]).setTrap .receive ⟨.linedUp, none, none, none, none⟩).setEntries
    [⟨6, 7, 99900, none, .master 1⟩])

theorem witness_DueEntriesFix : ((waiting 3 99900).powered = true ∧ (waiting 3 99900).now = some 100000 ∧
      min (99900 + (waiting 3 99900).profile.tracking.holdBack * 10) 4294967295 ≤ 100000 ∧
      (waiting 3 99900).profile.signaller? 3 = some ⟨.remote, 41200, .firm, 2000⟩ ∧
      (waiting 3 99900).profile.isReceive 3 = false ∧ (waiting 3 99900).register.inLine = [] ++ nearing :: [] ∧
      nearing.status.inLine = true ∧ nearing.lastFix = some ⟨2, 27300000, 95000⟩ ∧ 27300000 < 41200 * 1000 ∧
      95000 ≤ 99900) ∧
    (arriving.profile.isReceive 6 = true ∧ arriving.traps.receive.state = .linedUp ∧
      arriving.intake.entries = [⟨6, 7, 99900, none, .master 1⟩] ∧
      arriving.profile.signaller? 6 = some ⟨.remote, 68900, .firm, 2000⟩) := by decide

theorem witness_FixesWriteTheRecord : nearing.lastFix = some ⟨2, 27300000, 95000⟩ ∧ 27300000 < 41200 * 1000 ∧
    100 ≤ nearing.ratio ∧ nearing.ratio ≤ 1000 ∧ part.profile.tracking.weight ≤ 16 ∧ nearing.source = .learnt ∧
    nearing.status ≠ .stalled ∧ nearing.status ≠ .unverified ∧
    nearing.fluid - velocityAt part (41200 * 1000) * (100000 - 99900) / 10 ≠ 0 := by decide +kernel

theorem witness_FixesWriteTheRecord_separated : Separated [pig 2 26000000, pig 1 25999000] ∧
    1000 * [pig 2 26000000, pig 1 25999000].length ≤ 2000 := ⟨⟨by decide, trivial⟩, by decide⟩

/-- A channel on signaller 1: in service, OUT, and with the list full. -/
def contacted (x : ChanState) : State := channelled 0 (setting .contact 1) (timing x)

theorem witness_LocalReportsEnterTheList : (contacted .measuring).profile.channels[(0 : Fin 8)].signaller = some 1 ∧
    ¬ 100000 + 50 < 100050 ∧ 100000 + 50 < 100051 ∧ ((contacted .measuring).runtime 1).lastSequence = none ∧
    min (99900 + (contacted .measuring).profile.tracking.holdBack * 10) 4294967295 ≤ 100000 ∧
    ((contacted .measuring).runtime 1).service = .inService ∧
    (((contacted .measuring).setRuntime 1 ⟨.out, 0, 0, some 65535, 0⟩).runtime 1).service = .out ∧
    100000 ≤ 64000 + 36000 ∧ (contacted .measuring).intake.entries.length < 24 ∧
    100000 < min (99901 + (contacted .measuring).profile.tracking.holdBack * 10) 4294967295 ∧
    (∃ e ∈ ((contacted .measuring).setEntries [⟨1, 0, 99990, none, .channel 0⟩]).intake.entries,
      e.signaller = 1 ∧ e.sequence = 0) ∧ 63999 + 36000 < 100000 ∧
    24 ≤ ((contacted .measuring).setEntries (List.replicate 24 ⟨3, 7, 99990, none, .master 1⟩)).intake.entries.length ∧
    (∀ e ∈ ((contacted .measuring).setEntries (List.replicate 24 ⟨3, 7, 99990, none, .master 1⟩)).intake.entries,
      e.signaller ≠ 1 ∨ e.sequence ≠ 0) := by decide

theorem witness_ContactChannel : (contacted .measuring).powered = true ∧ (contacted .measuring).now = some 100000 ∧
    (contacted .measuring).profile.channels[(0 : Fin 8)].mode = .contact ∧
    (contacted .armed).inputUnit.channels[(0 : Fin 8)].state = .armed ∧
    (contacted .tripped).inputUnit.channels[(0 : Fin 8)].state = .tripped ∧
    (contacted .measuring).inputUnit.channels[(0 : Fin 8)].flight = some ⟨1000, 99990⟩ ∧ 1049 < 1000 + 50 ∧
    1000 + 50 ≤ 1050 ∧ (contacted .tripped).inputUnit.inputs[(0 : Fin 8)] = false ∧
    (contacted .armed).inputUnit.inputs[(0 : Fin 8)] = false ∧
    (active (contacted .tripped)).inputUnit.channels[(0 : Fin 8)].state = .tripped ∧
    (active (contacted .tripped)).inputUnit.inputs[(0 : Fin 8)] = true ∧
    (active (contacted .tripped)).inputUnit.pairEdge[(0 : Fin 8)] = false := by decide

theorem witness_ContactChannel_able : (contacted .tripped).able 3 [.trap, .link, .dispatch] ∧
    (active (contacted .tripped)).able 3 [.trap, .link, .dispatch] := ⟨able_intro (by decide), able_intro (by decide)⟩

theorem witness_PulseChannel :
    let s := fun x => channelled 0 (setting .pulse 1) (timing x)
    (s .armed).profile.channels[(0 : Fin 8)].mode = .pulse ∧
    (s .armed).inputUnit.channels[(0 : Fin 8)].state = .armed ∧ (s .armed).inputUnit.inputs[(0 : Fin 8)] = false ∧
    ((active (s .armed)).inputUnit.inputs[(0 : Fin 8)] = true ∧
      (active (s .armed)).inputUnit.pairEdge[(0 : Fin 8)] = false) ∧
    (s .measuring).inputUnit.channels[(0 : Fin 8)].flight = some ⟨1000, 99990⟩ ∧
    1019 - 1000 < (s .measuring).profile.channels[(0 : Fin 8)].minWidth ∧
    (s .measuring).profile.channels[(0 : Fin 8)].minWidth ≤ 1020 - 1000 ∧
    3000 - 1000 ≤ (s .measuring).profile.channels[(0 : Fin 8)].maxWidth ∧
    (s .measuring).profile.channels[(0 : Fin 8)].maxWidth < 3001 - 1000 ∧
    (s .fault).inputUnit.channels[(0 : Fin 8)].state = .fault := by decide

theorem witness_PairChannel :
    let s := fun x => channelled 0 (setting .pair 1) x
    (s (resting .armed)).profile.channels[(0 : Fin 8)].mode = .pair ∧
    ((s (resting .armed)).inputUnit.channels[(0 : Fin 8)].state = .armed ∧
      (s (resting .armed)).inputUnit.channels[(0 : Fin 8)].flight = none) ∧
    ((s (timing .measuring)).inputUnit.inputs[0]? = some false ∧ (s (timing .guard)).inputUnit.inputs[0 + 1]? = some false) ∧
    (let u := (active (s (resting .armed))).inputUnit
     u.inputs[(0 : Fin 8)] = true ∧ u.pairEdge[(0 : Fin 8)] = false ∧ u.inputs[0 + 1]? = some true ∧
      u.pairEdge[0 + 1]? = some false) ∧
    ((after (.pairAEdge 0 1000) (s (resting .armed))).inputUnit.pairEdge[0]? = some true ∧
      (after (.pairBEdge 0 1000) (s (resting .armed))).inputUnit.pairEdge[0 + 1]? = some true) ∧
    ((s (timing .measuring)).inputUnit.channels[(0 : Fin 8)].state = .measuring ∧
      (s (timing .measuring)).inputUnit.channels[(0 : Fin 8)].flight = some ⟨1000, 99990⟩) ∧
    (s (timing .guard)).inputUnit.channels[(0 : Fin 8)].state = .guard ∧
    11000 - 1000 ≤ (s (timing .guard)).profile.channels[(0 : Fin 8)].interval ∧
    (s (timing .guard)).profile.channels[(0 : Fin 8)].interval ≤ 11000 - 1000 := by decide

/-- Operands of each profile command of the geometry, at the bounds of their ranges. -/
theorem witness_GeometryIsDefined : part.store.writing = none ∧
    (2 ≤ 2 ∧ 1000 ≤ 1000 ∧ part.profile.line ≠ some ⟨2, 1000⟩ ∧ part.register.view = [] ∧
      ∀ c : Fin 8, part.profile.channels[c].mode = .off) ∧
    (part.profile.station? 1 = some ⟨14800, 200, 60⟩ ∧ optWithin 5 2000 (some 2000) = true ∧
      optWithin 5 600 (some 5) = true) ∧
    (4 + 1 < part.profile.count ∧ part.profile.reach? 4 ≠ some ⟨50, 900, 120⟩ ∧ optWithin 60 7200 (some 7200) = true ∧
      optWithin 10 600 (some 10) = true) ∧
    (part.profile.signaller? 5 ≠ none ∧ part.profile.channelOn 5 = false) ∧
    optWithin 10 20000 (some 20000) = true := by decide

/-- The lowest place of station 1 and of signaller 5. -/
theorem witness_GeometryIsDefined_places : StationPlace part.profile 1 500 ∧ StationRoom part.profile 1 ⟨500, 200, 60⟩ ∧
    SignallerRoom part.profile 5 52800 :=
  ⟨(stationPlaceOk_iff _ _ _).mp (by decide), (stationFits_iff _ _ _).mp (by decide),
    (signallerFits_iff _ _ _).mp (by decide)⟩

theorem witness_GeometryIsDefined_serves : part.serves 0 [.service] := serves_intro (by decide)

theorem witness_SettingsAreDefined : part.store.writing = none ∧
    (1 ≤ 60 ∧ optWithin 0 120 (some 0) = true ∧ optWithin 0 16 (some 16) = true ∧
      (⟨60, 0, 16⟩ : Tracking) ≠ part.profile.tracking ∧ part.now = some 100000 ∧ 0 < part.profile.tracking.holdBack) ∧
    part.profile.trapParam .receive .barrelCapacity ≠ some 4 ∧
    ((∀ j : Master, j ≠ 0 → part.profile.masters[j] ≠ .service) ∧ part.profile.masters[(0 : Master)] ≠ .link) ∧
    (part.profile.masters[(5 : Master)] ≠ .service ∧ part.profile.masters[(0 : Master)] = .service) := by decide

/-- The parameters of both traps and of one, each at the ends of its range and one place beyond them. -/
theorem witness_SettingsAreDefined_traps : TrapTakes .receive 4 .barrelCapacity ∧ ¬ TrapTakes .receive 5 .barrelCapacity ∧
    ¬ TrapTakes .receive 0 .barrelCapacity ∧ ¬ TrapTakes .launch 1 .barrelCapacity ∧ TrapTakes .launch 50000 .launchSpacing ∧
    ¬ TrapTakes .receive 50000 .launchSpacing ∧ TrapTakes .launch 10 .ventTime ∧ ¬ TrapTakes .launch 9 .ventTime ∧
    TrapTakes .receive 3600 .lineUpTime ∧ ¬ TrapTakes .launch 3601 .driveTime := by simp [TrapTakes]

theorem witness_SettingsAreDefined_waiting : (waiting 3 100010).now = some 100000 ∧
    (waiting 3 100010).intake.entries.head? = some ⟨3, 7, 100010, none, .master 1⟩ ∧
    100000 < min (100010 + 0 * 10) 4294967295 ∧ min (99990 + 0 * 10) 4294967295 ≤ 100000 := by decide

/-- A pair and a watch with every field at an end of its range. -/
def pairArgs : ChannelArgs := ⟨0, .pair, some 1, some 5, some 10000, some 200, some 100⟩
def etaArgs : WatchArgs := ⟨15, some true, some .eta, some 36000, some 0, some 3600, some 0, none, none, none⟩

theorem witness_ChannelsAndWatchesAreSet :
    let x := pairArgs
    let w := etaArgs
    part.store.writing = none ∧
    channelFrom x part.profile.channels[(0 : Fin 8)] ≠ part.profile.channels[(0 : Fin 8)] ∧
    watchFrom w part.profile.watches[(15 : Fin 16)] ≠ part.profile.watches[(15 : Fin 16)] ∧ part.now ≠ none ∧
    fresh.now = none := by decide

theorem witness_ChannelsAndWatchesAreSet_fits : ChannelFits part.profile 0 pairArgs ∧
    ¬ ChannelConflicts part.profile 0 pairArgs ∧ WatchFits part.profile.watches[(15 : Fin 16)] etaArgs :=
  ⟨channelInRange_iff.mp (by decide), fun h => absurd (channelConflict_iff.mpr h) (by decide),
    watchInRange_iff.mp (by decide)⟩

theorem witness_ChannelsAndWatchesAreSet_serves : part.serves 0 [.service] ∧ part.serves 2 [.service, .dispatch] :=
  ⟨serves_intro (by decide), serves_intro (by decide)⟩

/-- A SET WATCH of the delays of station 2 and its latch. -/
def delays (seconds : Nat) : WatchArgs := ⟨2, none, none, none, none, some seconds, some seconds, some false, none, none⟩

theorem witness_ChannelsAndWatchesAreSet_watch :
    let s := fun x : Watch => watching (watchBy 5 5 true true) x loaded
    let cfg := fun n : Nat => watchFrom (delays n) (watchBy 5 5 true true)
    let making : Watch := ⟨.making, some 2, some (.value 1300000), some ⟨99950, 100000⟩, some 99950⟩
    ((s making).store.writing = none ∧ (s making).profile.watches[(2 : Fin 16)] = watchBy 5 5 true true ∧
      (delays 0).station = 2) ∧
    (cfg 0 ≠ watchBy 5 5 true true ∧ (cfg 0).enabled = (watchBy 5 5 true true).enabled ∧
      (cfg 0).source = (watchBy 5 5 true true).source) ∧
    ((s ⟨.latched, none, none, none, none⟩).watchUnit.watches[(2 : Fin 16)].delay = none ∧ (cfg 0).latch = false) ∧
    ((s making).watchUnit.watches[(2 : Fin 16)].delay = some ⟨99950, 100000⟩ ∧
      min (99950 + (cfg 6).makeDelay * 10) 4294967295 = 100010 ∧ min (99950 + (cfg 5).makeDelay * 10) 4294967295 = 100000) ∧
    ((s { making with state := .breaking }).watchUnit.watches[(2 : Fin 16)].state = .breaking ∧
      min (99950 + (cfg 5).breakDelay * 10) 4294967295 ≤ 100000) := by decide

theorem witness_ChannelsAndWatchesAreSet_delays : WatchFits (watchBy 5 5 true true) (delays 0) :=
  watchInRange_iff.mp (by decide)

theorem witness_ProfileStoreGuards :
    let busy := part.setStore { part.store with writing := some .second }
    (busy.serves 0 [.service] ∧ busy.store.writing ≠ none ∧
      Instr.request (.defineLine 0 none) = some (0, .defineLine)) ∧
    (undefinedLine.serves 0 [.service] ∧ undefinedLine.store.writing = none ∧ undefinedLine.profile.line = none) ∧
    (part.profile.line = some ⟨6, 68900⟩ ∧ loaded.profile.line ≠ some ⟨16, 999999⟩ ∧ loaded.register.view ≠ []) ∧
    busy.powered = true :=
  ⟨⟨serves_intro (by decide), by decide, rfl⟩, ⟨serves_intro (by decide), by decide, by decide⟩, by decide, rfl⟩

/-- DEFINE LINE with a channel in use; every number out of its range, one place below and above. -/
theorem witness_ProfileStoreGuards_line :
    let used := channelled 0 (setting .contact 1) (resting .armed)
    used.serves 0 [.service] ∧ used.store.writing = none ∧ used.profile.line ≠ none ∧
    used.profile.line ≠ some ⟨2, 1000⟩ ∧ used.register.view = [] ∧ (∃ c : Fin 8, used.profile.channels[c].mode ≠ .off) ∧
    (1 < 2 ∧ 16 < 17 ∧ 999 < 1000 ∧ 999999 < 1000000) :=
  ⟨serves_intro (by decide), by decide, by decide, by decide, by decide, ⟨0, by decide⟩, by decide⟩

/-- DEFINE STATION: an index at the count, a move while the register holds a record, a first station off 0, and one 499 m
from its neighbour. -/
theorem witness_ProfileStoreGuards_station : loaded.serves 0 [.service] ∧ loaded.store.writing = none ∧
    loaded.profile.line ≠ none ∧ ¬ 6 < loaded.profile.count ∧ 5 < loaded.profile.count ∧
    (loaded.profile.station? 1).map (fun h => (h.chainage, h.halfWidth)) ≠ some (14900, 200) ∧ loaded.register.view ≠ [] ∧
    part.register.view = [] ∧ ¬ StationPlace part.profile 0 1 ∧
    (part.profile.station? 0).map (fun h => (h.chainage, h.halfWidth)) ≠ some (1, 200) ∧
    ∀ stroke, ¬ StationRoom part.profile 1 ⟨499, 200, stroke⟩ :=
  ⟨serves_intro (by decide), by decide, by decide, by decide, by decide, by decide, by decide, by decide,
    fun h => absurd (h.1 rfl) (by decide), by decide, fun _ h =>
      absurd (h.1 0 ⟨0, 200, 60⟩ (by decide) (by decide) (fun k _ _ => by omega)).1 (by simp)⟩

/-- DEFINE REACH and DEFINE SIGNALLER: out of range, locked, a signaller with a channel, and one below its neighbour's
100 m. -/
theorem witness_ProfileStoreGuards_signaller :
    let used := channelled 0 (setting .contact 1) (resting .armed)
    (49 < 50 ∧ 20000 < 20001 ∧ loaded.profile.count ≤ 5 + 1 ∧ 4 + 1 < loaded.profile.count ∧
      (loaded.profile.reach? 4).map (·.area) ≠ some 50) ∧
    ¬ 32 ≤ 31 ∧ part.profile.signaller? 31 = none ∧
    (loaded.profile.signaller? 5).map (fun h => (h.source, h.chainage)) ≠ none ∧
    (used.serves 0 [.service] ∧ used.store.writing = none ∧ used.register.view = [] ∧
      (∃ c : Fin 8, used.profile.channels[c].mode ≠ .off ∧ used.profile.channels[c].signaller = some 1) ∧
      used.profile.signaller? 1 ≠ none) ∧
    (¬ ∃ c : Fin 8, part.profile.channels[c].mode ≠ .off ∧ part.profile.channels[c].signaller = some 5) ∧
    ¬ SignallerRoom part.profile 5 52799 :=
  ⟨by decide, by decide, by decide, by decide, ⟨serves_intro (by decide), by decide, by decide, ⟨0, by decide⟩, by decide⟩,
    by decide, fun h => absurd ((signallerFits_iff _ _ _).mpr h) (by decide)⟩

/-- A busy store and the other profile commands, a SET WATCH of DISPATCH and a READ PROFILE of any class among them. -/
theorem witness_ProfileStoreGuards_busy :
    let busy := part.setStore { part.store with writing := some .second }
    busy.serves 0 [.service] ∧ busy.serves 2 [.service, .dispatch] ∧ busy.powered = true ∧
    (busy.context 5).cls = .none ∧ busy.store.writing ≠ none ∧
    Instr.request (.setChannelMode 0 none) = some (0, .setChannelMode) ∧
    Instr.request (.setWatch 2 none) = some (2, .setWatch) ∧ Instr.request (.readProfile 5 none) = some (5, .readProfile) :=
  ⟨serves_intro (by decide), serves_intro (by decide), rfl, by decide, by decide, rfl, rfl, rfl⟩

/-- DEFINE TRACKING, DEFINE TRAP and DEFINE MASTER: a number beyond its range, a parameter twice, one that the trap has not,
and the values held. -/
theorem witness_ProfileStoreGuards_settings : part.serves 0 [.service] ∧ part.store.writing = none ∧
    (¬ 1 ≤ 0 ∧ ¬ 61 ≤ 60 ∧ ¬ 121 ≤ 120 ∧ ¬ 17 ≤ 16) ∧
    (2 = part.profile.tracking.period ∧ (none : Option Nat).getD part.profile.tracking.holdBack =
      part.profile.tracking.holdBack) ∧
    ¬ ([(TrapParam.ventLimit, 20), (.ventLimit, 30)].map (·.1)).Nodup ∧ ¬ TrapTakes .launch 2 .barrelCapacity ∧
    (TrapTakes .receive 2 .barrelCapacity ∧ part.profile.trapParam .receive .barrelCapacity = some 2) ∧ 5 < 6 ∧
    part.profile.masters[(0 : Master)] = .service :=
  ⟨serves_intro (by decide), by decide, by decide, by decide, by decide, by simp [TrapTakes],
    ⟨by simp [TrapTakes], by decide⟩, by decide, by decide⟩

/-- SET CHANNEL MODE: mode PAIR on an odd channel; the values held; a signaller that another channel holds. -/
theorem witness_ProfileStoreGuards_channel :
    let used := channelled 0 (setting .contact 1) (resting .armed)
    let odd : ChannelArgs := ⟨1, .pair, some 1, none, none, none, none⟩
    let held : ChannelArgs := ⟨0, .contact, none, none, none, none, none⟩
    let double : ChannelArgs := ⟨1, .contact, some 1, none, none, none, none⟩
    (used.serves 0 [.service] ∧ used.store.writing = none ∧ 7 < 8) ∧ ¬ ChannelFits used.profile 1 odd ∧
    (ChannelFits used.profile 0 held ∧ channelFrom held used.profile.channels[(0 : Fin 8)] =
      used.profile.channels[(0 : Fin 8)]) ∧
    ChannelFits used.profile 1 double ∧ ChannelConflicts used.profile 1 double ∧
    channelFrom double used.profile.channels[(1 : Fin 8)] ≠ used.profile.channels[(1 : Fin 8)] :=
  ⟨⟨serves_intro (by decide), by decide, by decide⟩, fun h => absurd (channelInRange_iff.mpr h) (by decide),
    ⟨channelInRange_iff.mp (by decide), by decide⟩, channelInRange_iff.mp (by decide), channelConflict_iff.mp (by decide),
    by decide⟩

/-- SET WATCH: another source without its threshold; the values held. -/
theorem witness_ProfileStoreGuards_watch :
    let w := part.profile.watches[(0 : Fin 16)]
    let changed : WatchArgs := ⟨0, none, some .eta, none, some 0, none, none, none, none, none⟩
    let held : WatchArgs := ⟨0, none, some w.source, none, none, none, none, none, none, none⟩
    part.serves 2 [.service, .dispatch] ∧ part.store.writing = none ∧ 15 < 16 ∧ ¬ WatchFits w changed ∧
    WatchFits w held ∧ watchFrom held w = w :=
  ⟨serves_intro (by decide), by decide, by decide, fun h => absurd (watchInRange_iff.mpr h) (by decide),
    watchInRange_iff.mp (by decide), by decide⟩

theorem witness_ServiceIsSet_able : loaded.able 2 [.dispatch] := able_intro (by decide)

theorem witness_ServiceIsSet : (loaded.context 1).cls ≠ .dispatch ∧
    ((undefinedLine.context 2).cls = .dispatch ∧ undefinedLine.profile.complete = false) ∧ 31 < 32 ∧
    loaded.profile.signaller? 31 = none ∧ ((6 : Fin 32).val = 6 ∧
    loaded.profile.signaller? 6 ≠ none) := by decide

theorem witness_DiscardPassageCommand : (unmatched.context 1).cls ≠ .dispatch ∧
    ((undefinedLine.context 2).cls = .dispatch ∧ undefinedLine.profile.complete = false) ∧ 31 < 32 ∧
    (∀ e ∈ unmatched.fixUnit.unmatched, e.signaller ≠ 31 ∨ e.sequence ≠ 7) ∧
    unmatched.fixUnit.unmatched = [] ++ ⟨3, 7, 99880, .earlySoft, none, 99990⟩ :: [] := by decide

theorem witness_DiscardPassageCommand_able : unmatched.able 2 [.dispatch] := able_intro (by decide)

theorem witness_PassagesAreAssigned : unmatched.now = some 100000 ∧ unmatched.register.find 2 = some nearing ∧
    unmatched.profile.signaller? 3 = some ⟨.remote, 41200, .firm, 2000⟩ ∧ candidate unmatched 3 = some nearing ∧
    nearing.tag = 2 ∧ nearing.lastFix = some ⟨2, 27300000, 95000⟩ ∧ 95000 ≤ 99880 := by decide

/-- An entry older than the candidate's last fix, and one whose candidate is another pig. -/
theorem witness_PassagesAreAssigned_refused :
    ({ unmatched with fixUnit := ⟨[⟨3, 7, 94999, .staleFix, none, 99990⟩], 0⟩ } : State).fixUnit.unmatched =
      [] ++ ⟨3, 7, 94999, .staleFix, none, 99990⟩ :: [] ∧
    (let s := unmatched.setRegister { unmatched.register with launchBarrel := [staged 3] }
     s.register.find 3 = some (staged 3) ∧ candidate s 3 = some nearing ∧ nearing.tag ≠ 3) := by decide

theorem witness_PassagesAreAssigned_checks :
    ((unmatched.context 1).cls ≠ .dispatch ∧ (undefinedLine.context 2).cls = .dispatch ∧
      undefinedLine.profile.complete = false ∧ unsetLoaded.now = none ∧ 31 < 32) ∧
    ((∀ e ∈ unmatched.fixUnit.unmatched, ¬ (e.signaller = 3 ∧ e.sequence = 8)) ∧ unmatched.register.find 9 = none) ∧
    unmatched.fixUnit.unmatched = [] ++ ⟨3, 7, 99880, .earlySoft, none, 99990⟩ :: [] := by decide

theorem witness_PassagesAreAssigned_able : unmatched.able 2 [.dispatch] ∧ unsetLoaded.able 2 [.dispatch] :=
  ⟨able_intro (by decide), able_intro (by decide)⟩

theorem witness_ValvesAreReported : (5 : Fin 16).val < part.profile.count ∧
    part.profile.station? (5 : Fin 16) = some ⟨68900, 200, 60⟩ ∧
    (unsetLoaded.now = none ∨ unsetLoaded.valves[(5 : Fin 16)].position = .moving) := by decide

theorem witness_ValvesAreReported_able : part.able 1 [.link, .trap] ∧ part.able 2 [.dispatch, .link] :=
  ⟨able_intro (by decide), able_intro (by decide)⟩

theorem witness_ValvesAreReported_change : part.now ≠ none ∧ part.valves[(5 : Fin 16)].position = .opened ∧
    ValvePos.opened ≠ .closed ∧ ValvePos.opened ≠ .moving := by decide

/-- A station for each clause: a permit outstanding, the position asked for, a hold, nothing in the way, and a pig at the
zone end. -/
theorem witness_StrokesArePermitted : loaded.now = some 100000 ∧ (2 : Fin 16).val < loaded.profile.count ∧
    loaded.profile.station? (2 : Fin 16) = some ⟨27300, 200, 60⟩ ∧
    (valved ⟨.opened, 0#7, some ⟨1, .toClose, 100500⟩, none, none, true⟩).valves[(2 : Fin 16)].permit ≠ none ∧
    (loaded.valves[(2 : Fin 16)].permit = none ∧ loaded.valves[(2 : Fin 16)].position = .opened) ∧
    (valved ⟨.opened, 0x01#7, none, none, none, true⟩).valves[(2 : Fin 16)].hold ≠ 0#7 ∧
    (loaded.valves[(2 : Fin 16)].position ≠ .closed ∧ loaded.valves[(2 : Fin 16)].hold = 0#7) ∧
    (∀ p ∈ loaded.register.inLine, p.position < 27100000 ∧ p.status ≠ .unverified ∧
      90 * p.speed < 27100000 - p.position) ∧
    (27100000 ≤ 27500000 ∧ 27500000 ≤ (27300 + 200) * 1000) := by decide

theorem witness_StrokesArePermitted_able : loaded.able 1 [.link, .trap] := able_intro (by decide)

/-- The first pig of each check of station 2: at the zone end, UNVERIFIED in the reach below, and 126,000 mm before the zone
at 1,400 mm/s, as far as it runs in 90 s. -/
theorem witness_StrokesArePermitted_first :
    let lines := [pig 2 27500000, { pig 2 20000000 with status := .unverified }, pig 2 26974000]
    (∀ p ∈ lines, (loaded.setInLine [p]).register.inLine = [] ++ p :: []) ∧
    (27100000 ≤ 27500000 ∧ 27500000 ≤ (27300 + 200) * 1000) ∧
    (loaded.profile.reachAt 20000000 = some 1 ∧ 1 + 1 = (2 : Fin 16).val) ∧
    ((26974000 : Nat) < 27100000 ∧ (pig 2 26974000).speed ≠ 0 ∧ 27100000 - 26974000 ≤ (60 + 30) * 1400) := by decide

theorem witness_StrokesEnd : (5 : Fin 16).val < loaded.profile.count ∧ ValvePos.closed ≠ .moving ∧
    (valved ⟨.opened, 0#7, some ⟨1, .toClose, 100500⟩, none, none, true⟩).valves[(2 : Fin 16)].permit =
      some ⟨1, .toClose, 100500⟩ ∧ (3 : Master) ≠ 1 ∧
    ((valved ⟨.unknown, 0#7, none, some ⟨1, .toClose⟩, none, true⟩).valves[(2 : Fin 16)].permit = none ∧
      (valved ⟨.unknown, 0#7, none, some ⟨1, .toClose⟩, none, true⟩).valves[(2 : Fin 16)].lapsed = some ⟨1, .toClose⟩) ∧
    (loaded.valves[(2 : Fin 16)].permit = none ∧ loaded.valves[(2 : Fin 16)].lapsed = none) := by decide

theorem witness_StrokesEnd_change : loaded.now ≠ none ∧
    (valved ⟨.opened, 0#7, some ⟨1, .toClose, 100500⟩, none, none, true⟩).valves[(2 : Fin 16)].position ≠ .closed := by
  decide

theorem witness_DeadlinesRunOut : loaded.powered = true ∧ loaded.now = some 100000 ∧
    (valved ⟨.moving, 0#7, some ⟨1, .toClose, 100000⟩, none, none, true⟩).valves[(2 : Fin 16)].permit =
      some ⟨1, .toClose, 100000⟩ ∧
    ((trapped .receive .vented (some ⟨.fill, 3, 100000⟩) none).trap .receive).step = some ⟨.fill, 3, 100000⟩ ∧
    (loaded.setLaunchOverdue (some 100000)).traps.launchOverdue = some 100000 := by decide

theorem witness_DeadlinesRunOut_positions :
    ((valved ⟨.moving, 0#7, some ⟨1, .toClose, 100000⟩, none, none, true⟩).valves[(2 : Fin 16)]).position ≠ .unknown ∧
    ((valved ⟨.unknown, 0#7, some ⟨1, .toClose, 100000⟩, none, none, true⟩).valves[(2 : Fin 16)]).position = .unknown := by
  decide

theorem witness_WatchesAreAcknowledged : loaded.powered = true ∧ loaded.now = some 100000 ∧
    loaded.watchUnit.watches[(15 : Fin 16)].state ≠ .latched ∧
    ((watching (watchBy 5 5 true true) ⟨.latched, none, none, none, none⟩ loaded).watchUnit.watches[(2 : Fin 16)]).state =
      .latched ∧
    ((watching (watchBy 5 5 true true) ⟨.making, none, none, some ⟨99950, 100000⟩, none⟩ loaded).watchUnit.watches[(2 :
      Fin 16)]).delay = some ⟨99950, 100000⟩ ∧
    ((watching (watchBy 5 5 true true) ⟨.breaking, none, none, some ⟨99950, 100000⟩, none⟩ loaded).watchUnit.watches[(2 :
      Fin 16)]).state = .breaking ∧
    ((watching (watchBy 5 5 true true) ⟨.making, none, none, none, none⟩ loaded).watchCfg 2).actions.notify = true := by
  decide

theorem witness_WatchesAreAcknowledged_able :
    (watching (watchBy 5 5 true true) ⟨.latched, none, none, none, none⟩ loaded).able 2 [.dispatch] := able_intro (by decide)

theorem witness_JudgementsFitTheValue : loaded.now = some 100000 ∧ unsetLoaded.now = none ∧
    (let s := watching (watchBy 5 5 true true) ⟨.clear, none, none, none, none⟩ loaded
     (s.watchCfg 2).enabled = true ∧ (2 : Fin 16).val < s.profile.count ∧
      s.profile.station? (2 : Fin 16) = some ⟨27300, 200, 60⟩) ∧
    ((loaded.watchCfg 2).enabled = false ∨ loaded.profile.count ≤ 2) := by decide

/-- The part with one pig in the line and the watch of station 2 in a state, its first judgement pending or not. -/
def seen (position : Nat) (w : WatchCfg) (state : WatchState) (first : Bool) : State :=
  let s := watching w ⟨state, none, none, none, none⟩ (part.setInLine [pig 2 position])
  s.setWatchUnit { s.watchUnit with firstPending := first }

theorem witness_JudgementsFitTheValue_reads :
    let s := seen 25300000 (watchBy 5 5 true true) .clear true
    (s.profile.watches[(2 : Fin 16)].enabled = true ∧ s.watchUnit.firstPending = true ∧
      s.profile.watches[(2 : Fin 16)].startInhibit = true) ∧
    (∀ n ∈ [25300000, 27500000], (seen n (watchBy 5 5 true true) .clear true).register.inLine.find?
      (fun p => p.position ≤ (27300 + 200) * 1000) = some (pig 2 n)) ∧
    (seen 27500001 (watchBy 5 5 true true) .clear true).register.inLine.find?
      (fun p => p.position ≤ (27300 + 200) * 1000) = none ∧
    (0 < 1400 ∧ 27300000 ≤ 27300000 ∧ 27299999 < 27300000) := by decide

theorem witness_JudgementsFitTheValue_goes : (watchBy 5 5 true true).Makes (.value 2000000) ∧
    ¬ (watchBy 5 5 true true).Makes (.value 2000001) ∧ ¬ (watchBy 5 5 true true).Breaks (.value 2200000) ∧
    (watchBy 5 5 true true).Breaks (.value 2200001) ∧ (watchBy 5 5 true true).Breaks .noValue ∧
    (watchBy 0 0 true true).makeDelay = 0 ∧ (watchBy 5 5 true true).makeDelay ≠ 0 ∧
    (watchBy 0 0 true true).breakDelay = 0 ∧ (watchBy 5 5 true true).breakDelay ≠ 0 := by
  simp [WatchCfg.Makes, WatchCfg.Breaks, watchBy]

theorem witness_PressuresAndRecovery : part.powered = true ∧ (part.context 2).cls ∉ [MasterClass.link, .trap] ∧
    ((undefinedLine.context 1).cls ∈ [MasterClass.link, .trap] ∧ undefinedLine.profile.complete = false) ∧ 20000 < 20001 ∧
    20000 ≤ 20000 ∧ (part.context 1).cls ≠ .dispatch ∧ (undefinedLine.context 2).cls = .dispatch ∧
    ((trapped .receive .vented (some ⟨.fill, 3, 100500⟩) none).trap .receive).step ≠ none ∧
    ((trapped .receive .unknown none none).trap .receive).step = none := by decide

theorem witness_PressuresAndRecovery_able : (trapped .receive .unknown none none).able 2 [.dispatch] ∧
    part.able 3 [.link, .trap] := ⟨able_intro (by decide), able_intro (by decide)⟩

/-- The launch trap LINED_UP with a staged pig, valve 0 OPEN, and the tail exactly the launch spacing from signaller 0. -/
def driveable : State :=
  (trapped .launch .linedUp none none).setInLine [pig 1 1060000]

theorem witness_TrapStepsAreTaken : driveable.now = some 100000 ∧ (driveable.trap .launch).step = none ∧
    (driveable.trap .launch).state ∈ stepFrom .drive ∧ driveable.register.launchBarrel ≠ [] ∧
    driveable.valves[(0 : Fin 16)].position = .opened ∧ (60 + driveable.profile.launch.spacing) * 1000 ≤ 1060000 ∧
    ((trapped .launch .vented none none).trap .launch).barrel = some ⟨10, none⟩ ∧
    10 ≤ ((trapped .launch .vented none none).profile.trapCommon .launch).ventLimit ∧
    (((10 : Nat) : Int) - (50 : Nat)).natAbs ≤ ((trapped .launch .pressurised none none).profile.trapCommon
      .launch).equaliseBand ∧
    (trapped .receive .pressurised none none).register.receiveBarrel.length <
      (trapped .receive .pressurised none none).profile.receive.capacity ∧
    (driveable.trap .launch).state ∉ stepFrom .fill ∧
    (∀ p ∈ (trapped .receive .linedUp none none).register.inLine,
      p.position < (profile.lineEnd - profile.receive.guardDistance) * 1000) := by decide

theorem witness_TrapStepsAreTaken_done :
    ((trapped .launch .linedUp (some ⟨.drive, 3, 100500⟩) none).trap .launch).step = some ⟨.drive, 3, 100500⟩ ∧
    ((trapped .launch .unknown none (some ⟨.drive, 3⟩)).trap .launch).lapsed = some ⟨.drive, 3⟩ ∧
    ((trapped .launch .unknown none none).trap .launch).lapsed ≠ some ⟨.drive, 3⟩ := by decide

/-- What turns a step away: one in progress, a pressure of 21 kPa or none, a full barrel, an empty one, valve 0 not OPEN, a
tail 1 mm short of the spacing, and a pig at the guard. -/
theorem witness_TrapStepsAreTaken_refused :
    ((trapped .launch .vented (some ⟨.fill, 3, 100500⟩) none).trap .launch).step ≠ none ∧
    (((loaded.setTrap .launch ⟨.vented, none, none, some ⟨21, none⟩, none⟩).trap .launch).barrel = some ⟨21, none⟩ ∧
      (loaded.profile.trapCommon .launch).ventLimit < 21) ∧
    ((loaded.setTrap .launch ⟨.pressurised, none, none, none, none⟩).trap .launch).barrel = none ∧
    (let s := (trapped .receive .pressurised none none).setRegister ⟨[pig 1 0, pig 2 0], [], [], 1⟩
     s.profile.receive.capacity ≤ s.register.receiveBarrel.length ∧
      (((10 : Nat) : Int) - (50 : Nat)).natAbs ≤ (s.profile.trapCommon .receive).equaliseBand) ∧
    ((trapped .launch .linedUp none none).setRegister ⟨[], [], [], 1⟩).register.launchBarrel = [] ∧
    (driveable.setValve 0 ⟨.moving, 0#7, none, none, none, true⟩).valves[(0 : Fin 16)].position ≠ .opened ∧
    ((driveable.setInLine [pig 1 1059999]).register.inLine.getLast? = some (pig 1 1059999) ∧
      1059999 < (60 + driveable.profile.launch.spacing) * 1000) ∧
    (((trapped .receive .linedUp none none).setInLine [pig 1 63900000]).register.inLine = [] ++ pig 1 63900000 :: [] ∧
      (profile.lineEnd - profile.receive.guardDistance) * 1000 ≤ 63900000) ∧
    ((trapped .launch .linedUp (some ⟨.drive, 3, 100500⟩) none).trap .launch).step ≠ none ∧ (3 : Master) ≠ 1 ∧
    TrapStep.drive ≠ .isolate := by decide

theorem witness_TrapStepsAreTaken_able : driveable.able 3 [.trap, .link] ∧ unsetLoaded.able 3 [.trap, .link] ∧
    unsetLoaded.now = none := ⟨able_intro (by decide), able_intro (by decide), rfl⟩

theorem witness_LineTimeIsSet : part.now = some 100000 ∧ 100000 ≤ 100000 ∧ 100000 < 100001 ∧ fresh.now = none ∧
    1 ≤ part.profile.tracking.period ∧ 4294967294 < 4294967295 ∧ part.powered = true ∧
    ({ part with clock := ⟨some 4294967295, part.clock.record⟩ } : State).now = some 4294967295 := by decide

theorem witness_LineTimeIsSet_serves : part.serves 2 [.dispatch] ∧ fresh.serves 2 [.dispatch] :=
  ⟨serves_intro (by decide), serves_intro (by decide)⟩

/-- The timers of the part, each reached by one new value and not by another: the update, a permit, a trap step, a watch
delay, the launch overdue deadline and the entry at the head of the intake list; and the last value of line time. -/
theorem witness_LineTimeIsSet_timers : (part.tracker.running = true ∧ part.tracker.deadline = some 100020) ∧
    ((valved ⟨.opened, 0#7, some ⟨3, .toOpen, 100600⟩, none, none, true⟩).valves[(2 : Fin 16)].permit =
      some ⟨3, .toOpen, 100600⟩ ∧ 100600 ≤ 100600 ∧ 100599 < 100600 ∧ 100600 ≤ 4294967295) ∧
    ((trapped .launch .linedUp (some ⟨.drive, 3, 100500⟩) none).trap .launch).step = some ⟨.drive, 3, 100500⟩ ∧
    (watching (watchBy 5 5 true true) ⟨.making, none, none, some ⟨99950, 100000⟩, none⟩ part).watchUnit.watches[(2 :
      Fin 16)].delay = some ⟨99950, 100000⟩ ∧
    ((part.setLaunchOverdue (some 100500)).traps.launchOverdue = some 100500 ∧ part.intake.entries.head? = none ∧
      part.traps.launch.step = none) ∧
    ((waiting 3 100010).intake.entries.head? = some ⟨3, 7, 100010, none, .master 1⟩ ∧
      100109 < min (100010 + (waiting 3 100010).profile.tracking.holdBack * 10) 4294967295) := by decide

theorem witness_RestartKeepsTheRecords : loaded.serves 0 [.service] ∧ loaded.now ≠ none ∧ unsetLoaded.now = none :=
  ⟨serves_intro (by decide), by decide, by decide⟩

/-- Both images valid, one of them, and neither; retention kept and lost. -/
theorem witness_PowerComesAndGoes :
    (part.store.firstImage.valid && true) = true ∧ (part.store.secondImage.valid && true) = false ∧
    (part.store.firstImage.valid && false) = false ∧
    (let s := part.setStore { part.store with secondImage := ⟨2, true, profile⟩ }
     (s.store.secondImage.valid && true) = true ∧ s.store.firstImage.writeCount < s.store.secondImage.writeCount) ∧
    (let s := part.setStore { part.store with secondImage := ⟨1, true, profile⟩ }
     (s.store.firstImage.valid && true) = true ∧ (s.store.secondImage.valid && true) = true ∧
      s.store.secondImage.writeCount ≤ s.store.firstImage.writeCount) ∧
    (part.geometryMark == geometryOf part.profile) = true := by decide

/-! The laws hold of the part in service, and a step from it answers a next state. -/

theorem witness_StepsKeepTheOutputs : AttentionLineLaw loaded ∧ HoldContactLaw loaded ∧ step loaded = .next loaded :=
  ⟨by unfold AttentionLineLaw; decide, by unfold HoldContactLaw; decide, rfl⟩

theorem witness_StepsKeepTheWatchMembers : WatchMemberLaw loaded ∧ step loaded = .next loaded :=
  ⟨by unfold WatchMemberLaw; decide, rfl⟩

/-- The line of the tests is in order (R5 to R8, R10, R11). -/
theorem profile_lawful : profile.Lawful := by
  refine ⟨fun d h => ?_, fun i st h => ?_, fun i j a b hij ha hb => ?_, fun i r h => ?_, fun n g h => ?_,
    fun i j a b hij ha hb => ?_, by decide⟩
  · cases h; decide
  · have := Fin.forall_iff.mp (show ∀ i : Fin 16, (profile.station? i).all (fun st => decide (i.val < profile.count) &&
      profile.stationPlaceOk i st.chainage && decide (5 ≤ st.halfWidth ∧ st.halfWidth ≤ 2000 ∧ 5 ≤ st.strokeTime ∧
        st.strokeTime ≤ 600)) = true by decide) i (station?_lt h)
    simpa [h, stationPlaceOk_iff, and_assoc] using this
  · have := Fin.forall_iff.mp (Fin.forall_iff.mp (show ∀ i j : Fin 16, (profile.station? i).all (fun a =>
      (profile.station? j).all (fun b => decide (j ≤ i) || apart a b)) = true by decide +kernel) i (station?_lt ha)) j
      (station?_lt hb)
    simpa [ha, hb, apart_iff, Nat.not_le.mpr hij] using this
  · have := Fin.forall_iff.mp (show ∀ i : Fin 15, (profile.reach? i).all (fun r => decide (i.val + 1 < profile.count ∧
      50 ≤ r.area ∧ r.area ≤ 20000 ∧ 60 ≤ r.stallTime ∧ r.stallTime ≤ 7200 ∧ 10 ≤ r.flowTimeout ∧
        r.flowTimeout ≤ 600)) = true by decide) i (reach?_lt h)
    simpa [h] using this
  · have := Fin.forall_iff.mp (show ∀ n : Fin 32, (profile.signaller? n).all (fun g => decide (g.chainage ≤ profile.lineEnd ∧
      (n.val = 0 → 10 ≤ g.chainage ∧ g.chainage ≤ 200) ∧ 10 ≤ g.window ∧ g.window ≤ 20000)) = true by decide) n
      (signaller?_lt h)
    exact ⟨by decide, by simpa [h, Decidable.imp_iff_not_or] using this⟩
  · have := Fin.forall_iff.mp (Fin.forall_iff.mp (show ∀ i j : Fin 32, (profile.signaller? i).all (fun a =>
      (profile.signaller? j).all (fun b => decide (j ≤ i) || signallersApart i a.chainage b.chainage)) = true by
        decide +kernel) i (signaller?_lt ha)) j (signaller?_lt hb)
    simpa [ha, hb, signallersApart_iff, Nat.not_le.mpr hij] using this

theorem empty_lawful : Profile.empty.Lawful := by
  have hs : ∀ i, Profile.empty.station? i = none := fun i => by
    simp only [Profile.station?, Profile.empty, Vector.getElem?_replicate]; split <;> rfl
  have hr : ∀ i, Profile.empty.reach? i = none := fun i => by
    simp only [Profile.reach?, Profile.empty, Vector.getElem?_replicate]; split <;> rfl
  have hg : ∀ i, Profile.empty.signaller? i = none := fun i => by
    simp only [Profile.signaller?, Profile.empty, Vector.getElem?_replicate]; split <;> rfl
  refine ⟨?_, ?_, ?_, ?_, ?_, ?_, by decide⟩
  · rintro d ⟨⟩
  · simp [hs]
  · simp [hs]
  · simp [hr]
  · simp [hg]
  · simp [hg]

theorem witness_StepsKeepTheRegister : RegisterLaw loaded ∧ OptionalFieldsLaw loaded ∧ step loaded = .next loaded :=
  ⟨⟨by decide, by decide, by decide, by decide, by decide, by decide, by unfold allStatus; decide,
    by unfold allStatus; decide, by unfold allStatus; decide⟩,
    by unfold OptionalFieldsLaw Pig.fieldsFit; decide, rfl⟩

/-- Two pigs in the line, none staged, and an update that moves them. -/
def moving : State := { atUpdate.setRegister ⟨[], atUpdate.register.inLine, [], 4⟩ with pending := [.trackerUpdate] }

theorem witness_StepsKeepTheRegister_line : GeometryMarkLaw moving ∧ InLineLaw moving ∧ ProfileLaw moving ∧
    CompleteLaw moving ∧ moving.register.launchBarrel = [] ∧ Separated moving.register.inLine ∧ moving.register.view ≠ [] ∧
    ∃ t, step moving = .next t :=
  ⟨rfl, ⟨by decide, by decide⟩, ⟨profile_lawful, profile_lawful, empty_lawful⟩, fun _ => by decide, rfl,
    ⟨by decide, trivial⟩, by decide, _, rfl⟩

theorem witness_StepsKeepTheListsAndTraps : ListsLaw (waiting 3 99990) ∧ TrapLaw (trapped .launch .unknown none none) ∧
    step loaded = .next loaded :=
  ⟨⟨by decide, by decide, by decide, by decide⟩, ⟨by decide, by rintro h ⟨⟩, fun t _ => by cases t <;> rfl⟩, rfl⟩

theorem witness_StepsKeepTheServiceAndTheMark : ServiceLaw loaded ∧ GeometryMarkLaw loaded ∧ ProfileLaw loaded ∧
    CompleteLaw loaded ∧ loaded.register.view ≠ [] ∧ step loaded = .next loaded :=
  ⟨⟨by decide, by decide, by decide, by decide⟩, rfl, ⟨profile_lawful, profile_lawful, empty_lawful⟩, fun _ => by decide,
    by decide, rfl⟩

theorem witness_PermitsComeOnlyByRequest : loaded.valves[(3 : Fin 16)].permit = none ∧
    (after (.requestStroke 1 (some ⟨3, .toClose⟩)) loaded).valves[(3 : Fin 16)].permit = some ⟨1, .toClose, 100900⟩ := by
  decide

theorem witness_PressuresAndRecovery_wayOut : TrapLaw (trapped .receive .unknown none none) ∧
    ((trapped .receive .unknown none none).trap .receive).state = .unknown ∧
    ((after (.recoverTrap 2 (some ⟨.receive, .vented⟩)) (trapped .receive .unknown none none)).trap .receive).state ≠
      .unknown :=
  ⟨⟨by decide, by rintro h ⟨⟩, fun t _ => by cases t <;> rfl⟩, by decide, by decide⟩

theorem witness_LockAndStaging : loaded.register.view ≠ [] ∧
    (∃ p ∈ (after (.stagePig 3 (some ⟨.foam, none⟩)) (trapped .launch .doorOpen none none)).register.view,
      ∀ q ∈ (trapped .launch .doorOpen none none).register.view, q.tag ≠ p.tag) := by decide +kernel

theorem witness_ContextsAreTheirOwners :
    (part.context 5).attention &&& ~~~ ((after (.acknowledgeAttention 5 (some 1#16)) part).context 5).attention ≠ 0#16 ∧
    ((after (.setEnables 5 (some 1#16)) part).context 5).enables ≠ (part.context 5).enables ∧
    ((after (.cursorSet 5 (some ⟨.towardLaunch, none⟩)) loaded).context 5).cursorTag ≠ (loaded.context 5).cursorTag ∧
    ((after (.setHold 3 (some 2)) part).context 3).lastRefusal ≠ (part.context 3).lastRefusal := by decide

end Sys2Proof.Tests
end

