-- ==== Sys2Proof/Proofs/ReportFlow.lean ====
section
/-! PROOF. Proofs/ReportFlow.lean: REPORT FLOW (R41): who may report, which reach an index names, and what a report
writes. -/

namespace Sys2Proof.Machine

/-- The row of R179 for REPORT FLOW. -/
theorem mayUse_reportFlow_iff (c : MasterClass) : mayUse c .reportFlow = true ↔ c ∈ [MasterClass.dispatch, .link] := by
  cases c <;> decide

theorem reachIndex_eq_some_iff {p : Profile} {n : Nat} {r : Fin 15} :
    p.reachIndex n = some r ↔ r.val = n ∧ n + 1 < p.count := by
  have hr := r.isLt
  unfold Profile.reachIndex
  split
  · split <;> simp [Fin.ext_iff] <;> omega
  · simp; omega

theorem reachIndex_eq_none {p : Profile} {n : Nat} (h : p.count ≤ n + 1) : p.reachIndex n = none :=
  Option.eq_none_iff_forall_ne_some.mpr fun _ hr =>
    absurd (reachIndex_eq_some_iff.mp hr).2 (Nat.not_lt.mpr h)

theorem setFlow_only (s : State) (r : Fin 15) (e : FlowEntry) : OnlyChanges [.tracker] s (s.setFlow r e) :=
  setTracker_only s _

/-! ## The rule of a report, by its reach index -/

theorem reportFlow_outside {x : FlowArgs} {s : State} (now : Nat) (h : s.profile.count ≤ x.reach + 1) :
    reportFlow x now s = refuse .range s := by
  simp only [reportFlow, reachIndex_eq_none h]

theorem reportFlow_reach {x : FlowArgs} {s : State} (now : Nat) {r : Fin 15} (hr : r.val = x.reach)
    (h : x.reach + 1 < s.profile.count) :
    reportFlow x now s =
      done (.flowTaken (if x.reverse then 0 else x.flow) s.tracker.flows[r].state)
        (s.setFlow r ⟨if x.reverse then 0 else x.flow, x.reverse, some now, .fresh⟩) := by
  simp only [reportFlow, reachIndex_eq_some_iff.mpr ⟨hr, h⟩, done]

/-! ## The command, check by check -/

/-- A report from a class that may make one is answered after the checks of the profile (R15) and of line time (R190). -/
theorem exec_reportFlow_open {m : Master} {s : State} (x : FlowArgs) (h : s.serves m [.dispatch, .link]) :
    exec (.reportFlow m (some x)) s =
      .next (respond m Command.reportFlow.code (whenComplete (whenTime (reportFlow x)) s)) :=
  serve_open m .reportFlow _ s h.1 ((mayUse_reportFlow_iff _).mpr h.2)

/-- With line time set and the profile complete, the answer is that of the command's own rule. -/
theorem exec_reportFlow_able {m : Master} {s : State} (x : FlowArgs) {now : Nat} (h : s.able m [.dispatch, .link])
    (hnow : s.now = some now) :
    exec (.reportFlow m (some x)) s = .next (respond m Command.reportFlow.code (reportFlow x now s)) := by
  obtain ⟨hserves, hcomplete⟩ := h
  rw [exec_reportFlow_open x hserves, whenComplete_complete _ hcomplete, whenTime_set _ hnow]

/-- A report of a reach of the line writes its entry and is answered DONE. -/
theorem exec_reportFlow_reach {m : Master} {x : FlowArgs} {s : State} {now : Nat} {r : Fin 15}
    (h : s.able m [.dispatch, .link]) (hnow : s.now = some now) (hr : r.val = x.reach)
    (hin : x.reach + 1 < s.profile.count) :
    exec (.reportFlow m (some x)) s =
      .next (sendReply m (.done (.flowTaken (if x.reverse then 0 else x.flow) s.tracker.flows[r].state))
        (s.setFlow r ⟨if x.reverse then 0 else x.flow, x.reverse, some now, .fresh⟩)) := by
  rw [exec_reportFlow_able x h hnow, reportFlow_reach now hr hin, done, respond_done]

/-- Settles O21 (R41): the four refusals in their order, and then the entry that a report writes. -/
theorem flowReportsAreWritten : Obligations.FlowReportsAreWritten := by
  intro m x s hpower
  refine ⟨fun hclass => ?_, fun hclass hincomplete => ?_, fun ⟨hserves, hcomplete⟩ hunset => ?_,
    fun now hable hnow => ⟨fun hout => ?_, fun r hr hin => ?_⟩⟩
  · exact exec_class rfl hpower (Bool.eq_false_iff.mpr (mt (mayUse_reportFlow_iff _).mp hclass))
  · apply refuses_of rfl
    rw [exec_reportFlow_open x ⟨hpower, hclass⟩, whenComplete_incomplete _ hincomplete]
  · apply refuses_of rfl
    rw [exec_reportFlow_open x hserves, whenComplete_complete _ hcomplete, whenTime_unset _ hunset]
  · apply refuses_of rfl
    rw [exec_reportFlow_able x hable hnow, reportFlow_outside now hout]
  · refine ⟨_, exec_reportFlow_reach hable hnow hr hin, ?_, rfl, sendReply_replied m _ _⟩
    exact ((setFlow_only s r _).mono (by simp)).then (sendReply_only m _ _) (by simp)

end Sys2Proof.Machine
end

/-! PROOF. SET SIGNALLER SERVICE (R102) and DISCARD PASSAGE (R113): the checks that both pass as
commands of DISPATCH with a complete profile, and what each writes. -/

namespace Sys2Proof.Machine

/-! ## Commands that certain classes may use, while the profile is complete (R15, R179) -/

/-- A class outside the command's row of R179 is refused CLASS. -/
theorem refuses_class {i : Instr} {m : Master} {k : Command} {l : List MasterClass} {s : State}
    (hi : i.request = some (m, k)) (hk : ∀ c, mayUse c k = true ↔ c ∈ l) (hp : s.powered = true)
    (hc : (s.context m).cls ∉ l) : Refuses i .cls s :=
  exec_class hi hp (Bool.eq_false_iff.mpr (mt (hk _).mp hc))

theorem serve_incomplete {m : Master} {k : Command} {l : List MasterClass} (body : State → State × Answer) {s : State}
    (hk : ∀ c, mayUse c k = true ↔ c ∈ l) (h : s.serves m l) (hincomplete : s.profile.complete = false) :
    serve m k (whenComplete body) s = .next (respond m k.code (refuse .state s)) := by
  rw [serve_open m k _ s h.1 ((hk _).mpr h.2), whenComplete_incomplete _ hincomplete]

/-- With the profile complete, the answer is that of the command's own rule. -/
theorem serve_able {m : Master} {k : Command} {l : List MasterClass} (body : State → State × Answer) {s : State}
    (hk : ∀ c, mayUse c k = true ↔ c ∈ l) (h : s.able m l) :
    serve m k (whenComplete body) s = .next (respond m k.code (body s)) := by
  obtain ⟨⟨hpower, hclass⟩, hcomplete⟩ := h
  rw [serve_open m k _ s hpower ((hk _).mpr hclass), whenComplete_complete _ hcomplete]

/-! ## The runtime record of one signaller -/

theorem withSignaller_above {n : Nat} (body : State → State × Answer) {s : State} (h : 31 < n) :
    withSignaller n body s = refuse .range s := by simp only [withSignaller, if_pos h]

theorem withSignaller_undefined {n : Nat} (body : State → State × Answer) {s : State} (h : n ≤ 31)
    (hundefined : s.profile.signaller? n = none) : withSignaller n body s = refuse .noSuch s := by
  simp [withSignaller, Nat.not_lt.mpr h, hundefined]

theorem withSignaller_defined {k : Fin 32} (body : State → State × Answer) {s : State}
    (hdefined : s.profile.signaller? k.val ≠ none) : withSignaller k.val body s = body s := by
  have hk : ¬ 31 < k.val := by omega
  simp [withSignaller, hk, hdefined]

theorem runtime_val (s : State) (k : Fin 32) : s.runtime k.val = s.signallers[k] := by
  simp [State.runtime]

theorem setRuntime_val (s : State) (k : Fin 32) (r : SigRuntime) :
    s.setRuntime k.val r = s.setSignallers (s.signallers.set k r) := by
  have hset : s.signallers.setIfInBounds k.val r = s.signallers.set k r := by
    ext1 i hi
    simp only [Vector.getElem_setIfInBounds, Vector.getElem_set]
  rw [State.setRuntime, hset]

/-! ## SET SIGNALLER SERVICE (R102) -/

/-- The row of R179 for SET SIGNALLER SERVICE. -/
theorem mayUse_setSignallerService_iff (c : MasterClass) :
    mayUse c .setSignallerService = true ↔ c ∈ [MasterClass.dispatch] := by
  cases c <;> decide

/-- IN clears the missed count, OUT keeps it, and the rest of the record stays. -/
theorem serviced_eq (r : SigRuntime) (v : Service) :
    r.serviced v = { r with service := v, missed := if v = .inService then 0 else r.missed } := by
  cases v <;> rfl

theorem setSignallerService_defined {k : Fin 32} (v : Service) {s : State}
    (hdefined : s.profile.signaller? k.val ≠ none) :
    setSignallerService ⟨k.val, v⟩ s =
      done (.serviceHeld v (s.signallers[k].serviced v).missed)
        (s.setSignallers (s.signallers.set k (s.signallers[k].serviced v))) := by
  rw [setSignallerService, withSignaller_defined _ hdefined]
  simp only [runtime_val, setRuntime_val, done, serviced_eq]

theorem exec_setSignallerService_able {m : Master} {s : State} (x : ServiceArgs) (h : s.able m [.dispatch]) :
    exec (.setSignallerService m (some x)) s =
      .next (respond m Command.setSignallerService.code (setSignallerService x s)) :=
  serve_able (withParams (some x) setSignallerService) mayUse_setSignallerService_iff h

/-- A service setting of a defined signaller writes its record and is answered DONE. -/
theorem exec_setSignallerService_defined {m : Master} {k : Fin 32} {s : State} (v : Service) (h : s.able m [.dispatch])
    (hdefined : s.profile.signaller? k.val ≠ none) :
    exec (.setSignallerService m (some ⟨k.val, v⟩)) s =
      .next (sendReply m (.done (.serviceHeld v (s.signallers[k].serviced v).missed))
        (s.setSignallers (s.signallers.set k (s.signallers[k].serviced v)))) := by
  rw [exec_setSignallerService_able _ h, setSignallerService_defined v hdefined, done, respond_done]

/-- Settles O38 (R102): the four refusals in their order, and then the record that the command writes. -/
theorem serviceIsSet : Obligations.ServiceIsSet := by
  intro m n v s hpower
  refine ⟨fun hclass => ?_, fun hclass hincomplete => ?_,
    fun hable => ⟨fun habove => ?_, fun hn hundefined => ?_, fun k hk hdefined => ?_⟩⟩
  · exact refuses_class rfl mayUse_setSignallerService_iff hpower (mt List.mem_singleton.mp hclass)
  · exact refuses_of rfl
      (serve_incomplete _ mayUse_setSignallerService_iff ⟨hpower, List.mem_singleton.mpr hclass⟩ hincomplete)
  · apply refuses_of rfl
    rw [exec_setSignallerService_able _ hable, setSignallerService, withSignaller_above _ habove]
  · apply refuses_of rfl
    rw [exec_setSignallerService_able _ hable, setSignallerService, withSignaller_undefined _ hn hundefined]
  · subst hk
    refine ⟨_, exec_setSignallerService_defined v hable hdefined, ?_, ?_, ?_⟩
    · exact ((setSignallers_only s _).mono (by simp)).then (sendReply_only m _ _) (by simp)
    · exact congrArg (s.signallers.set k ·) (serviced_eq _ v)
    · have hrecord : (s.signallers.set k (s.signallers[k].serviced v))[k] = s.signallers[k].serviced v :=
        Vector.getElem_set_self k.isLt
      exact hrecord.symm ▸ sendReply_replied m _ _

/-! ## The unmatched list, by name -/

theorem named_iff {n q : Nat} {e : UnmatchedEntry} : e.named n q = true ↔ e.signaller = n ∧ e.sequence = q := by
  simp [UnmatchedEntry.named]

theorem not_named_iff {n q : Nat} {e : UnmatchedEntry} :
    ¬ e.named n q = true ↔ e.signaller ≠ n ∨ e.sequence ≠ q := by
  rw [named_iff, not_and_or]

/-- The first entry of a name, which is the older one, leaves the list, and the others keep their order. -/
theorem dropUnmatched_older {n q : Nat} {s : State} {older newer : List UnmatchedEntry} {e : UnmatchedEntry}
    (hlist : s.fixUnit.unmatched = older ++ e :: newer) (he : e.named n q = true)
    (holder : ∀ o ∈ older, ¬ o.named n q = true) :
    dropUnmatched n q s = s.setFixUnit { s.fixUnit with unmatched := older ++ newer } := by
  rw [dropUnmatched, hlist, List.eraseP_append_right _ holder, List.eraseP_cons_of_pos he]

/-! ## DISCARD PASSAGE (R113) -/

/-- The row of R179 for DISCARD PASSAGE. -/
theorem mayUse_discardPassage_iff (c : MasterClass) :
    mayUse c .discardPassage = true ↔ c ∈ [MasterClass.dispatch] := by
  cases c <;> decide

theorem discardPassage_above {x : DiscardArgs} {s : State} (h : 31 < x.signaller) :
    discardPassage x s = refuse .range s := by simp only [discardPassage, if_pos h]

theorem discardPassage_unheld {x : DiscardArgs} {s : State} (hn : x.signaller ≤ 31)
    (h : ∀ e ∈ s.fixUnit.unmatched, ¬ e.named x.signaller x.sequence = true) :
    discardPassage x s = refuse .noSuch s := by
  rw [discardPassage, if_neg (Nat.not_lt.mpr hn), List.any_eq_false.mpr h, if_neg Bool.false_ne_true]

theorem discardPassage_held {x : DiscardArgs} {s : State} {e : UnmatchedEntry} (hn : x.signaller ≤ 31)
    (hmem : e ∈ s.fixUnit.unmatched) (he : e.named x.signaller x.sequence = true) :
    discardPassage x s =
      done (.entriesLeft (dropUnmatched x.signaller x.sequence s).fixUnit.unmatched.length)
        (dropUnmatched x.signaller x.sequence s) := by
  rw [discardPassage, if_neg (Nat.not_lt.mpr hn), if_pos (List.any_eq_true.mpr ⟨e, hmem, he⟩), done]

theorem exec_discardPassage_able {m : Master} {s : State} (x : DiscardArgs) (h : s.able m [.dispatch]) :
    exec (.discardPassage m (some x)) s = .next (respond m Command.discardPassage.code (discardPassage x s)) :=
  serve_able (withParams (some x) discardPassage) mayUse_discardPassage_iff h

/-- A discard of an entry that the list holds takes the older one out and is answered DONE. -/
theorem exec_discardPassage_held {m : Master} {x : DiscardArgs} {s : State} {older newer : List UnmatchedEntry}
    {e : UnmatchedEntry} (h : s.able m [.dispatch]) (hn : x.signaller ≤ 31)
    (hlist : s.fixUnit.unmatched = older ++ e :: newer) (he : e.named x.signaller x.sequence = true)
    (holder : ∀ o ∈ older, ¬ o.named x.signaller x.sequence = true) :
    exec (.discardPassage m (some x)) s =
      .next (sendReply m (.done (.entriesLeft (older.length + newer.length)))
        (s.setFixUnit { s.fixUnit with unmatched := older ++ newer })) := by
  have hmem : e ∈ s.fixUnit.unmatched := by simp [hlist]
  rw [exec_discardPassage_able x h, discardPassage_held hn hmem he, dropUnmatched_older hlist he holder, done,
    respond_done, State.setFixUnit_fixUnit, List.length_append]

/-- Settles O39 (R113): the four refusals in their order, and then the older entry of the name leaves the list. -/
theorem discardPassageCommand : Obligations.DiscardPassageCommand := by
  intro m x s hpower
  refine ⟨fun hclass => ?_, fun hclass hincomplete => ?_, fun hable => ⟨fun habove => ?_, fun hn hunheld => ?_,
    fun older e newer hn hlist hsignaller hsequence holder => ?_⟩⟩
  · exact refuses_class rfl mayUse_discardPassage_iff hpower (mt List.mem_singleton.mp hclass)
  · exact refuses_of rfl
      (serve_incomplete _ mayUse_discardPassage_iff ⟨hpower, List.mem_singleton.mpr hclass⟩ hincomplete)
  · apply refuses_of rfl
    rw [exec_discardPassage_able x hable, discardPassage_above habove]
  · apply refuses_of rfl
    rw [exec_discardPassage_able x hable, discardPassage_unheld hn (fun o ho => not_named_iff.mpr (hunheld o ho))]
  · refine ⟨_, exec_discardPassage_held hable hn hlist (named_iff.mpr ⟨hsignaller, hsequence⟩)
      (fun o ho => not_named_iff.mpr (holder o ho)), ?_, rfl, sendReply_replied m _ _⟩
    exact ((setFixUnit_only s _).mono (by simp)).then (sendReply_only m _ _) (by simp)

end Sys2Proof.Machine

/-! PROOF. SET HOLD, RELEASE HOLD (R121, R122) and CLEAR HOLDS (R123): what one change of a hold set does, what several
postings of one kind leave, and how the changes of the stations of the line add up to both. -/

namespace Sys2Proof.Machine

/-! ## The station of a request -/

theorem withStation_outside {n : Nat} (body : Fin 16 → State → State × Answer) {s : State}
    (h : s.profile.count ≤ n) : withStation n body s = refuse .range s := by
  simp [withStation, Profile.stationIndex, Nat.not_lt.mpr h]

theorem withStation_inside {st : Fin 16} (body : Fin 16 → State → State × Answer) {s : State}
    (h : st.val < s.profile.count) : withStation st.val body s = body st s := by
  simp [withStation, Profile.stationIndex, h]

/-! ## One change of a hold set (R120, R133) -/

/-- A posting writes the same port wherever the port and line time are the same. -/
theorem post_port_congr (k : AttnKind) (x : Option Subject) {s t : State} (hport : t.port = s.port)
    (hnow : t.now = s.now) : (post k x t).port = (post k x s).port := by
  simp [post, hport, hnow]

/-- What a change of one hold set may change: the valve records and the port. -/
theorem changeHold_only (st : Fin 16) (h : HoldSet) (s : State) :
    OnlyChanges [.valves, .port] s (changeHold st h s) := by
  have hvalve (v : Valve) : OnlyChanges [.valves, .port] s (s.setValve st v) := (setValves_only s _).mono (by simp)
  simp only [changeHold]
  split
  · exact OnlyChanges.refl _ s
  · split
    · exact (hvalve _).then (post_only _ _ _) (by simp)
    · exact hvalve _

/-- The one record that a change of a hold set writes: its hold set, and its contact where the set is another. -/
theorem changeHold_valves (st k : Fin 16) (h : HoldSet) (s : State) :
    (changeHold st h s).valves[k] =
      if k = st then
        { s.valves[st] with
          hold := h
          contact := if h = s.valves[st].hold then s.valves[st].contact else contactFor s st h }
      else s.valves[k] := by
  simp only [changeHold]
  split
  next hsame => split <;> simp_all
  next hother =>
    have hposted (p : Prop) [Decidable p] (x : Option Subject) (u : State) :
        (if p then post .holdChange x u else u).valves = u.valves := by split <;> rfl
    simp only [hposted, setValve_valves]

/-- HOLD_CHANGE is posted exactly where the set passes between empty and non-empty. -/
theorem changeHold_port (st : Fin 16) (h : HoldSet) (s : State) :
    (changeHold st h s).port =
      if h = 0#7 ↔ s.valves[st].hold = 0#7 then s.port else (post .holdChange (some (.station st)) s).port := by
  simp only [changeHold]
  split
  next hsame => simp [hsame]
  next hother =>
    by_cases hnew : h = 0#7 <;> by_cases hold : s.valves[st].hold = 0#7
    · exact absurd (hnew.trans hold.symm) hother
    all_goals simp only [hnew, hold]; rfl

theorem contactFor_powered {s : State} (hpower : s.powered = true) (st : Fin 16) (h : HoldSet) :
    contactFor s st h = (s.now.isSome && decide (st.val < s.profile.count) && h == 0#7) := by
  simp [contactFor, hpower]

/-- What a contact is set to does not depend on the valve records or the port. -/
theorem contactFor_congr {s t : State} (ht : OnlyChanges [.valves, .port] s t) (st : Fin 16) (h : HoldSet) :
    contactFor t st h = contactFor s st h := by
  have hpower : t.powered = s.powered := ht .powered (by simp)
  have hnow : t.now = s.now := congrArg LineClock.lineTime (ht .clock (by simp))
  have hprofile : t.profile = s.profile := congrArg ProfileStore.running (ht .store (by simp))
  rw [contactFor, contactFor, hpower, hnow, hprofile]

/-- At a part with power `changeHold` is a change of one hold set's membership, whole. -/
theorem changeHold_holdChanged {s : State} (hpower : s.powered = true) (st : Fin 16) (h : HoldSet) :
    HoldChanged st h s (changeHold st h s) := by
  have hst := changeHold_valves st st h s
  rw [if_pos rfl] at hst
  refine ⟨(changeHold_only st h s).mono (by simp), fun k hk => ?_, by simp [hst], by simp [hst], fun hsame => ?_,
    fun hother => ?_, fun hstays => ?_, fun hcrosses => ?_⟩
  · rw [changeHold_valves, if_neg hk]
  · simp only [hst, if_pos hsame]
  · simp only [hst, if_neg hother, contactFor_powered hpower]
  · rw [changeHold_port, if_pos hstays]
  · rw [changeHold_port, if_neg hcrosses]

/-- The reply to a change of a hold set is no further change of it. -/
theorem HoldChanged.sendReply {st : Fin 16} {h : HoldSet} {s t : State} (ht : HoldChanged st h s t) (m : Master)
    (a : Answer) : HoldChanged st h s (sendReply m a t) := by
  obtain ⟨honly, hrest⟩ := ht
  exact ⟨honly.then (sendReply_only m a t) (by simp), hrest⟩

/-! ## SET HOLD and RELEASE HOLD (R121, R122) -/

/-- The row of R179 for SET HOLD. -/
theorem mayUse_setHold_iff (c : MasterClass) : mayUse c .setHold = true ↔ c ∈ [MasterClass.dispatch, .link] := by
  cases c <;> decide

/-- The row of R179 for RELEASE HOLD. -/
theorem mayUse_releaseHold_iff (c : MasterClass) :
    mayUse c .releaseHold = true ↔ c ∈ [MasterClass.dispatch, .link] := by
  cases c <;> decide

theorem exec_setHold_able {m : Master} {s : State} (n : Nat) (h : s.able m [.dispatch, .link]) :
    exec (.setHold m (some n)) s = .next (respond m Command.setHold.code (setHold m n s)) :=
  serve_able (withParams (some n) (setHold m)) mayUse_setHold_iff h

theorem exec_releaseHold_able {m : Master} {s : State} (n : Nat) (h : s.able m [.dispatch, .link]) :
    exec (.releaseHold m (some n)) s = .next (respond m Command.releaseHold.code (releaseHold m n s)) :=
  serve_able (withParams (some n) (releaseHold m)) mayUse_releaseHold_iff h

theorem releaseHold_inside {st : Fin 16} {m : Master} {s : State} (h : st.val < s.profile.count) :
    releaseHold m st.val s =
      if s.valves[st].hold.getLsbD m then
        holdAnswer st (changeHold st (s.valves[st].hold &&& ~~~ masterBit m) s)
      else refuse .notOwner s := by
  rw [releaseHold, withStation_inside _ h]

/-- A changed hold set is answered DONE with the set now held. -/
theorem respond_holdAnswer {s : State} (hpower : s.powered = true) (m : Master) (code : Nat) (st : Fin 16)
    (h : HoldSet) :
    HoldChanged st h s (respond m code (holdAnswer st (changeHold st h s))) ∧
      Replied m (.done (.holdSet (respond m code (holdAnswer st (changeHold st h s))).valves[st].hold))
        (respond m code (holdAnswer st (changeHold st h s))) := by
  rw [holdAnswer, done, respond_done]
  exact ⟨(changeHold_holdChanged hpower st h).sendReply m _, sendReply_replied m _ _⟩

/-- Settles O9 (R121, R122): the refusals of both commands in their order, and then the set that each leaves. -/
theorem holdCommands : Obligations.HoldCommands := by
  intro m n s hpower
  refine ⟨fun hclass => ⟨?_, ?_⟩, fun hclass hincomplete => ⟨?_, ?_⟩, fun hable hout => ⟨?_, ?_⟩,
    fun hable hin st hst => ?_⟩
  · exact refuses_class rfl mayUse_setHold_iff hpower hclass
  · exact refuses_class rfl mayUse_releaseHold_iff hpower hclass
  · exact refuses_of rfl (serve_incomplete _ mayUse_setHold_iff ⟨hpower, hclass⟩ hincomplete)
  · exact refuses_of rfl (serve_incomplete _ mayUse_releaseHold_iff ⟨hpower, hclass⟩ hincomplete)
  · apply refuses_of rfl
    rw [exec_setHold_able n hable, setHold, withStation_outside _ hout]
  · apply refuses_of rfl
    rw [exec_releaseHold_able n hable, releaseHold, withStation_outside _ hout]
  · subst hst
    refine ⟨?_, fun hstranger => ?_, fun hmember => ?_⟩
    · rw [exec_setHold_able _ hable, setHold, withStation_inside _ hin]
      exact ⟨_, rfl, respond_holdAnswer hpower m _ st _⟩
    · apply refuses_of rfl
      rw [exec_releaseHold_able _ hable, releaseHold_inside hin, hstranger, if_neg Bool.false_ne_true]
    · rw [exec_releaseHold_able _ hable, releaseHold_inside hin, if_pos hmember]
      exact ⟨_, rfl, respond_holdAnswer hpower m _ st _⟩

/-! ## Several postings of one kind (R181) -/

/-- One kind posted once for each of these subjects, in this order. -/
def postEach (k : AttnKind) (subjects : List Subject) (s : State) : State :=
  subjects.foldl (fun s x => post k (some x) s) s

@[simp] theorem postEach_nil (k : AttnKind) (s : State) : postEach k [] s = s := rfl

theorem postEach_cons (k : AttnKind) (x : Subject) (xs : List Subject) (s : State) :
    postEach k (x :: xs) s = postEach k xs (post k (some x) s) := rfl

theorem postEach_port_congr (k : AttnKind) (xs : List Subject) {s t : State} (hport : t.port = s.port)
    (hnow : t.now = s.now) : (postEach k xs t).port = (postEach k xs s).port := by
  induction xs generalizing s t with
  | nil => exact hport
  | cons x xs ih => exact ih (post_port_congr k (some x) hport hnow) hnow

/-- Postings leave the drop record alone, and what no posting writes of a context. -/
theorem postEach_kept (k : AttnKind) (xs : List Subject) (s : State) : ContextsKept s (postEach k xs s) := by
  induction xs generalizing s with
  | nil => exact ⟨fun _ => rfl, rfl, rfl⟩
  | cons x xs ih => exact (post_effects k (some x) s).contexts.trans (ih _)

theorem ContextsKept.of_port {s t u : State} (h : ContextsKept s u) (hport : t.port = u.port) : ContextsKept s t := by
  simpa only [ContextsKept, State.context, hport] using h

theorem postEach_detail_ne (k : AttnKind) (xs : List Subject) (s : State) {j : Fin 16} (hj : j ≠ k.bit) :
    (postEach k xs s).port.detail[j] = s.port.detail[j] := by
  induction xs generalizing s with
  | nil => rfl
  | cons x xs ih => rw [postEach_cons, ih, post_detail, if_neg hj]

theorem postEach_attention (k : AttnKind) {xs : List Subject} (s : State) (hxs : xs ≠ []) (m : Master) :
    ((postEach k xs s).context m).attention = (s.context m).attention ||| k.mask := by
  induction xs generalizing s with
  | nil => exact absurd rfl hxs
  | cons x xs ih =>
    have hpost : ((post k (some x) s).context m).attention = (s.context m).attention ||| k.mask := by
      rw [post_context]; rfl
    rw [postEach_cons]
    by_cases hrest : xs = []
    · rw [hrest, postEach_nil, hpost]
    · rw [ih _ hrest, hpost, BitVec.or_assoc, BitVec.or_self]

/-- Of its detail entry a row of postings leaves line time and the saturated count of them all. -/
theorem postEach_detail (k : AttnKind) {xs : List Subject} (s : State) (hxs : xs ≠ []) :
    (postEach k xs s).port.detail[k.bit].count = min (s.port.detail[k.bit].count + xs.length) 65535 ∧
      (postEach k xs s).port.detail[k.bit].time = s.now := by
  induction xs generalizing s with
  | nil => exact absurd rfl hxs
  | cons x xs ih =>
    have hpost : (post k (some x) s).port.detail[k.bit] = ⟨some x, s.now, bump s.port.detail[k.bit].count⟩ := by
      rw [post_detail, if_pos rfl]
    rw [postEach_cons]
    by_cases hrest : xs = []
    · simp [hrest, hpost, bump]
    · obtain ⟨hcount, htime⟩ := ih (post k (some x) s) hrest
      refine ⟨?_, htime⟩
      simp only [hcount, hpost, List.length_cons, bump]
      omega

theorem keepSubject_detail_ne (k : AttnKind) (choice : Nat) (l : List Subject) (s : State) {j : Fin 16}
    (hj : j ≠ k.bit) : (keepSubject k choice l s).port.detail[j] = s.port.detail[j] := by
  unfold keepSubject
  split
  · rfl
  · simp [Fin.val_ne_of_ne hj.symm]

theorem keepSubject_kept (k : AttnKind) (choice : Nat) (l : List Subject) (s : State) :
    ContextsKept s (keepSubject k choice l s) := by
  unfold keepSubject
  split <;> exact ⟨fun _ => rfl, rfl, rfl⟩

/-! ## Clearing the hold sets of several stations -/

theorem empties_iff {s : State} {st : Fin 16} :
    empties s st = true ↔ s.valves[st].hold ≠ 0#7 ∧ s.valves[st].hold &&& watchBit = 0#7 := by
  simp [empties]

/-- A station's own hold set decides whether clearing empties it. -/
theorem empties_congr {s t : State} {st : Fin 16} (h : t.valves[st] = s.valves[st]) : empties t st = empties s st := by
  simp only [empties, h]

theorem clearHold_only (s : State) (st : Fin 16) : OnlyChanges [.valves, .port] s (clearHold s st) :=
  changeHold_only st _ s

theorem clearHold_valves_ne (s : State) {st k : Fin 16} (hk : k ≠ st) : (clearHold s st).valves[k] = s.valves[k] := by
  rw [clearHold, changeHold_valves, if_neg hk]

/-- A clearing posts HOLD_CHANGE exactly where it empties the set. -/
theorem clearHold_port (s : State) (st : Fin 16) :
    (clearHold s st).port = if empties s st then (post .holdChange (some (.station st)) s).port else s.port := by
  have hkeeps : s.valves[st].hold = 0#7 → s.valves[st].hold &&& watchBit = 0#7 := fun h => by rw [h]; rfl
  rw [clearHold, changeHold_port]
  by_cases hempties : empties s st
  · obtain ⟨hold, hnew⟩ := empties_iff.mp hempties
    rw [if_pos hempties, if_neg (fun h => hold (h.mp hnew))]
  · rw [if_neg hempties, if_pos ⟨fun hnew => by_contra fun hold => hempties (empties_iff.mpr ⟨hold, hnew⟩), hkeeps⟩]

/-- What clearing leaves of a station's record depends on that record, power, line time and the profile. -/
theorem clearHold_valves_congr {s t : State} (ht : OnlyChanges [.valves, .port] s t) {st : Fin 16}
    (hst : t.valves[st] = s.valves[st]) : (clearHold t st).valves[st] = (clearHold s st).valves[st] := by
  simp only [clearHold, changeHold_valves, if_pos, hst, contactFor_congr ht]

theorem foldl_clearHold_only (l : List (Fin 16)) (s : State) :
    OnlyChanges [.valves, .port] s (l.foldl clearHold s) :=
  OnlyChanges.foldl clearHold clearHold_only l s

/-- Each station cleared gets the record that its own clearing leaves. -/
theorem foldl_clearHold_valves {l : List (Fin 16)} (hl : l.Nodup) (s : State) (k : Fin 16) :
    (l.foldl clearHold s).valves[k] = if k ∈ l then (clearHold s k).valves[k] else s.valves[k] := by
  induction l generalizing s with
  | nil => rfl
  | cons st l ih =>
    obtain ⟨hst, hl⟩ := List.nodup_cons.mp hl
    rw [List.foldl_cons, ih hl]
    by_cases hk : k = st
    · subst hk
      rw [if_neg hst, if_pos List.mem_cons_self]
    · have hkeeps := clearHold_valves_ne s hk
      simp only [List.mem_cons, hk, false_or, clearHold_valves_congr (clearHold_only s st) hkeeps, hkeeps]

/-- The stations as the subjects of postings. -/
def stationSubjects (l : List (Fin 16)) : List Subject := l.map (fun st : Fin 16 => .station st.val)

theorem stationSubjects_cons (st : Fin 16) (l : List (Fin 16)) :
    stationSubjects (st :: l) = .station st.val :: stationSubjects l := rfl

theorem stationSubjects_length (l : List (Fin 16)) : (stationSubjects l).length = l.length := List.length_map _

theorem stationSubjects_ne_nil {l : List (Fin 16)} (h : l ≠ []) : stationSubjects l ≠ [] :=
  mt List.map_eq_nil_iff.mp h

/-- Clearing several stations posts HOLD_CHANGE once for each that it empties, in their order. -/
theorem foldl_clearHold_port {l : List (Fin 16)} (hl : l.Nodup) (s : State) :
    (l.foldl clearHold s).port = (postEach .holdChange (stationSubjects (l.filter (empties s))) s).port := by
  induction l generalizing s with
  | nil => rfl
  | cons st l ih =>
    obtain ⟨hst, hl⟩ := List.nodup_cons.mp hl
    have hrest : l.filter (empties (clearHold s st)) = l.filter (empties s) :=
      List.filter_congr fun k hk =>
        empties_congr (clearHold_valves_ne s (fun h => hst (h ▸ hk)))
    have hnow : (clearHold s st).now = s.now := congrArg LineClock.lineTime (clearHold_only s st .clock (by simp))
    have hport := clearHold_port s st
    rw [List.foldl_cons, ih hl, hrest]
    by_cases hempties : empties s st
    · rw [if_pos hempties] at hport
      rw [List.filter_cons_of_pos hempties, stationSubjects_cons, postEach_cons]
      exact postEach_port_congr _ _ hport hnow
    · rw [if_neg hempties] at hport
      rw [List.filter_cons_of_neg hempties]
      exact postEach_port_congr _ _ hport hnow

/-! ## CLEAR HOLDS (R123) -/

/-- The row of R179 for CLEAR HOLDS. -/
theorem mayUse_clearHolds_iff (c : MasterClass) : mayUse c .clearHolds = true ↔ c ∈ [MasterClass.dispatch] := by
  cases c <;> decide

theorem exec_clearHolds_able {m : Master} {s : State} (x : Option Nat) (h : s.able m [.dispatch]) :
    exec (.clearHolds m (some x)) s = .next (respond m Command.clearHolds.code (clearHolds x s)) :=
  serve_able (withParams (some x) clearHolds) mayUse_clearHolds_iff h

theorem stations_nodup (s : State) : s.stations.Nodup := (List.nodup_finRange 16).filter _

theorem mem_stations {s : State} {st : Fin 16} : st ∈ s.stations ↔ st.val < s.profile.count := by
  simp [State.stations]

/-- The stations of the line that clearing all of them empties. -/
def State.emptied (s : State) : List (Fin 16) := s.stations.filter (empties s)

theorem mem_emptied {s : State} {st : Fin 16} :
    st ∈ s.emptied ↔
      st.val < s.profile.count ∧ s.valves[st].hold ≠ 0#7 ∧ s.valves[st].hold &&& 0x40#7 = 0#7 := by
  rw [State.emptied, List.mem_filter, mem_stations, empties_iff, watchBit]

theorem emptied_length (s : State) :
    s.emptied.length = (List.finRange 16).countP (fun st => decide (st.val < s.profile.count ∧
      s.valves[st].hold ≠ 0#7 ∧ s.valves[st].hold &&& 0x40#7 = 0#7)) := by
  rw [State.emptied, ← List.countP_eq_length_filter, State.stations, List.countP_filter]
  refine List.countP_congr fun st _ => ?_
  rw [Bool.and_eq_true, empties_iff, decide_eq_true_iff, decide_eq_true_iff, watchBit, and_comm]

/-- The subjects that the model chooses from are the stations emptied. -/
theorem lastCleared_eq (l : List (Fin 16)) (s : State) :
    lastCleared l s = keepSubject .holdChange (Config.clearedLast (l.map (·.val))) (stationSubjects l) s := by
  simp [lastCleared, stationSubjects, ← List.map_eq_flatMap, Function.comp_def]

/-- The state that CLEAR HOLDS of all stations leaves, before its reply. -/
def clearAll (s : State) : State := lastCleared s.emptied (s.stations.foldl clearHold s)

theorem exec_clearHolds_all {m : Master} {s : State} (h : s.able m [.dispatch]) :
    exec (.clearHolds m (some none)) s =
      .next (sendReply m (.done (.emptied s.emptied.length)) (clearAll s)) := by
  rw [exec_clearHolds_able _ h, clearHolds, respond_done, List.countP_eq_length_filter]
  rfl

theorem clearAll_only (s : State) : OnlyChanges [.valves, .port] s (clearAll s) :=
  (foldl_clearHold_only _ s).then (keepSubject_only _ _ _ _) (by simp)

theorem clearAll_valves {s : State} (hpower : s.powered = true) (st : Fin 16) :
    (clearAll s).valves[st] =
      if st.val < s.profile.count ∧ s.valves[st].hold &&& 0x40#7 ≠ s.valves[st].hold then
        { s.valves[st] with
          hold := s.valves[st].hold &&& 0x40#7
          contact := s.now.isSome && s.valves[st].hold &&& 0x40#7 == 0#7 }
      else s.valves[st] := by
  have hkept : (clearAll s).valves = (s.stations.foldl clearHold s).valves :=
    keepSubject_only _ _ _ _ .valves (by simp)
  simp only [hkept, foldl_clearHold_valves (stations_nodup s), mem_stations, clearHold, changeHold_valves, watchBit,
    contactFor_powered hpower]
  by_cases hin : st.val < s.profile.count
  · by_cases hsame : s.valves[st].hold &&& 0x40#7 = s.valves[st].hold
    · simp only [hin, if_true, hsame, ne_eq, not_true, and_false, if_false]
    · simp only [hin, hsame, if_true, if_false, ne_eq, not_false_iff, and_true, decide_true, Bool.and_true]
  · simp only [hin, false_and, if_false]

theorem clearAll_kept (s : State) : ContextsKept s (clearAll s) :=
  have hposts : ContextsKept s (s.stations.foldl clearHold s) :=
    (postEach_kept .holdChange _ s).of_port (foldl_clearHold_port (stations_nodup s) s)
  hposts.trans (keepSubject_kept _ _ _ _)

theorem clearAll_port_of_none {s : State} (h : s.emptied = []) : (clearAll s).port = s.port := by
  have hport := foldl_clearHold_port (stations_nodup s) s
  rw [← State.emptied, h] at hport
  rw [clearAll, h]
  exact hport

theorem clearAll_detail_ne (s : State) {k : Fin 16} (hk : k ≠ 7) :
    (clearAll s).port.detail[k] = s.port.detail[k] := by
  rw [clearAll, lastCleared, keepSubject_detail_ne _ _ _ _ hk, foldl_clearHold_port (stations_nodup s),
    postEach_detail_ne _ _ _ hk]

theorem clearAll_attention {s : State} (h : s.emptied ≠ []) (m : Master) :
    ((clearAll s).context m).attention = (s.context m).attention ||| AttnKind.holdChange.mask := by
  rw [clearAll, lastCleared_eq, State.context, keepSubject_contexts, foldl_clearHold_port (stations_nodup s)]
  exact postEach_attention _ _ (stationSubjects_ne_nil h) m

/-- Where a set was emptied, the detail entry of HOLD_CHANGE counts those emptied and keeps one of them. -/
theorem clearAll_detail {s : State} (h : s.emptied ≠ []) :
    (clearAll s).port.detail[(7 : Fin 16)].count = min (s.port.detail[(7 : Fin 16)].count + s.emptied.length) 65535 ∧
      (clearAll s).port.detail[(7 : Fin 16)].time = s.now ∧
      ∃ st ∈ s.emptied, (clearAll s).port.detail[(7 : Fin 16)].subject = some (.station st.val) := by
  have hsubjects := stationSubjects_ne_nil h
  obtain ⟨hcount, htime⟩ := postEach_detail .holdChange s hsubjects
  obtain ⟨x, hx, hdetail⟩ := keepSubject_detail .holdChange (Config.clearedLast (s.emptied.map (·.val)))
    (stationSubjects s.emptied) (s.stations.foldl clearHold s) hsubjects
  obtain ⟨st, hst, rfl⟩ := List.mem_map.mp hx
  rw [foldl_clearHold_port (stations_nodup s)] at hdetail
  have hentry : (clearAll s).port.detail[(7 : Fin 16)] =
      { (postEach .holdChange (stationSubjects s.emptied) s).port.detail[AttnKind.holdChange.bit] with
        subject := some (.station st.val) } := by
    rw [clearAll, lastCleared_eq]
    exact hdetail
  rw [hentry]
  rw [stationSubjects_length] at hcount
  exact ⟨hcount, htime, st, hst, rfl⟩

/-- Settles O10 (R123): the refusals in their order, then the clearing of one station and of all. -/
theorem clearHoldsCommand : Obligations.ClearHoldsCommand := by
  intro m s hpower
  refine ⟨fun hclass x => ?_, fun hclass hincomplete x => ?_, fun hable => ⟨fun n hout => ?_, fun st hin => ?_, ?_⟩⟩
  · exact refuses_class rfl mayUse_clearHolds_iff hpower (mt List.mem_singleton.mp hclass)
  · exact refuses_of rfl
      (serve_incomplete _ mayUse_clearHolds_iff ⟨hpower, List.mem_singleton.mpr hclass⟩ hincomplete)
  · apply refuses_of rfl
    rw [exec_clearHolds_able _ hable, clearHolds, withStation_outside _ hout]
  · rw [exec_clearHolds_able _ hable, clearHolds, withStation_inside _ hin, respond_done]
    refine ⟨_, rfl, (changeHold_holdChanged hpower st _).sendReply m _, ?_⟩
    simp only [empties_iff, watchBit]
    exact sendReply_replied m _ _
  · rw [exec_clearHolds_all hable]
    refine ⟨_, rfl, ?_⟩
    rw [← emptied_length]
    obtain ⟨hown, hdrops, hlast⟩ := clearAll_kept s
    refine ⟨clearAll_valves hpower, ((clearAll_only s).mono (by simp)).then (sendReply_only m _ _) (by simp),
      sendReply_replied m _ _, fun hnone => clearAll_port_of_none (List.length_eq_zero_iff.mp hnone), hdrops, hlast,
      fun k hk => clearAll_detail_ne s hk, fun hsome k => ⟨hown k, ?_⟩, fun hsome => ?_⟩
    · exact clearAll_attention (mt List.length_eq_zero_iff.mpr hsome) k
    · obtain ⟨hcount, htime, st, hst, hsubject⟩ := clearAll_detail (mt List.length_eq_zero_iff.mpr hsome)
      obtain ⟨hin, hheld, hempty⟩ := mem_emptied.mp hst
      exact ⟨hcount, htime, st, hin, hheld, hempty, hsubject⟩

end Sys2Proof.Machine

/-! PROOF. REPORT PRESSURE (R154) and RECOVER TRAP (R166): what each writes, and why no other command or event takes a
trap out of UNKNOWN: an UNKNOWN trap has no step in progress, TRAP STEP begins none from UNKNOWN, and apart from the
ends of a step a trap's state changes only at a restart or a power-on, and those keep UNKNOWN. -/

namespace Sys2Proof.Machine

/-! ## The record of a trap -/

@[simp] theorem setTrap_trap (s : State) (x y : TrapId) (r : TrapRecord) :
    (s.setTrap x r).trap y = if y = x then r else s.trap y := by
  cases x <;> cases y <;> rfl

@[simp] theorem setTrap_launchOverdue (s : State) (x : TrapId) (r : TrapRecord) :
    (s.setTrap x r).traps.launchOverdue = s.traps.launchOverdue := by
  cases x <;> rfl

@[simp] theorem setLaunchOverdue_trap (s : State) (d : Option Nat) : (s.setLaunchOverdue d).trap = s.trap := by
  funext x
  cases x <;> rfl

theorem OnlyChanges.trap_eq {l : List Block} {s t : State} (h : OnlyChanges l s t) (hl : Block.traps ∉ l) :
    t.trap = s.trap := congrArg Traps.record (h .traps hl)

theorem WatchEffects.trap_eq {s t : State} (h : WatchEffects s t) : t.trap = s.trap := h.1.trap_eq (by simp)

/-! ## REPORT PRESSURE (R154) -/

/-- The row of R179 for REPORT PRESSURE. -/
theorem mayUse_reportPressure_iff (c : MasterClass) :
    mayUse c .reportPressure = true ↔ c ∈ [MasterClass.link, .trap] := by
  cases c <;> decide

theorem pressureGap_eq_natAbs (a b : Nat) : pressureGap a b = ((a : Int) - b).natAbs := by
  simp only [pressureGap]
  omega

theorem optWithin_zero_iff {n : Nat} {o : Option Nat} : optWithin 0 n o = true ↔ ∀ k, o = some k → k ≤ n := by
  cases o <;> simp [optWithin, within]

/-- A report is in range exactly where it carries a pressure, and none above 20,000 kPa. -/
theorem pressuresOk_iff {x : PressureArgs} :
    pressuresOk x = true ↔
      (∀ k, x.barrel = some k ∨ x.line = some k → k ≤ 20000) ∧ (x.barrel ≠ none ∨ x.line ≠ none) := by
  simp only [pressuresOk, Bool.and_eq_true, Bool.or_eq_true, optWithin_zero_iff, Option.isSome_iff_ne_none,
    or_imp, forall_and]

/-- The record of a trap after a report. -/
def TrapRecord.reported (r : TrapRecord) (x : PressureArgs) (now : Option Nat) : TrapRecord :=
  { r with barrel := newPressure x.barrel now r.barrel, line := newPressure x.line now r.line }

theorem reportPressure_outside {x : PressureArgs} {s : State} (h : ¬ pressuresOk x = true) :
    reportPressure x s = refuse .range s := if_neg h

theorem reportPressure_inside {x : PressureArgs} {s : State} (h : pressuresOk x = true) :
    reportPressure x s =
      done (pressureData ((s.trap x.trap).reported x s.now)) (s.setTrap x.trap ((s.trap x.trap).reported x s.now)) :=
  if_pos h

/-- The data of a report's reply: both pressures held, and their difference where both are. -/
theorem pressureData_eq (r : TrapRecord) :
    pressureData r = .pressures (r.barrel.map (·.kPa)) (r.line.map (·.kPa))
      (match r.barrel, r.line with
        | some b, some l => some ((b.kPa : Int) - l.kPa).natAbs
        | _, _ => none) := by
  simp only [pressureData]
  cases r.barrel <;> cases r.line <;> simp [pressureGap_eq_natAbs]

theorem exec_reportPressure_able {m : Master} {s : State} (a : Carried PressureArgs) (h : s.able m [.link, .trap]) :
    exec (.reportPressure m a) s = .next (respond m Command.reportPressure.code (withParams a reportPressure s)) :=
  serve_able (withParams a reportPressure) mayUse_reportPressure_iff h

/-! ## RECOVER TRAP (R166) -/

/-- The row of R179 for RECOVER TRAP. -/
theorem mayUse_recoverTrap_iff (c : MasterClass) : mayUse c .recoverTrap = true ↔ c ∈ [MasterClass.dispatch] := by
  cases c <;> decide

/-- The state that a declaration leaves, before its posting and its reply. -/
def declared (x : RecoverArgs) (s : State) : State :=
  (s.setTrap x.trap { s.trap x.trap with state := x.state, lapsed := none }).setLaunchOverdue
    (declaredOverdue s x.trap (s.trap x.trap).state x.state)

theorem declared_only (x : RecoverArgs) (s : State) : OnlyChanges [.traps] s (declared x s) :=
  (setTrap_only s _ _).trans (setLaunchOverdue_only _ _)

theorem trapEvent_only (x : TrapId) (s : State) : OnlyChanges [.port] s (trapEvent x s) := post_only _ _ s

theorem recoverTrap_driving {x : RecoverArgs} {s : State} (h : x.trap = .receive ∧ x.state = .driving) :
    recoverTrap x s = refuse .range s := if_pos h

theorem recoverTrap_busy {x : RecoverArgs} {s : State} (h : ¬ (x.trap = .receive ∧ x.state = .driving))
    (hstep : (s.trap x.trap).step ≠ none) : recoverTrap x s = refuse .busy s := by
  simp only [recoverTrap, if_neg h, if_pos (Option.isSome_iff_ne_none.mpr hstep)]

theorem recoverTrap_declared {x : RecoverArgs} {s : State} (h : ¬ (x.trap = .receive ∧ x.state = .driving))
    (hstep : (s.trap x.trap).step = none) : recoverTrap x s = done .nothing (trapEvent x.trap (declared x s)) := by
  have hidle : ¬ (s.trap x.trap).step.isSome = true := by simp [hstep]
  exact (if_neg h).trans (if_neg hidle)

/-- The launch overdue deadline after a declaration, the launch trap's state read from the state (R166, R167). -/
theorem declaredOverdue_eq (s : State) (x : TrapId) (new : TrapState) :
    declaredOverdue s x (s.trap x).state new =
      if x = .receive then s.traps.launchOverdue
      else if new = .driving then
        if s.register.launchBarrel = [] then none
        else s.now.map (fun now => min (now + s.profile.launch.overdueTime * 10) 4294967295)
      else if s.traps.launch.state = .driving then none else s.traps.launchOverdue := by
  cases x
  · simp only [declaredOverdue, List.isEmpty_iff]
    rfl
  · rfl

theorem exec_recoverTrap_able {m : Master} {s : State} (a : Carried RecoverArgs) (h : s.able m [.dispatch]) :
    exec (.recoverTrap m a) s = .next (respond m Command.recoverTrap.code (withParams a recoverTrap s)) :=
  serve_able (withParams a recoverTrap) mayUse_recoverTrap_iff h

/-! ## UNKNOWN without a step in progress -/

/-- A trap is UNKNOWN with no step in progress, as the trap law has every UNKNOWN trap. -/
def State.unknownAt (s : State) (x : TrapId) : Prop := (s.trap x).state = .unknown ∧ (s.trap x).step = none

theorem State.unknownAt.of_trap_eq {s t : State} {x : TrapId} (hu : s.unknownAt x) (h : t.trap = s.trap) :
    t.unknownAt x := by rwa [State.unknownAt, h]

/-- A write of one record keeps a trap UNKNOWN unless it is the record of that trap and says otherwise. -/
theorem State.unknownAt.setTrap {s : State} {x y : TrapId} {r : TrapRecord} (hu : s.unknownAt x)
    (hr : x = y → r.state = .unknown ∧ r.step = none) : (s.setTrap y r).unknownAt x := by
  rw [State.unknownAt, setTrap_trap]
  split
  case isTrue h => exact hr h
  case isFalse => exact hu

/-- Wherever a trap is UNKNOWN without a step, an operation leaves it so. -/
def KeepsUnknown (x : TrapId) (f : State → State) : Prop := ∀ s, s.unknownAt x → (f s).unknownAt x

/-- The same of a request's own rule. -/
def RuleKeepsUnknown (x : TrapId) (body : State → State × Answer) : Prop :=
  ∀ s, s.unknownAt x → (body s).1.unknownAt x

section UnknownTraps

variable {x : TrapId}

theorem keepsUnknown_of_trap_eq {f : State → State} (h : ∀ s, (f s).trap = s.trap) : KeepsUnknown x f :=
  fun s hu => hu.of_trap_eq (h s)

/-! ## Passages keep the trap records (R93 to R112) -/

theorem judgeAll_trap (s : State) : (judgeAll s).trap = s.trap := (judgeAll_effects s).trap_eq

/-- A launch changes nothing of the traps but the launch overdue deadline. -/
theorem makeLaunch_trap (now : Nat) (g : Signaller) (e : Passage) (p : Pig) (s : State) :
    (makeLaunch now g e p s).trap = s.trap := by
  simp only [makeLaunch, setLaunchOverdue_trap, judgeAll_trap]
  rfl

theorem applyPassage_trap (now : Nat) (g : Signaller) (e : Passage) (early : Bool) (p : Pig) (s : State) :
    (applyPassage now g e early p s).trap = s.trap := by
  have hfix := (makeFix_only now g e early p s).trap_eq (by simp)
  simp only [applyPassage]
  split
  · exact makeLaunch_trap now g e p s
  · rw [judgeAll_trap]
    split
    · exact ((makeArrival_only _ _ _).trap_eq (by simp)).trans hfix
    · exact hfix

theorem takeEntry_trap (now : Nat) (e : Passage) (s : State) : (takeEntry now e s).trap = s.trap := by
  unfold takeEntry
  split
  · rfl
  · exact applyPassage_trap _ _ _ _ _ _
  · exact applyPassage_trap _ _ _ _ _ _
  · rfl

theorem handFirst_trap (now : Nat) (s : State) : (handFirst now s).trap = s.trap := by
  unfold handFirst
  split
  · rfl
  · split
    · exact takeEntry_trap _ _ _
    · rfl

theorem handDue_trap (now n : Nat) (s : State) : (handDue now n s).trap = s.trap := by
  induction n generalizing s with
  | zero => rfl
  | succ n ih => exact (ih _).trans (handFirst_trap now s)

theorem acceptReport_trap (now : Nat) (e : IntakeEntry) (d : Nat) (clamped : Bool) (s : State) :
    (acceptReport now e d clamped s).1.trap = s.trap := by
  have hsequence : (noteSequence e d s).trap = s.trap := (noteSequence_only e d s).trap_eq (by simp)
  simp only [acceptReport]
  split
  · exact (handDue_trap _ _ _).trans hsequence
  · exact hsequence

theorem takeInService_trap (now : Nat) (e : IntakeEntry) (d : Nat) (s : State) :
    (takeInService now e d s).1.trap = s.trap := by
  have hclamp : (if tooFarAhead now e.time then
      s.countIntake (fun c => { c with futureClamps := bump c.futureClamps }) else s).trap = s.trap := by
    split <;> rfl
  unfold takeInService
  dsimp only
  generalize (if tooFarAhead now e.time = true then _ else s) = s1 at hclamp
  split
  · exact hclamp
  · split
    · exact hclamp
    · exact (acceptReport_trap _ _ _ _ _).trans hclamp

theorem takeReport_trap (now : Nat) (e : IntakeEntry) (s : State) : (takeReport now e s).1.trap = s.trap := by
  unfold takeReport
  split
  · simp only [takeOutOfService]
    split <;> rfl
  · split
    · rfl
    · split
      · rfl
      · exact takeInService_trap _ _ _ _

/-! ## The channels keep the trap records (R78 to R89) -/

theorem localReport_trap (now : Nat) (c : Fin 8) (time : Nat) (speed : Option Nat) (s : State) :
    (localReport now c time speed s).trap = s.trap := by
  unfold localReport
  split
  · rfl
  · exact takeReport_trap _ _ _

theorem detect_trap (c : Fin 8) (y : Channel) (now time : Nat) (speed : Option Nat) (s : State) :
    (detect c y now time speed s).trap = s.trap := localReport_trap _ _ _ _ _

theorem leadingEdge_trap (mode : ChanMode) (c : Fin 8) (ms : Nat) (s : State) :
    (leadingEdge mode c ms s).trap = s.trap := by
  unfold leadingEdge
  split
  · rfl
  · split <;> rfl

theorem contactOpens_trap (c : Fin 8) (ms : Nat) (s : State) : (contactOpens c ms s).trap = s.trap := by
  unfold contactOpens
  split
  · rfl
  · split
    · rfl
    · exact detect_trap _ _ _ _ _ _

theorem contactHeld_trap (c : Fin 8) (ms : Nat) (s : State) : (contactHeld c ms s).trap = s.trap := by
  unfold contactHeld
  split
  · rfl
  · split
    · exact detect_trap _ _ _ _ _ _
    · rfl

theorem pulseEnds_trap (c : Fin 8) (w now : Nat) (s : State) : (pulseEnds c w now s).trap = s.trap := by
  simp only [pulseEnds]
  split
  · rfl
  · split
    · exact detect_trap _ _ _ _ _ _
    · rfl

theorem pulseInactive_trap (c : Fin 8) (ms : Nat) (s : State) : (pulseInactive c ms s).trap = s.trap := by
  unfold pulseInactive
  split
  · exact pulseEnds_trap _ _ _ _
  · split
    · split <;> rfl
    · rfl

theorem pulseTooLong_trap (c : Fin 8) (ms : Nat) (s : State) : (pulseTooLong c ms s).trap = s.trap := by
  unfold pulseTooLong
  split
  · rfl
  · dsimp only
    split <;> rfl

theorem pairRunsOut_trap (overrun : Nat) (c : Fin 8) (ms : Nat) (s : State) :
    (pairRunsOut overrun c ms s).trap = s.trap := by
  unfold pairRunsOut
  split
  · split
    · exact detect_trap _ _ _ _ _ _
    · rfl
  · rfl

theorem guardRunsOut_trap (overrun : Nat) (c : Fin 8) (ms : Nat) (s : State) :
    (guardRunsOut overrun c ms s).trap = s.trap := by
  simp only [guardRunsOut]
  split
  · split <;> rfl
  · rfl

theorem settlePair_trap (c : Fin 8) (ms : Nat) (s : State) : (settlePair c ms s).trap = s.trap :=
  (guardRunsOut_trap _ _ _ _).trans (pairRunsOut_trap _ _ _ _)

theorem pairSeesB_trap (c : Fin 8) (ms : Nat) (s : State) : (pairSeesB c ms s).trap = s.trap := by
  unfold pairSeesB
  split
  · exact detect_trap _ _ _ _ _ _
  · dsimp only
    split
    · rfl
    · split <;> rfl

/-! ## The ends of a step, the deadlines and the restarts (R160 to R168, R173, R192) -/

theorem leaveDriving_trap (t : TrapId) (old new : TrapState) (s : State) :
    (leaveDriving t old new s).trap = s.trap := by
  unfold leaveDriving
  split
  · exact setLaunchOverdue_trap _ _
  · rfl

theorem enterDriving_trap (t : TrapId) (new : TrapState) (s : State) : (enterDriving t new s).trap = s.trap := by
  unfold enterDriving
  split
  · exact setLaunchOverdue_trap _ _
  · rfl

theorem trapEvent_trap (t : TrapId) (s : State) : (trapEvent t s).trap = s.trap := rfl

theorem finishStep_trap (t : TrapId) (step : TrapStep) (s : State) :
    (finishStep t step s).trap = (s.setTrap t { s.trap t with state := stepTo step, step := none }).trap := by
  rw [finishStep, enterDriving_trap, leaveDriving_trap, trapEvent_trap]

/-- A step whose deadline runs out leaves its own trap UNKNOWN, and the other as it was. -/
theorem expireStep_keepsUnknown (t : TrapId) : KeepsUnknown x (expireStep t) := by
  intro s hu
  unfold expireStep
  dsimp only
  split
  · exact hu
  · refine (hu.setTrap fun _ => ?_).of_trap_eq ((leaveDriving_trap _ _ _ _).trans (trapEvent_trap _ _))
    exact ⟨rfl, rfl⟩

theorem expireLaunch_trap (s : State) : (expireLaunch s).trap = s.trap := setLaunchOverdue_trap _ _

theorem runOut_keepsUnknown (now : Nat) (t : Timer) : KeepsUnknown x (fun s => runOut now s t) := by
  cases t with
  | update => exact keepsUnknown_of_trap_eq fun s => (trackerUpdate_only now s).trap_eq (by simp)
  | entry => exact keepsUnknown_of_trap_eq (handFirst_trap now)
  | permit st => exact keepsUnknown_of_trap_eq fun s => (expirePermit_only st s).trap_eq (by simp)
  | step t => exact expireStep_keepsUnknown t
  | delay st => exact keepsUnknown_of_trap_eq fun s => (expireDelay_effects st s).trap_eq
  | launch => exact keepsUnknown_of_trap_eq expireLaunch_trap

theorem runDeadlines_keepsUnknown (now fuel : Nat) : KeepsUnknown x (runDeadlines now fuel) := by
  induction fuel with
  | zero => exact fun _ hu => hu
  | succ fuel ih =>
    intro s hu
    unfold runDeadlines
    split
    · exact hu
    · exact ih _ (runOut_keepsUnknown now _ _ hu)
    · exact ih _ (runOut_keepsUnknown now _ (s.setFreeCount (s.freeCount + 1)) hu)

theorem restarted_record (u : Traps) (x : TrapId) : u.restarted.record x = (u.record x).restarted := by
  cases x <;> rfl

/-- A restart that keeps the trap records keeps UNKNOWN, and leaves no step in progress. -/
theorem State.unknownAt.restarted {s t : State} (hu : s.unknownAt x) (ht : t.traps = s.traps.restarted) :
    t.unknownAt x := by
  obtain ⟨hstate, hstep⟩ := hu
  have hrecord : t.trap x = (s.trap x).restarted := by
    rw [State.trap, ht, restarted_record]
    rfl
  simp [State.unknownAt, hrecord, TrapRecord.restarted, hstate, hstep]

theorem restartChannels_traps (s : State) : (restartChannels s).traps = s.traps := by
  simp only [restartChannels]
  split <;> rfl

theorem restartAll_traps (s : State) : (restartAll s).traps = s.traps.restarted := by
  let clocked := s.setClock { s.clock with record := ⟨.commanded, s.now, none⟩ }
  have hchannels := restartChannels_traps (restartIntake (restartEstimates (restartTracker clocked)))
  have hjudged (t : State) : (judgeAll t).traps = t.traps := judgeAll_only t .traps (by simp)
  rw [restartAll, hjudged]
  exact congrArg Traps.restarted hchannels

theorem loadRetention_traps (valid : Bool) (s : State) :
    (loadRetention valid s).traps =
      if valid then s.traps.restarted else ⟨TrapRecord.unknown, TrapRecord.unknown, none⟩ := by
  cases valid <;> rfl

/-- A power-on keeps the trap records as a restart does, or loses them and sets both traps UNKNOWN (R171, R172). -/
theorem startUp_traps (first second retention : Bool) (s : State) :
    (startUp first second retention s).traps = s.traps.restarted ∨
      (startUp first second retention s).traps = ⟨TrapRecord.unknown, TrapRecord.unknown, none⟩ := by
  simp only [startUp, restartPort, restartWatches, restartMatching, restartIntake, restartTracker,
    State.setPort_traps, State.setWatchUnit_traps, State.setValves_traps, State.setInputUnit_traps,
    State.setFixUnit_traps, State.setIntake_traps, State.setTracker_traps, loadRetention_traps,
    State.setClock_traps, State.setStore_traps, State.setPowered_traps]
  split
  · exact .inl rfl
  · exact .inr rfl

theorem startUp_keepsUnknown (first second retention : Bool) : KeepsUnknown x (startUp first second retention) := by
  intro s hu
  obtain hkept | hlost := startUp_traps first second retention s
  · exact hu.restarted hkept
  · rw [State.unknownAt, State.trap, hlost]
    cases x <;> exact ⟨rfl, rfl⟩

/-! ## The checks that every request passes -/

theorem ruleKeepsUnknown_of_trap_eq {body : State → State × Answer} (h : ∀ s, (body s).1.trap = s.trap) :
    RuleKeepsUnknown x body := fun s hu => hu.of_trap_eq (h s)

/-- A read leaves the state as it is. -/
theorem ruleKeepsUnknown_of_read {body : State → State × Answer} (h : ∀ s, (body s).1 = s) :
    RuleKeepsUnknown x body := ruleKeepsUnknown_of_trap_eq fun s => congrArg State.trap (h s)

theorem whenComplete_keepsUnknown {body : State → State × Answer} (h : RuleKeepsUnknown x body) :
    RuleKeepsUnknown x (whenComplete body) := by
  intro s hu
  unfold whenComplete
  split
  · exact h s hu
  · exact hu

theorem whenIdle_keepsUnknown {body : State → State × Answer} (h : RuleKeepsUnknown x body) :
    RuleKeepsUnknown x (whenIdle body) := by
  intro s hu
  unfold whenIdle
  split
  · exact hu
  · exact h s hu

theorem whenTime_keepsUnknown {body : Nat → State → State × Answer} (h : ∀ now, RuleKeepsUnknown x (body now)) :
    RuleKeepsUnknown x (whenTime body) := by
  intro s hu
  unfold whenTime
  split
  · exact hu
  · exact h _ s hu

theorem withParams_keepsUnknown {α : Type} {body : α → State → State × Answer}
    (h : ∀ p, RuleKeepsUnknown x (body p)) (a : Carried α) : RuleKeepsUnknown x (withParams a body) := by
  cases a with
  | none => exact fun _ hu => hu
  | some p => exact h p

theorem whenComplete_withParams_keepsUnknown {α : Type} {body : α → State → State × Answer}
    (h : ∀ p, RuleKeepsUnknown x (body p)) (a : Carried α) :
    RuleKeepsUnknown x (whenComplete (withParams a body)) :=
  whenComplete_keepsUnknown (withParams_keepsUnknown h a)

/-- A definition of an item of the line is refused while the line is undefined. -/
theorem ofLine_keepsUnknown {α : Type} {body : α → State → State × Answer}
    (h : ∀ p, RuleKeepsUnknown x (body p)) (a : Carried α) :
    RuleKeepsUnknown x
      (whenIdle fun s => if s.profile.line.isNone then refuse .state s else withParams a body s) := by
  refine whenIdle_keepsUnknown fun s hu => ?_
  split
  · exact hu
  · exact withParams_keepsUnknown h a s hu

theorem withPig_keepsUnknown {body : Pig → State → State × Answer} (h : ∀ p, RuleKeepsUnknown x (body p))
    (tag : Nat) : RuleKeepsUnknown x (withPig tag body) := by
  intro s hu
  unfold withPig
  split
  · exact hu
  · split
    · exact hu
    · exact h _ s hu

theorem withStation_keepsUnknown {body : Fin 16 → State → State × Answer} (h : ∀ st, RuleKeepsUnknown x (body st))
    (n : Nat) : RuleKeepsUnknown x (withStation n body) := by
  intro s hu
  unfold withStation
  split
  · exact h _ s hu
  · exact hu

theorem withSignaller_keepsUnknown {body : State → State × Answer} (h : RuleKeepsUnknown x body) (n : Nat) :
    RuleKeepsUnknown x (withSignaller n body) := by
  intro s hu
  unfold withSignaller
  split
  · exact hu
  · split
    · exact hu
    · exact h s hu

theorem withWatch_keepsUnknown {body : Fin 16 → State → State × Answer} (h : ∀ st, RuleKeepsUnknown x (body st))
    (n : Nat) : RuleKeepsUnknown x (withWatch n body) := by
  intro s hu
  unfold withWatch
  split
  · exact h _ s hu
  · exact hu

theorem takeProfile_trap (p : Profile) (s : State) : (takeProfile p s).trap = s.trap := by
  simp only [takeProfile]
  split <;> rfl

/-- A profile command does to the traps no more than what it does besides, where it is taken. -/
theorem judgeProfile_unknownAt {p : Profile} {conflict breaks : Bool} {after : State → State} {s : State}
    (hafter : KeepsUnknown x after) (hu : s.unknownAt x) : (judgeProfile p conflict breaks after s).1.unknownAt x := by
  unfold judgeProfile
  split_ifs
  case neg => exact hafter _ (hu.of_trap_eq (takeProfile_trap p s))
  all_goals exact hu

theorem readPlace_fst {α : Type} (l : List α) (limit k : Nat) (f : α → ReplyData) (s : State) :
    (readPlace l limit k f s).1 = s := by
  unfold readPlace
  split
  · split <;> rfl
  · rfl

theorem readItem_fst {α : Type} (o : Option α) (f : α → ReplyData) (s : State) : (readItem o f s).1 = s := by
  cases o <;> rfl

theorem readLineItem_fst {α : Type} (limit count i : Nat) (o : Option α) (f : α → ReplyData) (s : State) :
    (readLineItem limit count i o f s).1 = s := by
  unfold readLineItem
  split_ifs
  · rfl
  · exact readItem_fst o f s
  · rfl

/-! ## The rules of the requests -/

theorem clearLine_trap (s : State) : (clearLine s).trap = s.trap := by
  have htraps : (clearLine s).traps = s.traps := by simp only [clearLine, setContacts, State.setValves_traps,
    State.setWatchUnit_traps, State.setFixUnit_traps, State.setIntake_traps, State.setTracker_traps,
    State.setSignallers_traps]
  exact congrArg Traps.record htraps

theorem defineLine_keepsUnknown (a : LineArgs) : RuleKeepsUnknown x (defineLine a) := by
  intro s hu
  unfold defineLine
  split_ifs
  · exact hu
  · exact hu
  · exact judgeProfile_unknownAt (keepsUnknown_of_trap_eq clearLine_trap) hu

theorem defineStation_keepsUnknown (a : StationArgs) : RuleKeepsUnknown x (defineStation a) := by
  intro s hu
  unfold defineStation
  split_ifs
  · exact hu
  · exact judgeProfile_unknownAt (keepsUnknown_of_trap_eq fun _ => rfl) hu

theorem defineReach_keepsUnknown (a : ReachArgs) : RuleKeepsUnknown x (defineReach a) := by
  intro s hu
  unfold defineReach
  split_ifs
  · exact hu
  · exact judgeProfile_unknownAt (keepsUnknown_of_trap_eq fun _ => rfl) hu

theorem resignal_trap (n : Nat) (held made : Option Signaller) (s : State) :
    (resignal n held made s).trap = s.trap := by
  simp only [resignal]
  split_ifs <;> rfl

theorem defineSignaller_keepsUnknown (a : SignallerArgs) : RuleKeepsUnknown x (defineSignaller a) := by
  intro s hu
  unfold defineSignaller
  dsimp only
  split
  · split_ifs
    · exact hu
    · exact judgeProfile_unknownAt (keepsUnknown_of_trap_eq (resignal_trap _ _ _)) hu
  · split_ifs
    · exact hu
    · exact judgeProfile_unknownAt (keepsUnknown_of_trap_eq (resignal_trap _ _ _)) hu

theorem shortenHoldBack_trap (old : Nat) (s : State) : (shortenHoldBack old s).trap = s.trap := by
  unfold shortenHoldBack
  split
  · split
    · exact handDue_trap _ _ _
    · rfl
  · rfl

theorem defineTracking_keepsUnknown (a : TrackingArgs) : RuleKeepsUnknown x (defineTracking a) := by
  intro s hu
  unfold defineTracking
  split_ifs
  · exact hu
  · exact judgeProfile_unknownAt (keepsUnknown_of_trap_eq (shortenHoldBack_trap _)) hu

theorem defineTrap_keepsUnknown (a : TrapArgs) : RuleKeepsUnknown x (defineTrap a) := by
  intro s hu
  unfold defineTrap
  split_ifs
  · exact hu
  · exact judgeProfile_unknownAt (keepsUnknown_of_trap_eq fun _ => rfl) hu

theorem defineMaster_keepsUnknown (a : MasterArgs) : RuleKeepsUnknown x (defineMaster a) := by
  intro s hu
  unfold defineMaster
  split
  · exact hu
  · dsimp only
    split_ifs
    · exact judgeProfile_unknownAt (keepsUnknown_of_trap_eq fun _ => rfl) hu
    · exact hu

theorem rechannel_trap (c : Fin 8) (old new : ChanCfg) (s : State) : (rechannel c old new s).trap = s.trap := by
  unfold rechannel
  split
  · exact pairRunsOut_trap _ _ _ _
  · rfl

theorem setChannelMode_keepsUnknown (a : ChannelArgs) : RuleKeepsUnknown x (setChannelMode a) := by
  intro s hu
  unfold setChannelMode
  split
  · exact hu
  · dsimp only
    split_ifs
    · exact judgeProfile_unknownAt (keepsUnknown_of_trap_eq (rechannel_trap _ _ _)) hu
    · exact hu

theorem settleDelay_trap (st : Fin 16) (s : State) : (settleDelay st s).trap = s.trap := by
  unfold settleDelay
  split
  · rfl
  · split
    · exact (expireDelay_effects st s).trap_eq
    · rfl

/-- A watch whose hold is applied and which is judged again leaves the traps alone (R138, R149). -/
theorem judgeOne_applyHold_trap (st : Fin 16) (s : State) : (judgeOne st (applyHold st s)).trap = s.trap :=
  ((applyHold_effects st s).trans (judgeOne_effects st _)).trap_eq

theorem rewatch_trap (st : Fin 16) (old new : WatchCfg) (s : State) : (rewatch st old new s).trap = s.trap := by
  unfold rewatch
  split
  · exact judgeOne_applyHold_trap _ _
  · exact (judgeOne_applyHold_trap _ _).trans (settleDelay_trap _ _)

theorem setWatch_keepsUnknown (a : WatchArgs) : RuleKeepsUnknown x (setWatch a) := by
  intro s hu
  unfold setWatch
  split
  · exact hu
  · dsimp only
    split_ifs
    · exact judgeProfile_unknownAt (keepsUnknown_of_trap_eq (rewatch_trap _ _ _)) hu
    · exact hu

theorem readProfile_fst (sel : ProfileSel) (s : State) : (readProfile sel s).1 = s := by
  cases sel with
  | line => exact readItem_fst _ _ _
  | station i => exact readLineItem_fst _ _ _ _ _ _
  | reach i => exact readLineItem_fst _ _ _ _ _ _
  | signaller n =>
    simp only [readProfile]
    split
    · exact readItem_fst _ _ _
    · rfl
  | tracking => rfl
  | trap t => cases t <;> rfl
  | master i => simp only [readProfile]; split <;> rfl
  | watch i => simp only [readProfile]; split <;> rfl
  | channel i => simp only [readProfile]; split <;> rfl
  | summary => rfl

theorem decodeChainage_fst (c : Nat) (s : State) : (decodeChainage c s).1 = s := by
  have hplace : (placeChainage c s).1 = s := by
    simp only [placeChainage]
    split <;> rfl
  unfold decodeChainage whenComplete
  split_ifs
  · exact hplace
  · rfl
  · rfl

theorem readPig_keepsUnknown (tag : Nat) : RuleKeepsUnknown x (readPig tag) :=
  withPig_keepsUnknown (fun _ => ruleKeepsUnknown_of_read fun _ => rfl) tag

theorem cursorSet_keepsUnknown (m : Master) (a : CursorArgs) : RuleKeepsUnknown x (cursorSet m a) := by
  intro s hu
  unfold cursorSet
  split
  · exact withPig_keepsUnknown (fun _ => ruleKeepsUnknown_of_trap_eq fun _ => rfl) _ s hu
  · exact hu

theorem cursorRead_trap (m : Master) (u : Unit) (s : State) : (cursorRead m u s).1.trap = s.trap := by
  simp only [cursorRead]
  split <;> rfl

theorem setRatio_keepsUnknown (a : RatioArgs) : RuleKeepsUnknown x (setRatio a) :=
  withPig_keepsUnknown (fun _ => ruleKeepsUnknown_of_trap_eq fun _ => rfl) _

theorem writeOff_keepsUnknown (tag : Nat) : RuleKeepsUnknown x (writeOff tag) := by
  refine withPig_keepsUnknown (fun p => ruleKeepsUnknown_of_trap_eq fun s => ?_) _
  split
  · exact (removePig_only tag s).trap_eq (by simp)
  · rfl

theorem confirm_keepsUnknown (a : TagChainage) : RuleKeepsUnknown x (confirm a) := by
  intro s hu
  unfold confirm
  split
  · exact hu
  · refine withPig_keepsUnknown (fun p => ruleKeepsUnknown_of_trap_eq fun s => ?_) _ s hu
    split <;> rfl

theorem reportFlow_trap (a : FlowArgs) (now : Nat) (s : State) : (reportFlow a now s).1.trap = s.trap := by
  unfold reportFlow
  split <;> rfl

theorem readFlow_fst (a : Option Nat) (s : State) : (readFlow a s).1 = s := by
  unfold readFlow
  split
  · rfl
  · split <;> rfl

theorem queryEta_keepsUnknown (a : TagChainage) : RuleKeepsUnknown x (queryEta a) := by
  intro s hu
  unfold queryEta
  split
  · exact hu
  · refine withPig_keepsUnknown (fun p => ruleKeepsUnknown_of_read fun s => ?_) _ s hu
    dsimp only
    split_ifs <;> rfl

theorem reportPassage_trap (m : Master) (a : PassageArgs) (now : Nat) (s : State) :
    (reportPassage m a now s).1.trap = s.trap := by
  unfold reportPassage
  split
  · rfl
  · split
    · rfl
    · split
      · rfl
      · exact takeReport_trap _ _ _

theorem readIntake_fst (sel : IntakeSel) (s : State) : (readIntake sel s).1 = s := by
  cases sel with
  | summary => rfl
  | entry k => exact readPlace_fst _ _ _ _ _
  | signaller n => simp only [readIntake]; split_ifs <;> rfl

theorem resetFlag_trap (n : Nat) (s : State) : (resetFlag n s).1.trap = s.trap := by
  unfold resetFlag
  split
  · rfl
  · dsimp only
    split_ifs <;> rfl

theorem readChannel_fst (n : Nat) (s : State) : (readChannel n s).1 = s := by
  unfold readChannel
  split <;> rfl

theorem setSignallerService_keepsUnknown (a : ServiceArgs) : RuleKeepsUnknown x (setSignallerService a) :=
  withSignaller_keepsUnknown (ruleKeepsUnknown_of_trap_eq fun _ => rfl) _

theorem assignPassage_trap (a : AssignArgs) (now : Nat) (s : State) : (assignPassage a now s).1.trap = s.trap := by
  have hassign (e : UnmatchedEntry) (p : Pig) : (assignEntry now e p s).1.trap = s.trap := by
    unfold assignEntry
    split
    · split_ifs
      · rfl
      · rfl
      · exact applyPassage_trap _ _ _ _ _ _
    · rfl
  unfold assignPassage
  split
  · rfl
  · split
    · exact hassign _ _
    · rfl

theorem discardPassage_trap (a : DiscardArgs) (s : State) : (discardPassage a s).1.trap = s.trap := by
  unfold discardPassage
  split_ifs <;> rfl

theorem readMatching_keepsUnknown (sel : MatchingSel) : RuleKeepsUnknown x (readMatching sel) := by
  cases sel with
  | summary => exact fun _ hu => hu
  | unmatched k => exact ruleKeepsUnknown_of_read fun _ => readPlace_fst _ _ _ _ _
  | signaller n => exact withSignaller_keepsUnknown (ruleKeepsUnknown_of_read fun _ => rfl) n

theorem writePosition_trap (st : Fin 16) (pos : ValvePos) (s : State) : (writePosition st pos s).trap = s.trap := by
  simp only [writePosition]
  split
  · rfl
  · exact judgeAll_trap _

theorem reportValve_keepsUnknown (a : ValveArgs) : RuleKeepsUnknown x (reportValve a) :=
  withStation_keepsUnknown (fun _ => ruleKeepsUnknown_of_trap_eq fun _ => writePosition_trap _ _ _) _

theorem changeHold_trap (st : Fin 16) (h : HoldSet) (s : State) : (changeHold st h s).trap = s.trap :=
  (changeHold_only st h s).trap_eq (by simp)

theorem setHold_keepsUnknown (m : Master) (n : Nat) : RuleKeepsUnknown x (setHold m n) :=
  withStation_keepsUnknown (fun _ => ruleKeepsUnknown_of_trap_eq fun _ => changeHold_trap _ _ _) n

theorem releaseHold_keepsUnknown (m : Master) (n : Nat) : RuleKeepsUnknown x (releaseHold m n) := by
  refine withStation_keepsUnknown (fun st => ruleKeepsUnknown_of_trap_eq fun s => ?_) n
  split
  · exact changeHold_trap _ _ _
  · rfl

theorem clearHolds_keepsUnknown (a : Option Nat) : RuleKeepsUnknown x (clearHolds a) := by
  cases a with
  | none => exact ruleKeepsUnknown_of_trap_eq fun s => (clearAll_only s).trap_eq (by simp)
  | some n => exact withStation_keepsUnknown (fun _ => ruleKeepsUnknown_of_trap_eq fun _ => changeHold_trap _ _ _) n

theorem requestStroke_keepsUnknown (m : Master) (a : StrokeArgs) (now : Nat) :
    RuleKeepsUnknown x (requestStroke m a now) := by
  have hjudge (d : Direction) (st : Fin 16) (station : Station) (s : State) :
      (judgeStroke m now d st station s).1.trap = s.trap := by
    simp only [judgeStroke]
    split_ifs
    · rfl
    · rfl
    · rfl
    · split <;> rfl
  refine withStation_keepsUnknown (fun st => ruleKeepsUnknown_of_trap_eq fun s => ?_) _
  split
  · exact hjudge _ _ _ _
  · rfl

theorem strokeDone_keepsUnknown (m : Master) (a : ValveArgs) : RuleKeepsUnknown x (strokeDone m a) := by
  intro s hu
  unfold strokeDone
  split
  · exact hu
  · refine withStation_keepsUnknown (fun st => ruleKeepsUnknown_of_trap_eq fun s => ?_) _ s hu
    dsimp only
    split
    · split
      · exact writePosition_trap _ _ _
      · rfl
    · split
      · exact writePosition_trap _ _ _
      · rfl

theorem handPosition_trap (old new : ValvePos) (s : State) : (handPosition old new s).trap = s.trap := by
  unfold handPosition
  split
  · rfl
  · exact judgeAll_trap s

theorem notifyForcedStroke_keepsUnknown (a : StrokeArgs) : RuleKeepsUnknown x (notifyForcedStroke a) :=
  withStation_keepsUnknown (fun _ => ruleKeepsUnknown_of_trap_eq fun _ => handPosition_trap _ _ _) _

theorem readValve_keepsUnknown (a : Option Nat) : RuleKeepsUnknown x (readValve a) := by
  cases a with
  | none => exact fun _ hu => hu
  | some n =>
    refine withStation_keepsUnknown (fun st => ruleKeepsUnknown_of_read fun s => ?_) n
    split <;> rfl

theorem acknowledgeWatch_keepsUnknown (n : Nat) : RuleKeepsUnknown x (acknowledgeWatch n) := by
  refine withWatch_keepsUnknown (fun st => ruleKeepsUnknown_of_trap_eq fun s => ?_) n
  dsimp only
  split
  · exact judgeOne_applyHold_trap _ _
  · rfl

theorem readWatch_keepsUnknown (n : Nat) : RuleKeepsUnknown x (readWatch n) :=
  withWatch_keepsUnknown (fun _ => ruleKeepsUnknown_of_read fun _ => rfl) n

/-- A report writes the pressures of a record, and neither its state nor its step. -/
theorem reportPressure_keepsUnknown (a : PressureArgs) : RuleKeepsUnknown x (reportPressure a) := by
  intro s hu
  unfold reportPressure
  split
  · exact hu.setTrap fun h => h ▸ hu
  · exact hu

theorem stepFrom_contains_unknown (step : TrapStep) : (stepFrom step).contains .unknown = false := by
  cases step <;> rfl

/-- No step begins from UNKNOWN (R155). -/
theorem trapStep_keepsUnknown (m : Master) (a : StepArgs) (now : Nat) : RuleKeepsUnknown x (trapStep m a now) := by
  intro s hu
  unfold trapStep
  dsimp only
  split_ifs with _ _ hfrom
  · exact hu
  · exact hu
  · exact hu
  · split
    · exact hu
    · refine hu.setTrap fun h => absurd hu.1 fun hunknown => hfrom ?_
      rw [← h, hunknown, stepFrom_contains_unknown]
      rfl

/-- A step that is in progress at a trap is not one of an UNKNOWN trap, so TRAP DONE ends no step of that (R160). -/
theorem trapDone_keepsUnknown (m : Master) (a : StepArgs) : RuleKeepsUnknown x (trapDone m a) := by
  intro s hu
  unfold trapDone
  dsimp only
  split
  · rename_i inHand hstep
    split_ifs
    · exact hu
    · exact hu
    · refine State.unknownAt.of_trap_eq (hu.setTrap fun h => ?_) (finishStep_trap _ _ _)
      rw [← h, hu.2] at hstep
      exact absurd hstep nofun
  · split_ifs
    · exact hu.setTrap fun h => h ▸ hu
    · exact hu

theorem stagePig_trap (a : StageArgs) (s : State) : (stagePig a s).1.trap = s.trap := by
  unfold stagePig
  split_ifs <;> rfl

theorem removePigFrom_trap (a : RemoveArgs) (s : State) : (removePigFrom a s).1.trap = s.trap := by
  unfold removePigFrom
  split_ifs
  · rfl
  · rfl
  · rfl
  · exact (removePig_only _ s).trap_eq (by simp)
  · rfl

theorem readTrap_fst (t : TrapId) (s : State) : (readTrap t s).1 = s := by
  cases t <;> rfl

/-- A declaration of one trap leaves an UNKNOWN other trap so. -/
theorem recoverTrap_keepsUnknown {a : RecoverArgs} (h : a.trap ≠ x) : RuleKeepsUnknown x (recoverTrap a) := by
  intro s hu
  unfold recoverTrap
  dsimp only
  split_ifs
  · exact hu
  · exact hu
  · exact (hu.setTrap fun hx => absurd hx.symm h).of_trap_eq (setLaunchOverdue_trap _ _)

theorem readAttention_fst (m : Master) (a : Option AttnKind) (s : State) : (readAttention m a s).1 = s := by
  cases a <;> rfl

theorem firstSetting_trap (v : Nat) (s : State) : (firstSetting v s).trap = s.trap := by
  rw [firstSetting, judgeAll_trap]
  rfl

theorem setLineTime_keepsUnknown (a : Option Nat) : RuleKeepsUnknown x (setLineTime a) := by
  intro s hu
  unfold setLineTime
  split
  · exact hu
  · exact hu.of_trap_eq (firstSetting_trap _ s)
  · split
    · exact runDeadlines_keepsUnknown _ _ _ hu
    · exact hu

theorem restart_keepsUnknown (u : Unit) : RuleKeepsUnknown x (restart u) :=
  fun s hu => hu.restarted (restartAll_traps s)

/-! ## Every command and event -/

theorem noteRefusal_trap (m : Master) (code : Nat) (a : Answer) (s : State) :
    (noteRefusal m code a s).trap = s.trap := (noteRefusal_only m code a s).trap_eq (by simp)

/-- A request keeps UNKNOWN where its own rule does. -/
theorem serve_unknownAt {m : Master} {k : Command} {body : State → State × Answer} {s t : State}
    (h : serve m k body s = .next t) (hbody : RuleKeepsUnknown x body) (hu : s.unknownAt x) : t.unknownAt x := by
  rw [serve_next] at h
  injection h with h
  subst h
  split
  · refine State.unknownAt.of_trap_eq ?_ (noteRefusal_trap _ _ _ _)
    split
    · exact hbody s hu
    · exact hu
  · exact hu

theorem happen_unknownAt {f : State → State} {s t : State} (h : happen f s = .next t) (hf : KeepsUnknown x f)
    (hu : s.unknownAt x) : t.unknownAt x := by
  injection h with h
  subst h
  refine State.unknownAt.of_trap_eq (s := if s.powered then f s else s) ?_ rfl
  split
  · exact hf s hu
  · exact hu

theorem timed_keepsUnknown {f : Nat → State → State} (hf : ∀ now, KeepsUnknown x (f now)) :
    KeepsUnknown x (timed f) := by
  intro s hu
  unfold timed
  split
  · exact hu
  · exact hf _ s hu

/-- A timer's event acts where its deadline is reached. -/
theorem due_unknownAt {f : Nat → State → State} {due : Nat → State → Bool} {s t : State}
    (h : happen (timed fun now s => if due now s then f now s else s) s = .next t)
    (hf : ∀ now, KeepsUnknown x (f now)) (hu : s.unknownAt x) : t.unknownAt x := by
  refine happen_unknownAt h (timed_keepsUnknown fun now s hu => ?_) hu
  split
  · exact hf now s hu
  · exact hu

theorem rising_unknownAt {n ms : Nat} {pair : Bool} {f : State → State} {s t : State}
    (h : rising n pair ms f s = .next t) (hf : ∀ s, (f s).trap = s.trap) (hu : s.unknownAt x) : t.unknownAt x := by
  injection h with h
  subst h
  refine hu.of_trap_eq (Eq.trans (b := (if s.powered then
    (if s.mayRise n then f (setLevel n true pair ms s) else tickTo ms s)
    else if s.mayRise n then setLevel n true pair 0 s else s).trap) rfl ?_)
  split_ifs
  · exact hf _
  all_goals rfl

theorem falling_unknownAt {n ms : Nat} {f : State → State} {s t : State}
    (h : falling n ms f s = .next t) (hf : ∀ s, (f s).trap = s.trap) (hu : s.unknownAt x) : t.unknownAt x := by
  injection h with h
  subst h
  refine hu.of_trap_eq (Eq.trans (b := (if s.powered then f (setLevel n false false ms s)
    else setLevel n false false 0 s).trap) rfl ?_)
  split
  · exact hf _
  · rfl

theorem unknownCommandCode_unknownAt {m : Master} {code : Nat} {s t : State}
    (h : execUnknownCommandCode m code s = .next t) (hu : s.unknownAt x) : t.unknownAt x := by
  unfold execUnknownCommandCode at h
  split at h <;> injection h with h <;> subst h <;> exact hu

theorem dropFor_trap (cause : Option DropCause) (s : State) : (dropFor cause s).trap = s.trap := by
  cases cause <;> rfl

/-- RECOVER TRAP of a trap is the only way out of UNKNOWN for that trap (R166). -/
theorem exec_unknownAt {i : Instr} {s t : State} (h : exec i s = .next t) (hu : s.unknownAt x) :
    t.unknownAt x ∨ ∃ m a, i = .recoverTrap m (some a) ∧ a.trap = x := by
  by_cases hrecover : ∃ m a, i = .recoverTrap m (some a) ∧ a.trap = x
  · exact .inr hrecover
  left
  cases i with
  | defineLine m a =>
    exact serve_unknownAt h (whenIdle_keepsUnknown (withParams_keepsUnknown defineLine_keepsUnknown a)) hu
  | defineStation m a => exact serve_unknownAt h (ofLine_keepsUnknown defineStation_keepsUnknown a) hu
  | defineReach m a => exact serve_unknownAt h (ofLine_keepsUnknown defineReach_keepsUnknown a) hu
  | defineSignaller m a => exact serve_unknownAt h (ofLine_keepsUnknown defineSignaller_keepsUnknown a) hu
  | defineTracking m a =>
    exact serve_unknownAt h (whenIdle_keepsUnknown (withParams_keepsUnknown defineTracking_keepsUnknown a)) hu
  | defineTrap m a =>
    exact serve_unknownAt h (whenIdle_keepsUnknown (withParams_keepsUnknown defineTrap_keepsUnknown a)) hu
  | defineMaster m a =>
    exact serve_unknownAt h (whenIdle_keepsUnknown (withParams_keepsUnknown defineMaster_keepsUnknown a)) hu
  | readProfile m a =>
    exact serve_unknownAt h (whenIdle_keepsUnknown
      (withParams_keepsUnknown (fun sel => ruleKeepsUnknown_of_read (readProfile_fst sel)) a)) hu
  | decodeChainage m a =>
    exact serve_unknownAt h (withParams_keepsUnknown (fun c => ruleKeepsUnknown_of_read (decodeChainage_fst c)) a) hu
  | readPig m a => exact serve_unknownAt h (whenComplete_withParams_keepsUnknown readPig_keepsUnknown a) hu
  | cursorSet m a => exact serve_unknownAt h (whenComplete_withParams_keepsUnknown (cursorSet_keepsUnknown m) a) hu
  | cursorRead m a =>
    exact serve_unknownAt h
      (whenComplete_withParams_keepsUnknown (fun u => ruleKeepsUnknown_of_trap_eq (cursorRead_trap m u)) a) hu
  | setRatio m a => exact serve_unknownAt h (whenComplete_withParams_keepsUnknown setRatio_keepsUnknown a) hu
  | writeOff m a => exact serve_unknownAt h (whenComplete_withParams_keepsUnknown writeOff_keepsUnknown a) hu
  | confirm m a => exact serve_unknownAt h (whenComplete_withParams_keepsUnknown confirm_keepsUnknown a) hu
  | reportFlow m a =>
    exact serve_unknownAt h (whenComplete_keepsUnknown (whenTime_keepsUnknown fun now =>
      withParams_keepsUnknown (fun p => ruleKeepsUnknown_of_trap_eq (reportFlow_trap p now)) a)) hu
  | readFlow m a =>
    exact serve_unknownAt h
      (whenComplete_withParams_keepsUnknown (fun n => ruleKeepsUnknown_of_read (readFlow_fst n)) a) hu
  | queryEta m a => exact serve_unknownAt h (whenComplete_withParams_keepsUnknown queryEta_keepsUnknown a) hu
  | reportPassage m a =>
    exact serve_unknownAt h (whenComplete_keepsUnknown (whenTime_keepsUnknown fun now =>
      withParams_keepsUnknown (fun p => ruleKeepsUnknown_of_trap_eq (reportPassage_trap m p now)) a)) hu
  | readIntake m a =>
    exact serve_unknownAt h
      (whenComplete_withParams_keepsUnknown (fun sel => ruleKeepsUnknown_of_read (readIntake_fst sel)) a) hu
  | resetFlag m a =>
    exact serve_unknownAt h
      (whenComplete_withParams_keepsUnknown (fun n => ruleKeepsUnknown_of_trap_eq (resetFlag_trap n)) a) hu
  | setChannelMode m a =>
    exact serve_unknownAt h (whenIdle_keepsUnknown (withParams_keepsUnknown setChannelMode_keepsUnknown a)) hu
  | readChannel m a =>
    exact serve_unknownAt h
      (whenComplete_withParams_keepsUnknown (fun n => ruleKeepsUnknown_of_read (readChannel_fst n)) a) hu
  | setSignallerService m a =>
    exact serve_unknownAt h (whenComplete_withParams_keepsUnknown setSignallerService_keepsUnknown a) hu
  | assignPassage m a =>
    exact serve_unknownAt h (whenComplete_keepsUnknown (whenTime_keepsUnknown fun now =>
      withParams_keepsUnknown (fun p => ruleKeepsUnknown_of_trap_eq (assignPassage_trap p now)) a)) hu
  | discardPassage m a =>
    exact serve_unknownAt h
      (whenComplete_withParams_keepsUnknown (fun p => ruleKeepsUnknown_of_trap_eq (discardPassage_trap p)) a) hu
  | readMatching m a => exact serve_unknownAt h (whenComplete_withParams_keepsUnknown readMatching_keepsUnknown a) hu
  | reportValve m a => exact serve_unknownAt h (whenComplete_withParams_keepsUnknown reportValve_keepsUnknown a) hu
  | setHold m a => exact serve_unknownAt h (whenComplete_withParams_keepsUnknown (setHold_keepsUnknown m) a) hu
  | releaseHold m a => exact serve_unknownAt h (whenComplete_withParams_keepsUnknown (releaseHold_keepsUnknown m) a) hu
  | clearHolds m a => exact serve_unknownAt h (whenComplete_withParams_keepsUnknown clearHolds_keepsUnknown a) hu
  | requestStroke m a =>
    exact serve_unknownAt h (whenComplete_keepsUnknown (whenTime_keepsUnknown fun now =>
      withParams_keepsUnknown (fun p => requestStroke_keepsUnknown m p now) a)) hu
  | strokeDone m a => exact serve_unknownAt h (whenComplete_withParams_keepsUnknown (strokeDone_keepsUnknown m) a) hu
  | notifyForcedStroke m a =>
    exact serve_unknownAt h (whenComplete_withParams_keepsUnknown notifyForcedStroke_keepsUnknown a) hu
  | readValve m a => exact serve_unknownAt h (whenComplete_withParams_keepsUnknown readValve_keepsUnknown a) hu
  | setWatch m a => exact serve_unknownAt h (whenIdle_keepsUnknown (withParams_keepsUnknown setWatch_keepsUnknown a)) hu
  | acknowledgeWatch m a =>
    exact serve_unknownAt h (whenComplete_withParams_keepsUnknown acknowledgeWatch_keepsUnknown a) hu
  | readWatch m a => exact serve_unknownAt h (whenComplete_withParams_keepsUnknown readWatch_keepsUnknown a) hu
  | reportPressure m a =>
    exact serve_unknownAt h (whenComplete_withParams_keepsUnknown reportPressure_keepsUnknown a) hu
  | trapStep m a =>
    exact serve_unknownAt h (whenComplete_keepsUnknown (whenTime_keepsUnknown fun now =>
      withParams_keepsUnknown (fun p => trapStep_keepsUnknown m p now) a)) hu
  | trapDone m a => exact serve_unknownAt h (whenComplete_withParams_keepsUnknown (trapDone_keepsUnknown m) a) hu
  | stagePig m a =>
    exact serve_unknownAt h
      (whenComplete_withParams_keepsUnknown (fun p => ruleKeepsUnknown_of_trap_eq (stagePig_trap p)) a) hu
  | removePig m a =>
    exact serve_unknownAt h
      (whenComplete_withParams_keepsUnknown (fun p => ruleKeepsUnknown_of_trap_eq (removePigFrom_trap p)) a) hu
  | recoverTrap m a =>
    refine serve_unknownAt h (whenComplete_keepsUnknown ?_) hu
    cases a with
    | none => exact fun _ hu => hu
    | some a => exact recoverTrap_keepsUnknown fun ha => hrecover ⟨m, a, rfl, ha⟩
  | readTrap m a =>
    exact serve_unknownAt h
      (whenComplete_withParams_keepsUnknown (fun t => ruleKeepsUnknown_of_read (readTrap_fst t)) a) hu
  | readAttention m a =>
    exact serve_unknownAt h (withParams_keepsUnknown (fun k => ruleKeepsUnknown_of_read (readAttention_fst m k)) a) hu
  | acknowledgeAttention m a =>
    exact serve_unknownAt h (withParams_keepsUnknown (fun _ => ruleKeepsUnknown_of_trap_eq fun _ => rfl) a) hu
  | setEnables m a =>
    exact serve_unknownAt h (withParams_keepsUnknown (fun _ => ruleKeepsUnknown_of_trap_eq fun _ => rfl) a) hu
  | setLineTime m a => exact serve_unknownAt h (withParams_keepsUnknown setLineTime_keepsUnknown a) hu
  | restart m a => exact serve_unknownAt h (withParams_keepsUnknown restart_keepsUnknown a) hu
  | unknownCommandCode m code => exact unknownCommandCode_unknownAt h hu
  | frameDropped frame => exact happen_unknownAt h (keepsUnknown_of_trap_eq (dropFor_trap _)) hu
  | byteGapTimeout => exact happen_unknownAt h (keepsUnknown_of_trap_eq fun _ => rfl) hu
  | storeWriteComplete =>
    exact happen_unknownAt (f := fun s => s.setStore s.store.finishWrite) h (keepsUnknown_of_trap_eq fun _ => rfl) hu
  | trackerUpdate => exact due_unknownAt h (fun now => runOut_keepsUnknown now .update) hu
  | entryDue => exact happen_unknownAt h (timed_keepsUnknown fun now => runOut_keepsUnknown now .entry) hu
  | permitExpiry st => exact due_unknownAt h (fun now => runOut_keepsUnknown now (.permit st)) hu
  | trapStepDeadline t => exact due_unknownAt h (fun now => runOut_keepsUnknown now (.step t)) hu
  | watchDelayExpiry st => exact due_unknownAt h (fun now => runOut_keepsUnknown now (.delay st)) hu
  | launchOverdue => exact due_unknownAt h (fun now => runOut_keepsUnknown now .launch) hu
  | contactLeadingEdge c ms => exact rising_unknownAt h (leadingEdge_trap .contact c ms) hu
  | contactBounce c ms => exact falling_unknownAt h (contactOpens_trap c ms) hu
  | contactClosure c ms =>
    exact happen_unknownAt (f := fun s => contactHeld c ms (tickTo ms s)) h
      (keepsUnknown_of_trap_eq fun _ => contactHeld_trap c ms _) hu
  | pulseLeadingEdge c ms => exact rising_unknownAt h (leadingEdge_trap .pulse c ms) hu
  | pulseTrailingEdge c ms => exact falling_unknownAt h (pulseInactive_trap c ms) hu
  | pulseFault c ms =>
    exact happen_unknownAt (f := fun s => pulseTooLong c ms (tickTo ms s)) h
      (keepsUnknown_of_trap_eq fun _ => pulseTooLong_trap c ms _) hu
  | pulseFaultEnd c ms => exact falling_unknownAt h (pulseInactive_trap c ms) hu
  | pairAEdge c ms =>
    exact rising_unknownAt (f := fun s => leadingEdge .pair c ms (settlePair c ms s)) h
      (fun s => (leadingEdge_trap _ _ _ _).trans (settlePair_trap c ms s)) hu
  | pairBEdge c ms =>
    exact rising_unknownAt (f := fun s => pairSeesB c ms (settlePair c ms s)) h
      (fun s => (pairSeesB_trap _ _ _).trans (settlePair_trap c ms s)) hu
  | pairIncomplete c ms =>
    exact happen_unknownAt (f := fun s => pairRunsOut 0 c ms (tickTo ms s)) h
      (keepsUnknown_of_trap_eq fun _ => pairRunsOut_trap 0 c ms _) hu
  | guardExpiry c ms =>
    exact happen_unknownAt (f := fun s => guardRunsOut 0 c ms (tickTo ms s)) h
      (keepsUnknown_of_trap_eq fun _ => guardRunsOut_trap 0 c ms _) hu
  | powerOn first second retention =>
    injection h with h
    subst h
    exact startUp_keepsUnknown first second retention s hu
  | powerLoss =>
    injection h with h
    subst h
    exact hu
  | lineTimeAdvance => exact happen_unknownAt h (timed_keepsUnknown fun _ => keepsUnknown_of_trap_eq fun _ => rfl) hu

end UnknownTraps

/-! ## The obligation -/

/-- REPORT PRESSURE in range at an able caller (R154): the record written, and both pressures answered. -/
theorem exec_reportPressure_inside {m : Master} {x : PressureArgs} {s : State} (h : s.able m [.link, .trap])
    (hok : pressuresOk x = true) :
    exec (.reportPressure m (some x)) s =
      .next (sendReply m (.done (pressureData ((s.trap x.trap).reported x s.now)))
        (s.setTrap x.trap ((s.trap x.trap).reported x s.now))) := by
  rw [exec_reportPressure_able _ h, withParams_some, reportPressure_inside hok, done, respond_done]

/-- RECOVER TRAP taken (R166): the declaration, its posting and the reply. -/
theorem exec_recoverTrap_declared {m : Master} {x : RecoverArgs} {s : State} (h : s.able m [.dispatch])
    (hdrive : ¬ (x.trap = .receive ∧ x.state = .driving)) (hstep : (s.trap x.trap).step = none) :
    exec (.recoverTrap m (some x)) s =
      .next (sendReply m (.done .nothing) (trapEvent x.trap (declared x s))) := by
  rw [exec_recoverTrap_able _ h, withParams_some, recoverTrap_declared hdrive hstep, done, respond_done]

/-- Settles O47 (R154, R166): the way out of UNKNOWN, then the refusals of each command in their order and what it
writes. -/
theorem pressuresAndRecovery : Obligations.PressuresAndRecovery := by
  refine ⟨fun i s t x ⟨_, _, hidle⟩ hexec hunknown hleft => ?_, fun m s hpower => ⟨fun x => ?_, fun x => ?_⟩⟩
  · exact (exec_unknownAt hexec ⟨hunknown, hidle x hunknown⟩).resolve_left fun hu => hleft hu.1
  · refine ⟨fun hclass => ?_, fun hclass hincomplete => ?_, fun hable => ⟨?_, fun hout => ?_, fun hin hcarries => ?_⟩⟩
    · exact refuses_class rfl mayUse_reportPressure_iff hpower hclass
    · exact refuses_of rfl (serve_incomplete _ mayUse_reportPressure_iff ⟨hpower, hclass⟩ hincomplete)
    · exact refuses_of rfl (exec_reportPressure_able none hable)
    · have hbad : ¬ pressuresOk x = true := by
        rw [pressuresOk_iff]
        rintro ⟨hin, hcarries⟩
        obtain ⟨k, hk, hlarge⟩ | ⟨hbarrel, hline⟩ := hout
        · exact absurd (hin k hk) (Nat.not_le.mpr hlarge)
        · exact hcarries.elim (absurd hbarrel) (absurd hline)
      apply refuses_of rfl
      rw [exec_reportPressure_able _ hable, withParams_some, reportPressure_outside hbad]
    · refine ⟨_, exec_reportPressure_inside hable (pressuresOk_iff.mpr ⟨hin, hcarries⟩), ?_, ?_, fun y hy => ?_,
        setTrap_launchOverdue _ _ _, ?_⟩
      · exact ((setTrap_only s _ _).mono (by simp)).then (sendReply_only m _ _) (by simp)
      · exact (setTrap_trap _ _ _ _).trans (if_pos rfl)
      · exact (setTrap_trap _ _ _ _).trans (if_neg hy)
      · rw [pressureData_eq]
        exact sendReply_replied m _ _
  · refine ⟨fun hclass => ?_, fun hclass hincomplete => ?_,
      fun hable => ⟨?_, fun hdrive => ?_, fun hdrive hbusy => ?_, fun hdrive hstep => ?_⟩⟩
    · exact refuses_class rfl mayUse_recoverTrap_iff hpower (mt List.mem_singleton.mp hclass)
    · exact refuses_of rfl
        (serve_incomplete _ mayUse_recoverTrap_iff ⟨hpower, List.mem_singleton.mpr hclass⟩ hincomplete)
    · exact refuses_of rfl (exec_recoverTrap_able none hable)
    · apply refuses_of rfl
      rw [exec_recoverTrap_able _ hable, withParams_some, recoverTrap_driving hdrive]
    · apply refuses_of rfl
      rw [exec_recoverTrap_able _ hable, withParams_some, recoverTrap_busy hdrive hbusy]
    · have htrap (y : TrapId) : (trapEvent x.trap (declared x s)).trap y =
          if y = x.trap then { s.trap x.trap with state := x.state, lapsed := none } else s.trap y := by
        rw [trapEvent_trap, declared, setLaunchOverdue_trap, setTrap_trap]
      refine ⟨_, exec_recoverTrap_declared hable hdrive hstep, ?_, (htrap _).trans (if_pos rfl),
        fun y hy => (htrap y).trans (if_neg hy), declaredOverdue_eq s x.trap x.state, ?_, sendReply_replied m _ _⟩
      · exact (((declared_only x s).mono (by simp)).then (trapEvent_only _ _) (by simp)).then
          (sendReply_only m _ _) (by simp)
      · exact post_port_congr _ _ (declared_only x s .port (by simp))
          (congrArg LineClock.lineTime (declared_only x s .clock (by simp)))

end Sys2Proof.Machine

/-! PROOF. ACKNOWLEDGE ATTENTION (R184) and SET ENABLES (R185): each writes the caller's context alone, and answers from the
context as it was left. -/

namespace Sys2Proof.Machine

/-! ## A context written with its line (R182) -/

theorem attend_eq (c : Context) (attention : AttnSet) :
    c.attend attention = { c with attention := attention, line := attention &&& c.enables != 0#16 } := rfl

theorem enable_eq (c : Context) (enables : AttnSet) :
    c.enable enables = { c with enables := enables, line := c.attention &&& enables != 0#16 } := rfl

/-! ## The commands, open to every class (R179) -/

theorem exec_acknowledgeAttention_powered (m : Master) (kinds : AttnSet) {s : State} (hpower : s.powered = true) :
    exec (.acknowledgeAttention m (some kinds)) s =
      .next (respond m Command.acknowledgeAttention.code (setAnswer m (·.attention)
        (s.setContext m ((s.context m).attend ((s.context m).attention &&& ~~~kinds))))) :=
  serve_open m .acknowledgeAttention (withParams (some kinds) (acknowledgeAttention m)) s hpower
    (mayUse_all (by decide) _)

theorem exec_setEnables_powered (m : Master) (kinds : AttnSet) {s : State} (hpower : s.powered = true) :
    exec (.setEnables m (some kinds)) s =
      .next (respond m Command.setEnables.code (setAnswer m (·.enables)
        (s.setContext m ((s.context m).enable kinds)))) :=
  serve_open m .setEnables (withParams (some kinds) (setEnables m)) s hpower (mayUse_all (by decide) _)

/-! ## One context written, and one of its sets answered -/

/-- Whichever set is answered, it is read from the context `c` just written; nothing but that context and the reply
changes. -/
theorem setAnswer_writesContext {i : Instr} {m : Master} {code : Nat} {which : Context → AttnSet} {c : Context}
    {s : State} (hexec : exec i s = .next (respond m code (setAnswer m which (s.setContext m c)))) :
    ∃ t, exec i s = .next t ∧ t.context m = c ∧ (∀ n, n ≠ m → t.context n = s.context n) ∧
      t.port.detail = s.port.detail ∧ t.port.dropCount = s.port.dropCount ∧ t.port.lastDrop = s.port.lastDrop ∧
      OnlyChanges [.port, .reply] s t ∧
      Replied m (.done (.attentionSet (which (t.context m)) (t.context m).line)) t := by
  rw [setAnswer, done, respond_done] at hexec
  refine ⟨_, hexec, ?_, fun n hother => ?_, rfl, rfl, rfl, ?_, sendReply_replied m _ _⟩
  · exact (setContext_context s m m c).trans (if_pos rfl)
  · exact (setContext_context s m n c).trans (if_neg hother)
  · exact ((setContext_only s m c).mono (by simp)).then (sendReply_only m _ _) (by simp)

/-- Settles O7 (R184, R185): each command writes the caller's context, with the line of R182, and answers from it. -/
theorem attentionCommands : Obligations.AttentionCommands := by
  intro m kinds s hpower
  rw [← attend_eq, ← enable_eq]
  exact ⟨setAnswer_writesContext (exec_acknowledgeAttention_powered m kinds hpower),
    setAnswer_writesContext (exec_setEnables_powered m kinds hpower)⟩

end Sys2Proof.Machine


/-! PROOF. The moves of the part: what every command and event is made of. `Move` names each single change that a meaning
makes to the state, with the condition under which it makes it; `exec_moves` says once that every command and event is a
sequence of moves. A law is then kept by every step when each move keeps it. -/

namespace Sys2Proof.Machine

/-! ## The moves -/

/-- The commands that take a record out of the register (R27). -/
def removes (i : Instr) : Prop := (∃ m a, i = .writeOff m a) ∨ ∃ m a, i = .removePig m a

/-- The lock of R4 on a profile that a command takes: the geometry stays, or the register is empty and the command is none
that empties it. -/
def Unlocked (i : Instr) (p : Profile) (s : State) : Prop :=
  geometryOf p = geometryOf s.profile ∨ s.register.view = [] ∧ ¬ removes i

/-- RESTART, up to the first judgement of the watches (R196). -/
def restartBase (s : State) : State :=
  let s1 := s.setClock { s.clock with record := ⟨.commanded, s.now, none⟩ }
  let s2 := restartMatching (restartChannels (restartIntake (restartEstimates (restartTracker s1))))
  let s3 := setContacts (s2.setValves (s2.valves.mapIdx (fun _ v => v.restarted)))
  restartPort ((restartWatches s3).setTraps s3.traps.restarted)

/-- The first setting of line time, up to the first judgement of the watches (R191). -/
def firstTime (v : Nat) (s : State) : State :=
  setContacts (armAll (startTimer v (s.setClock ⟨some v, { s.clock.record with timeSet := some v }⟩)))

/-- One change that the command or event `i` may make. -/
inductive Move (i : Instr) (s : State) : State → Prop
  -- what no law speaks of
  | tracker (x : Tracker) : Move i s (s.setTracker x)
  | signallers (x : Vector SigRuntime 32) : Move i s (s.setSignallers x)
  | inputUnit (x : InputUnit) : Move i s (s.setInputUnit x)
  | freeCount (n : Nat) : Move i s (s.setFreeCount n)
  | reply (r : Option Reply) : Move i s (s.setReply r)
  | launchOverdue (d : Option Nat) : Move i s (s.setLaunchOverdue d)
  | intakeCounts (f : IntakeCounts → IntakeCounts) : Move i s (s.countIntake f)
  | firstPending (b : Bool) : Move i s (s.setWatchUnit { s.watchUnit with firstPending := b })
  | portRecord (x : Port) (hcontexts : x.contexts = s.port.contexts) : Move i s (s.setPort x)
  -- the contexts
  | post (k : AttnKind) (x : Option Subject) : Move i s (post k x s)
  | refusal (m : Master) (r : Option LastRefusal)
      (hi : ∃ c, i.request = some (m, c) ∨ ∃ code, i = .unknownCommandCode m code) :
      Move i s (s.setContext m { s.context m with lastRefusal := r })
  | cursor (m : Master) (tag : Option Nat) (mode : CursorMode)
      (hi : (∃ a, i = .cursorSet m a) ∨ (∃ a, i = .cursorRead m a) ∧ mode = (s.context m).cursorMode) :
      Move i s (setCursor m tag mode s)
  | dropTag (tag : Nat) (hi : removes i) :
      Move i s (s.setPort { s.port with contexts := s.port.contexts.mapIdx (fun _ c => c.dropTag tag) })
  | attend (m : Master) (kinds : AttnSet) (hi : ∃ a, i = .acknowledgeAttention m a) :
      Move i s (s.setContext m ((s.context m).attend kinds))
  | enable (m : Master) (kinds : AttnSet) (hi : ∃ a, i = .setEnables m a) :
      Move i s (s.setContext m ((s.context m).enable kinds))
  -- the profile store
  | takeProfile (p : Profile) (hmasters : p.masters = s.profile.masters) (hline : p.line = s.profile.line)
      (hwatches : p.watches = s.profile.watches) (hlock : Unlocked i p s)
      (hlawful : s.profile.Lawful → p.Lawful) : Move i s (takeProfile p s)
  | takeMaster (k : Master) (c : MasterClass) (hservice : ∃ m : Master, (s.profile.masters.set k c)[m] = .service) :
      Move i s (setClass k c (takeProfile { s.profile with masters := s.profile.masters.set k c } s))
  | takeLine (d : LineDef) (hlock : Unlocked i (s.profile.withLine d) s) (hcount : 2 ≤ d.count ∧ d.count ≤ 16)
      (hend : 1000 ≤ d.lineEnd ∧ d.lineEnd ≤ 999999) :
      Move i s (clearLine (Machine.takeProfile (s.profile.withLine d) s))
  | takeWatch (st : Fin 16) (c : WatchCfg) (w : Watch) :
      Move i s (applyHold st ((Machine.takeProfile { s.profile with watches := s.profile.watches.set st c } s).setWatch
        st w))
  | finishWrite : Move i s (s.setStore s.store.finishWrite)
  -- line time
  | time (t : Nat) (hset : s.now.isSome = true) : Move i s (s.setTime t)
  | firstTime (v : Nat) : Move i s (firstTime v s)
  -- the register
  | ratio (tag r : Nat) (p : Pig) (hp : s.register.find tag = some p) :
      Move i s (s.setRegister (s.register.update tag fun q =>
        { q with ratio := (ratioFrom p.kind r).1, source := (ratioFrom p.kind r).2 }))
  | confirm (tag c : Nat) (p : Pig) (hp : s.register.find tag = some p)
      (hstatus : p.status = .stalled ∨ p.status = .unverified) :
      Move i s (s.setRegister (s.register.update tag fun q => q.confirm (confirmedPosition s tag c) s.now))
  | strike (f : Pig → Bool) : Move i s (s.setInLine (s.register.inLine.map fun p => if f p then p.strike else p))
  | advance (now : Nat) : Move i s (s.setInLine ((treatPigs s now none s.register.inLine).map (·.1)))
  | fix (now : Nat) (g : Signaller) (x : Passage) (early : Bool) (p : Pig) (h0 : x.signaller ≠ 0)
      (hg : s.profile.signaller? x.signaller = some g)
      (hp : s.register.inLine.find? (unseenAt g.chainage) = some p) :
      Move i s (s.setInLine (fixList (fixedPig s now g x early) (unseenAt g.chainage) none s.register.inLine))
  | arrive (t : Nat) (p : Pig) (hp : s.register.inLine.find? (fun q => q.tag == p.tag) = some p)
      (hstatus : (s.register.inLine.map (·.tag)).Nodup → p.status = .running) :
      Move i s (s.setRegister { s.register with
        inLine := s.register.inLine.eraseP (fun q => q.tag == p.tag)
        receiveBarrel := s.register.receiveBarrel ++ [arrivedPig t p] })
  | launch (now : Nat) (g : Signaller) (x : Passage) (p : Pig) (hp : s.register.launchBarrel.head? = some p) :
      Move i s (s.setRegister { s.register with
        inLine := s.register.inLine ++ [launchedPig s now g x (s.register.inLine.getLast?.map (·.position)) p]
        launchBarrel := s.register.launchBarrel.tail })
  | remove (tag : Nat) (hi : removes i) : Move i s (s.setRegister (s.register.remove tag))
  | stage (m : Master) (x : StageArgs) (hi : i = .stagePig m (some x)) (hroom : s.register.hasRoom = true)
      (hcomplete : s.profile.complete = true) : Move i s (s.setRegister (s.register.stage x))
  -- the passage lists
  | entries (l : List IntakeEntry) (hl : l.Sublist s.intake.entries) : Move i s (s.setEntries l)
  | enter (e : IntakeEntry) (hroom : s.intake.entries.length < 24) (hwaits : waitsFor e s.intake.entries = false) :
      Move i s (s.setEntries (insertEntry e s.intake.entries))
  | fixUnit (x : FixUnit) (hx : s.fixUnit.unmatched.length ≤ 8 → x.unmatched.length ≤ 8) : Move i s (s.setFixUnit x)
  -- the valves and the watches
  | hold (st : Fin 16) (h : HoldSet) (hwatch : h.getLsbD 6 = s.valves[st].hold.getLsbD 6) : Move i s (changeHold st h s)
  | valve (st : Fin 16) (v : Valve) (hhold : v.hold = s.valves[st].hold) (hcontact : v.contact = s.valves[st].contact)
      (hpermit : ∀ p, v.permit = some p → s.valves[st].permit = some p ∨ ∃ m x, i = .requestStroke m x) :
      Move i s (s.setValve st v)
  | watch (st : Fin 16) (w : Watch) : Move i s (applyHold st (s.setWatch st w))
  -- the traps
  | trap (t : TrapId) (r : TrapRecord) (hlaw : TrapLaw s → TrapLaw (s.setTrap t r)) : Move i s (s.setTrap t r)
  -- restarts
  | restart (m : Master) (a : Carried Unit) (hi : i = .restart m a) : Move i s (restartBase s)
  | powerOn (a b c : Bool) (hi : i = .powerOn a b c) : Move i s (startUp a b c s)
  | powerLoss (hi : i = .powerLoss) : Move i s (losePower s)

/-- A sequence of moves. -/
abbrev Moves (i : Instr) : State → State → Prop := Relation.ReflTransGen (Move i)

/-- A property that every move keeps holds at the end of a sequence of moves where it held at the start. -/
theorem Moves.keep {i : Instr} {P : State → Prop} (hmove : ∀ s t, Move i s t → P s → P t) {s t : State}
    (h : Moves i s t) (hs : P s) : P t := by
  induction h with
  | refl => exact hs
  | tail _ hlast ih => exact hmove _ _ hlast ih

theorem Moves.foldl {i : Instr} {α : Type} {f : State → α → State} (hf : ∀ u x, Moves i u (f u x)) (l : List α)
    (s : State) : Moves i s (l.foldl f s) := by
  induction l generalizing s with
  | nil => exact .refl
  | cons x l ih => exact (hf s x).trans (ih _)

section Decomposition

variable {i : Instr}

/-! ## Postings -/

theorem postAll_moves (l : List AttnKind) (x : Subject) (s : State) : Moves i s (postAll l x s) :=
  Moves.foldl (fun _ k => .single (.post k (some x))) l s

theorem keepSubject_moves (k : AttnKind) (choice : Nat) (l : List Subject) (s : State) :
    Moves i s (keepSubject k choice l s) := by
  unfold keepSubject
  split
  · exact .refl
  · exact .single (.portRecord _ rfl)

/-! ## The watches (R139 to R149) -/

theorem madeActions_moves (st : Fin 16) (s : State) : Moves i s (madeActions st s) := by
  have hpost (u : State) (k : AttnKind) (x : Option Subject) (c : Prop) [Decidable c] :
      Moves i u (if c then post k x u else u) := by
    split
    · exact .single (.post _ _)
    · exact .refl
  exact (hpost s _ _ _).trans (hpost _ _ _ _)

theorem settleWatch_moves (st : Fin 16) (w : Watch) (made : Bool) (s : State) :
    Moves i s (settleWatch st made (s.setWatch st w)) := by
  simp only [settleWatch]
  have hwatch : Moves i s (applyHold st (s.setWatch st w)) := .single (.watch st w)
  split
  · exact hwatch.trans (madeActions_moves st _)
  · exact hwatch

theorem judgeWatch_moves (first : Bool) (now : Nat) (s : State) (st : Fin 16) :
    Moves i s (judgeWatch first now s st) := by
  simp only [judgeWatch]
  split
  · split <;> exact settleWatch_moves st _ _ s
  · exact settleWatch_moves st _ _ s

theorem judgeOne_moves (st : Fin 16) (s : State) : Moves i s (judgeOne st s) := by
  unfold judgeOne
  split
  · exact .refl
  · exact judgeWatch_moves _ _ s st

theorem judgeAll_moves (s : State) : Moves i s (judgeAll s) := by
  unfold judgeAll
  split
  · exact .refl
  · exact (Moves.foldl (judgeWatch_moves _ _) _ s).tail (.firstPending false)

theorem expireDelay_moves (st : Fin 16) (s : State) : Moves i s (expireDelay st s) := by
  simp only [expireDelay]
  split
  · exact settleWatch_moves st _ _ s
  · exact settleWatch_moves st _ _ s
  · exact .refl

theorem setWatch_self (st : Fin 16) (s : State) : s.setWatch st s.watchUnit.watches[st] = s := by
  simp [State.setWatch, State.setWatchUnit]

theorem setWatch_setWatch (st : Fin 16) (v w : Watch) (s : State) :
    (s.setWatch st v).setWatch st w = s.setWatch st w := by
  simp [State.setWatch, State.setWatchUnit]

theorem applyHold_moves (st : Fin 16) (s : State) : Moves i s (applyHold st s) := by
  have h : Move i s (applyHold st (s.setWatch st s.watchUnit.watches[st])) := .watch st _
  rw [setWatch_self] at h
  exact .single h

theorem judgeOne_applyHold_moves (st : Fin 16) (s : State) : Moves i s (judgeOne st (applyHold st s)) :=
  (applyHold_moves st s).trans (judgeOne_moves st _)

/-! ## Valves (R118, R130) -/

theorem writePosition_moves (st : Fin 16) (pos : ValvePos) (s : State) : Moves i s (writePosition st pos s) := by
  simp only [writePosition]
  split
  · exact .refl
  · exact .head (.valve st { s.valves[st] with position := pos } rfl rfl fun _ h => .inl h) (judgeAll_moves _)

theorem handPosition_moves (old new : ValvePos) (s : State) : Moves i s (handPosition old new s) := by
  unfold handPosition
  split
  · exact .refl
  · exact judgeAll_moves s

theorem expirePermit_moves (st : Fin 16) (s : State) : Moves i s (expirePermit st s) := by
  simp only [expirePermit]
  split
  · exact .refl
  next p _ =>
    have hexpired : Move i s (s.setValve st { s.valves[st] with
        position := .unknown, permit := none, lapsed := some ⟨p.owner, p.direction⟩ }) :=
      .valve st _ rfl rfl fun _ h => nomatch h
    exact .head hexpired (.head (.post _ _) (handPosition_moves _ _ _))

/-! ## Fixes, launches and the passage lists (R93 to R112) -/

theorem countPassage_moves (n : Nat) (s : State) : Moves i s (countPassage n s) := .single (.signallers _)

theorem countMissed_moves (lo hi : Nat) (s : State) (n : Nat) : Moves i s (countMissed lo hi s n) := by
  simp only [countMissed]
  split
  · exact .refl
  · split_ifs
    · exact .tail (.single (.signallers _)) (.post _ _)
    · exact .single (.signallers _)
    · exact .refl

theorem countFix_moves (n : Nat) (g : Signaller) (p : Pig) (s : State) : Moves i s (countFix n g p s) := by
  unfold countFix
  split
  · exact ((countPassage_moves n s).trans (Moves.foldl (countMissed_moves _ _) _ _)).trans (keepSubject_moves _ _ _ _)
  · exact countPassage_moves n s

/-- A candidate past signaller 0 is the first in-line pig not yet seen at or past the signaller (R94). -/
theorem candidate_past_launch {s : State} {n : Nat} {g : Signaller} {p : Pig} (hn : n ≠ 0)
    (hg : s.profile.signaller? n = some g) (hp : candidate s n = some p) :
    s.register.inLine.find? (unseenAt g.chainage) = some p := by
  simp only [candidate, hg, if_neg hn] at hp
  split at hp
  · cases hp
  · exact hp

/-- A candidate at signaller 0 is the first staged pig (R94). -/
theorem candidate_launch {s : State} {p : Pig} (hp : candidate s 0 = some p) :
    s.register.launchBarrel.head? = some p := by
  simp only [candidate] at hp
  split at hp
  · cases hp
  · simp only [if_pos] at hp
    split at hp
    · exact hp
    · cases hp

theorem makeFix_moves {now : Nat} {g : Signaller} {x : Passage} {early : Bool} {p : Pig} {s : State}
    (h0 : x.signaller ≠ 0) (hg : s.profile.signaller? x.signaller = some g)
    (hp : s.register.inLine.find? (unseenAt g.chainage) = some p) : Moves i s (makeFix now g x early p s) := by
  unfold makeFix
  exact .head (.fix now g x early p h0 hg hp) ((countFix_moves _ _ _ _).tail (.post _ _))

/-- The position of the pig ahead of the place that follows a list of pigs. -/
def positionAhead (ahead : Option Nat) (front : List Pig) : Option Nat :=
  (front.getLast?.map (·.position)).or ahead

/-- What a fix does to the in-line list: the first candidate is written behind the pigs ahead of it, and the pigs behind it
are pushed back. -/
theorem fixList_eq (write : Option Nat → Pig → Pig) {c : Pig → Bool} {l : List Pig} {p : Pig} (h : l.find? c = some p)
    (ahead : Option Nat) :
    ∃ front behind, l = front ++ p :: behind ∧ (∀ q ∈ front, c q = false) ∧
      fixList write c ahead l =
        front ++ write (positionAhead ahead front) p :: pushBack (write (positionAhead ahead front) p).position behind := by
  induction l generalizing ahead with
  | nil => cases h
  | cons q l ih =>
    by_cases hq : c q = true
    · rw [List.find?_cons_of_pos hq] at h
      cases h
      exact ⟨[], l, rfl, by simp, by simp [fixList, hq, positionAhead]⟩
    · rw [List.find?_cons_of_neg hq] at h
      obtain ⟨front, behind, hl, hfront, hfix⟩ := ih h (some q.position)
      refine ⟨q :: front, behind, by rw [hl]; rfl, ?_, ?_⟩
      · simpa using ⟨Bool.eq_false_iff.mpr hq, hfront⟩
      · have hahead : positionAhead ahead (q :: front) = positionAhead (some q.position) front := by
          cases front <;> simp [positionAhead, List.getLast?_cons]
        simp only [fixList, if_neg hq, hfix, hahead, List.cons_append]

theorem pushBack_tags (front : Nat) (l : List Pig) : (pushBack front l).map (·.tag) = l.map (·.tag) := by
  induction l generalizing front with
  | nil => rfl
  | cons p l ih =>
    simp only [pushBack]
    split
    · simp [ih]
    · rfl

theorem makeArrival_moves {t tag : Nat} {s : State}
    (hstatus : (s.register.inLine.map (·.tag)).Nodup → ∀ p ∈ s.register.inLine, p.tag = tag → p.status = .running) :
    Moves i s (makeArrival t tag s) := by
  simp only [makeArrival]
  split
  · exact .refl
  next p hp =>
    have htag : p.tag = tag := by simpa using List.find?_some hp
    subst htag
    have harrive := Move.arrive (i := i) t p hp fun hnodup => hstatus hnodup p (List.mem_of_find?_eq_some hp) rfl
    split
    · exact .tail (.single harrive) (.post _ _)
    · exact .single harrive

/-- A pig that shares its tag with no other is the only one of its tag. -/
theorem eq_of_tag_eq {front behind : List Pig} {p q : Pig} (hnodup : ((front ++ p :: behind).map (·.tag)).Nodup)
    (hq : q ∈ front ++ p :: behind) (htag : q.tag = p.tag) : q = p :=
  List.inj_on_of_nodup_map hnodup hq (by simp) htag

theorem applyPassage_moves {now : Nat} {g : Signaller} {x : Passage} {early : Bool} {p : Pig} {s : State}
    (hg : s.profile.signaller? x.signaller = some g) (hp : candidate s x.signaller = some p) :
    Moves i s (applyPassage now g x early p s) := by
  simp only [applyPassage]
  split
  next h0 =>
    rw [h0] at hp
    exact .tail (.head (.launch now g x p (candidate_launch hp))
      (((countPassage_moves _ _).tail (.post _ _)).trans (judgeAll_moves _))) (.launchOverdue _)
  next h0 =>
    have hfind := candidate_past_launch h0 hg hp
    have hfix : Moves i s (makeFix now g x early p s) := makeFix_moves h0 hg hfind
    split
    · refine hfix.trans (Relation.ReflTransGen.trans (makeArrival_moves fun hnodup q hq htag => ?_) (judgeAll_moves _))
      obtain ⟨front, behind, hl, -, hlist⟩ := fixList_eq (fixedPig s now g x early) hfind none
      have hregister : (makeFix now g x early p s).register.inLine =
          fixList (fixedPig s now g x early) (unseenAt g.chainage) none s.register.inLine := by
        have := countFix_only x.signaller g p (s.setInLine
          (fixList (fixedPig s now g x early) (unseenAt g.chainage) none s.register.inLine)) .register (by simp)
        exact congrArg Register.inLine this
      rw [hregister, hlist] at hq hnodup
      rw [eq_of_tag_eq hnodup hq htag]
      rfl
    · exact hfix.trans (judgeAll_moves _)

theorem noteUnmatched_moves (now : Nat) (x : Passage) (r : UnmatchedReason) (s : State) :
    Moves i s (noteUnmatched now x r s) := by
  refine .tail (.single (.fixUnit _ fun h => ?_)) (.post _ _)
  simp only [List.length_append, List.length_singleton]
  split
  · simp only [List.length_tail]
    omega
  · omega

theorem takeEntry_moves (now : Nat) (x : Passage) (s : State) : Moves i s (takeEntry now x s) := by
  unfold takeEntry
  split
  · exact noteUnmatched_moves _ _ _ s
  next hg hp => exact applyPassage_moves hg hp
  next hg hp => exact applyPassage_moves hg hp
  · exact noteUnmatched_moves _ _ _ s

theorem handFirst_moves (now : Nat) (s : State) : Moves i s (handFirst now s) := by
  unfold handFirst
  split
  · exact .refl
  next e rest he =>
    split
    · exact .head (.entries rest (he ▸ List.sublist_cons_self e rest)) (takeEntry_moves _ _ _)
    · exact .refl

theorem handDue_moves (now n : Nat) (s : State) : Moves i s (handDue now n s) := by
  induction n generalizing s with
  | zero => exact .refl
  | succ n ih => exact (handFirst_moves now s).trans (ih _)

theorem noteSequence_moves (e : IntakeEntry) (diff : Nat) (s : State) : Moves i s (noteSequence e diff s) := by
  simp only [noteSequence]
  split
  · exact .tail (.single (.signallers _)) (.post _ _)
  · exact .single (.signallers _)

theorem acceptReport_moves {now : Nat} {e : IntakeEntry} {diff : Nat} {clamped : Bool} {s : State}
    (hroom : s.intake.entries.length < 24) (hwaits : waitsFor e s.intake.entries = false) :
    Moves i s (acceptReport now e diff clamped s).1 := by
  have hintake : (noteSequence e diff s).intake = s.intake := noteSequence_only e diff s .intake (by simp)
  have henter : Moves i s (((noteSequence e diff s).setEntries (insertEntry e (noteSequence e diff s).intake.entries)).countIntake
      (fun c => { c with accepted := bump c.accepted })) :=
    ((noteSequence_moves e diff s).tail (.enter e (by rwa [hintake]) (by rwa [hintake]))).tail (.intakeCounts _)
  simp only [acceptReport]
  split
  · exact henter.trans (handDue_moves _ _ _)
  · exact henter

theorem takeInService_moves {now : Nat} {e : IntakeEntry} {diff : Nat} {s : State}
    (hwaits : waitsFor e s.intake.entries = false) : Moves i s (takeInService now e diff s).1 := by
  simp only [takeInService]
  set u := if tooFarAhead now e.time = true then
    s.countIntake (fun c => { c with futureClamps := bump c.futureClamps }) else s with hu
  have hcount : Moves i s u := by
    rw [hu]
    split
    · exact .single (.intakeCounts _)
    · exact .refl
  have hentries : u.intake.entries = s.intake.entries := by
    rw [hu]
    split <;> rfl
  split_ifs with hstale hfull
  · exact hcount.tail (.intakeCounts fun c => { c with stale := bump c.stale })
  · exact (hcount.tail (.intakeCounts fun c => { c with overruns := bump c.overruns })).tail (.post _ _)
  · exact hcount.trans (acceptReport_moves (by omega) (by rw [hentries]; exact hwaits))

theorem takeReport_moves (now : Nat) (e : IntakeEntry) (s : State) : Moves i s (takeReport now e s).1 := by
  unfold takeReport
  split
  · simp only [takeOutOfService]
    split
    · exact .tail (.single (.intakeCounts _)) (.signallers _)
    · exact .single (.intakeCounts _)
  · have hduplicate : Moves i s (takeDuplicate s).1 :=
      .single (.intakeCounts fun c => { c with duplicates := bump c.duplicates })
    split
    · exact hduplicate
    · split
      · exact hduplicate
      next hwaits => exact takeInService_moves (Bool.eq_false_iff.mpr hwaits)

theorem localReport_moves (now : Nat) (c : Fin 8) (time : Nat) (speed : Option Nat) (s : State) :
    Moves i s (localReport now c time speed s) := by
  unfold localReport
  split
  · exact .refl
  · exact takeReport_moves _ _ s

/-! ## The tracker (R42, R46) -/

theorem judgeFlow_moves (now : Nat) (s : State) (r : Fin 15) : Moves i s (judgeFlow now s r) := by
  simp only [judgeFlow]
  split
  · exact .refl
  · split
    · exact .tail (.single (.tracker _)) (.post _ _)
    · exact .single (.tracker _)

theorem advancePigs_moves (now : Nat) (s : State) : Moves i s (advancePigs now s) :=
  .head (.advance now) (Moves.foldl (fun s (r : Pig × List AttnKind) => postAll_moves r.2 (.tag r.1.tag) s) _ _)

theorem trackerUpdate_moves (now : Nat) (s : State) : Moves i s (trackerUpdate now s) := by
  have hflows : Moves i s (judgeFlows now s) := Moves.foldl (judgeFlow_moves now) _ s
  unfold trackerUpdate
  exact ((hflows.trans (advancePigs_moves now _)).tail (.tracker _)).trans (judgeAll_moves _)

/-! ## The local channels (R78 to R89) -/

theorem setChannel_moves (c : Fin 8) (x : Channel) (s : State) : Moves i s (s.setChannel c x) := .single (.inputUnit _)

theorem detect_moves (c : Fin 8) (x : Channel) (now time : Nat) (speed : Option Nat) (s : State) :
    Moves i s (detect c x now time speed s) := (setChannel_moves c _ s).trans (localReport_moves _ _ _ _ _)

theorem leadingEdge_moves (mode : ChanMode) (c : Fin 8) (ms : Nat) (s : State) :
    Moves i s (leadingEdge mode c ms s) := by
  unfold leadingEdge
  split
  · exact .refl
  · split
    · exact setChannel_moves c _ s
    · exact .refl

theorem contactOpens_moves (c : Fin 8) (ms : Nat) (s : State) : Moves i s (contactOpens c ms s) := by
  simp only [contactOpens]
  split
  · exact .refl
  · split
    · exact setChannel_moves c _ s
    · exact detect_moves _ _ _ _ _ s

theorem contactHeld_moves (c : Fin 8) (ms : Nat) (s : State) : Moves i s (contactHeld c ms s) := by
  unfold contactHeld
  split
  · exact .refl
  · split
    · exact detect_moves _ _ _ _ _ s
    · exact .refl

theorem pulseEnds_moves (c : Fin 8) (w now : Nat) (s : State) : Moves i s (pulseEnds c w now s) := by
  simp only [pulseEnds]
  split
  · exact setChannel_moves c _ s
  · split
    · exact detect_moves _ _ _ _ _ s
    · exact setChannel_moves c _ s

theorem pulseInactive_moves (c : Fin 8) (ms : Nat) (s : State) : Moves i s (pulseInactive c ms s) := by
  unfold pulseInactive
  split
  · exact pulseEnds_moves _ _ _ s
  · split
    · split
      · exact setChannel_moves c _ s
      · exact .refl
    · exact .refl

theorem pulseTooLong_moves (c : Fin 8) (ms : Nat) (s : State) : Moves i s (pulseTooLong c ms s) := by
  simp only [pulseTooLong]
  split
  · exact .refl
  · split
    · exact setChannel_moves c _ s
    · exact .refl

theorem pairRunsOut_moves (overrun : Nat) (c : Fin 8) (ms : Nat) (s : State) :
    Moves i s (pairRunsOut overrun c ms s) := by
  unfold pairRunsOut
  split
  · split
    · exact detect_moves _ _ _ _ _ s
    · exact .refl
  · exact .refl

theorem guardRunsOut_moves (overrun : Nat) (c : Fin 8) (ms : Nat) (s : State) :
    Moves i s (guardRunsOut overrun c ms s) := by
  simp only [guardRunsOut]
  split
  · split
    · exact setChannel_moves c _ s
    · exact .refl
  · exact .refl

theorem settlePair_moves (c : Fin 8) (ms : Nat) (s : State) : Moves i s (settlePair c ms s) :=
  (pairRunsOut_moves 1 c ms s).trans (guardRunsOut_moves 1 c ms _)

theorem pairSeesB_moves (c : Fin 8) (ms : Nat) (s : State) : Moves i s (pairSeesB c ms s) := by
  simp only [pairSeesB]
  split
  · exact detect_moves _ _ _ _ _ s
  · split
    · exact .refl
    · split
      · exact setChannel_moves c _ s
      · exact .refl

/-! ## The traps (R154 to R168) -/

theorem leaveDriving_moves (t : TrapId) (old new : TrapState) (s : State) : Moves i s (leaveDriving t old new s) := by
  unfold leaveDriving
  split
  · exact .single (.launchOverdue _)
  · exact .refl

theorem enterDriving_moves (t : TrapId) (new : TrapState) (s : State) : Moves i s (enterDriving t new s) := by
  unfold enterDriving
  split
  · exact .single (.launchOverdue _)
  · exact .refl

/-- A trap record that keeps R152, R155 and R166 where the trap's record kept them. -/
theorem trapLaw_setTrap {t : TrapId} {r : TrapRecord} {s : State} (hs : TrapLaw s)
    (hdriving : t = .receive → r.state ≠ .driving) (hdrive : t = .receive → ∀ h, r.step = some h → h.step ≠ .drive)
    (hunknown : r.state = .unknown → r.step = none) : TrapLaw (s.setTrap t r) := by
  obtain ⟨hstate, hstep, hall⟩ := hs
  have hrecords : ∀ x : TrapId, ((s.setTrap t r).trap x) = if x = t then r else s.trap x :=
    fun x => setTrap_trap s t x r
  have hreceive : (s.setTrap t r).traps.receive = (s.setTrap t r).trap .receive := rfl
  refine ⟨?_, ?_, fun x => ?_⟩
  · rw [hreceive, hrecords]
    split
    next h => exact hdriving h.symm
    · exact hstate
  · rw [hreceive, hrecords]
    split
    next h => exact hdrive h.symm
    · exact hstep
  · rw [hrecords]
    split
    · exact hunknown
    · exact hall x

theorem expireStep_moves (t : TrapId) (s : State) : Moves i s (expireStep t s) := by
  simp only [expireStep]
  split
  · exact .refl
  · exact .head (.trap t _ fun h => trapLaw_setTrap h (by simp) (by simp) fun _ => rfl)
      (.head (.post _ _) (leaveDriving_moves _ _ _ _))

theorem stepTo_eq_driving {x : TrapStep} (h : stepTo x = .driving) : x = .drive := by
  revert h; cases x <;> decide

theorem finishStep_moves {t : TrapId} {x : TrapStep} {s : State} {h : StepInHand} (hstep : (s.trap t).step = some h)
    (hx : h.step = x) : Moves i s (finishStep t x s) := by
  refine .head (.trap t _ fun hlaw => trapLaw_setTrap hlaw ?_ (by simp) fun _ => rfl)
    (.head (.post _ _) ((leaveDriving_moves _ _ _ _).trans (enterDriving_moves _ _ _)))
  rintro rfl hdriving
  exact hlaw.2.1 h hstep (hx.trans (stepTo_eq_driving hdriving))

theorem expireLaunch_moves (s : State) : Moves i s (expireLaunch s) :=
  .tail (.single (.post _ _)) (.launchOverdue _)

/-! ## Deadlines (R192) -/

theorem runOut_moves (now : Nat) (s : State) (t : Timer) : Moves i s (runOut now s t) := by
  cases t with
  | update => exact trackerUpdate_moves now s
  | entry => exact handFirst_moves now s
  | permit st => exact expirePermit_moves st s
  | step t => exact expireStep_moves t s
  | delay st => exact expireDelay_moves st s
  | launch => exact expireLaunch_moves s

theorem runDeadlines_moves (now fuel : Nat) (s : State) : Moves i s (runDeadlines now fuel s) := by
  induction fuel generalizing s with
  | zero => exact .refl
  | succ n ih =>
    unfold runDeadlines
    split
    · exact .refl
    · exact (runOut_moves _ _ _).trans (ih _)
    · exact .head (.freeCount _) ((runOut_moves _ _ _).trans (ih _))

end Decomposition

end Sys2Proof.Machine


/-! PROOF. The profile law under each profile command (R5 to R8, R10, R11): an item that passes its checks leaves the profile
in order. -/

namespace Sys2Proof.Machine

/-! ## The items of a changed profile -/

theorem join_getElem?_setIfInBounds {α : Type} {n i j : Nat} (v : Vector (Option α) n) (x : Option α) (hi : i < n) :
    ((v.setIfInBounds i x)[j]?).join = if j = i then x else (v[j]?).join := by
  rw [Vector.getElem?_setIfInBounds]
  by_cases h : j = i
  · subst h
    simp [hi]
  · simp [h, Ne.symm h]

theorem setStation_station? (p : Profile) {i : Nat} (st : Station) (hi : i < 16) (j : Nat) :
    (p.setStation i st).station? j = if j = i then some st else p.station? j :=
  join_getElem?_setIfInBounds p.stations (some st) hi

theorem setReach_reach? (p : Profile) {i : Nat} (r : Reach) (hi : i < 15) (j : Nat) :
    (p.setReach i r).reach? j = if j = i then some r else p.reach? j :=
  join_getElem?_setIfInBounds p.reaches (some r) hi

theorem setSignaller_signaller? (p : Profile) {n : Nat} (g : Option Signaller) (hn : n < 32) (j : Nat) :
    (p.setSignaller n g).signaller? j = if j = n then g else p.signaller? j :=
  join_getElem?_setIfInBounds p.signallers g hn

/-- The station count of a profile in order is at most 16. -/
theorem Profile.Lawful.count_le {p : Profile} (h : p.Lawful) : p.count ≤ 16 := by
  unfold Profile.count
  split
  · omega
  next d hd => exact (h.1 d hd).2.1

/-! ## Nearest neighbours -/

theorem exists_nearest_below {P : Nat → Prop} {i j : Nat} (hj : j < i) (hP : P j) :
    ∃ k, j ≤ k ∧ k < i ∧ P k ∧ ∀ l, k < l → l < i → ¬ P l := by
  classical
  have hle : j ≤ i - 1 := by omega
  refine ⟨Nat.findGreatest P (i - 1), Nat.le_findGreatest hle hP, ?_, Nat.findGreatest_spec hle hP,
    fun l hl hli => Nat.findGreatest_is_greatest hl (by omega)⟩
  have := Nat.findGreatest_le (P := P) (i - 1)
  omega

theorem exists_nearest_above {P : Nat → Prop} {i j : Nat} (hj : i < j) (hP : P j) :
    ∃ k, i < k ∧ k ≤ j ∧ P k ∧ ∀ l, i < l → l < k → ¬ P l := by
  classical
  have hex : ∃ k, i < k ∧ P k := ⟨j, hj, hP⟩
  exact ⟨Nat.find hex, (Nat.find_spec hex).1, Nat.find_min' hex ⟨hj, hP⟩, (Nat.find_spec hex).2,
    fun l hl hlt hPl => Nat.find_min hex hlt ⟨hl, hPl⟩⟩

/-! ## Stations (R6, R7) -/

theorem StationsApart.trans {a b c : Station} (hab : StationsApart a b) (hbc : StationsApart b c) :
    StationsApart a c := by
  unfold StationsApart at *
  omega

/-- A station with room between its nearest neighbours is apart from every station. -/
theorem StationRoom.apart {p : Profile} (hp : p.Lawful) {i : Nat} {st : Station} (hroom : StationRoom p i st) :
    (∀ j a, j < i → p.station? j = some a → StationsApart a st) ∧
      ∀ j b, i < j → p.station? j = some b → StationsApart st b := by
  obtain ⟨hbelow, habove⟩ := hroom
  obtain ⟨-, hplace, hapart, -⟩ := hp
  constructor
  · intro j a hj ha
    obtain ⟨k, hjk, hki, hk, hnone⟩ := exists_nearest_below (P := fun k => p.station? k ≠ none) hj (by simp [ha])
    obtain ⟨l, hl⟩ := Option.ne_none_iff_exists'.mp hk
    have hlst : StationsApart l st := hbelow k l hki hl fun m h1 h2 => not_not.mp (hnone m h1 h2)
    rcases Nat.lt_or_eq_of_le hjk with hlt | rfl
    · exact (hapart j k a l hlt ha hl).trans hlst
    · rwa [Option.some.inj (ha.symm.trans hl)]
  · intro j b hj hb
    obtain ⟨k, hik, hkj, hk, hnone⟩ := exists_nearest_above (P := fun k => p.station? k ≠ none) hj (by simp [hb])
    obtain ⟨u, hu⟩ := Option.ne_none_iff_exists'.mp hk
    have hstu : StationsApart st u := habove k u hik (hplace k u hu).1 hu fun m h1 h2 => not_not.mp (hnone m h1 h2)
    rcases Nat.lt_or_eq_of_le hkj with hlt | rfl
    · exact hstu.trans (hapart k j u b hlt hu hb)
    · rwa [Option.some.inj (hb.symm.trans hu)]

theorem setStation_lawful {p : Profile} (hp : p.Lawful) {i : Nat} {st : Station} (hi : i < p.count)
    (hhalf : 5 ≤ st.halfWidth ∧ st.halfWidth ≤ 2000) (hstroke : 5 ≤ st.strokeTime ∧ st.strokeTime ≤ 600)
    (hplace : StationPlace p i st.chainage)
    (hapart : (∀ j a, j < i → p.station? j = some a → StationsApart a st) ∧
      ∀ j b, i < j → p.station? j = some b → StationsApart st b) : (p.setStation i st).Lawful := by
  have hi16 : i < 16 := by have := hp.count_le; omega
  obtain ⟨hline, hstations, hpairs, hrest⟩ := hp
  refine ⟨hline, fun j x hx => ?_, fun j k a b hjk ha hb => ?_, hrest⟩
  · rw [setStation_station? p st hi16] at hx
    split at hx
    next hj =>
      cases hx
      subst hj
      exact ⟨hi, hplace, hhalf.1, hhalf.2, hstroke.1, hstroke.2⟩
    · exact hstations j x hx
  · rw [setStation_station? p st hi16] at ha hb
    split at ha <;> split at hb
    · omega
    next hj _ =>
      cases ha
      subst hj
      exact hapart.2 k b hjk hb
    next _ hk =>
      cases hb
      subst hk
      exact hapart.1 j a hjk ha
    · exact hpairs j k a b hjk ha hb

theorem stationFrom_lawful {p : Profile} (hp : p.Lawful) {x : StationArgs} (hi : x.index < p.count)
    (hhalf : optWithin 5 2000 x.halfWidth = true) (hstroke : optWithin 5 600 x.strokeTime = true)
    (hmoved : (p.station? x.index).map (fun h => (h.chainage, h.halfWidth)) ≠
        some ((stationFrom x (p.station? x.index)).chainage, (stationFrom x (p.station? x.index)).halfWidth) →
      StationPlace p x.index (stationFrom x (p.station? x.index)).chainage ∧
        StationRoom p x.index (stationFrom x (p.station? x.index))) :
    (p.setStation x.index (stationFrom x (p.station? x.index))).Lawful := by
  have hheld := hp.2.1 x.index
  have hpairs := hp.2.2.1
  rw [optWithin_iff] at hhalf hstroke
  generalize hst : stationFrom x (p.station? x.index) = st at *
  have hwidth : 5 ≤ st.halfWidth ∧ st.halfWidth ≤ 2000 := by
    subst hst
    cases h : x.halfWidth <;> cases h' : p.station? x.index <;> simp [stationFrom, h] <;> grind
  have htime : 5 ≤ st.strokeTime ∧ st.strokeTime ≤ 600 := by
    subst hst
    cases h : x.strokeTime <;> cases h' : p.station? x.index <;> simp [stationFrom, h] <;> grind
  by_cases hsame : (p.station? x.index).map (fun h => (h.chainage, h.halfWidth)) = some (st.chainage, st.halfWidth)
  · obtain ⟨held, hheld', heq⟩ := Option.map_eq_some_iff.mp hsame
    obtain ⟨hchainage, hhalfWidth⟩ := Prod.mk.inj heq
    have hapart (a b : Station) : (StationsApart a held ↔ StationsApart a st) ∧ (StationsApart held b ↔ StationsApart st b) := by
      simp only [StationsApart, hchainage, hhalfWidth, and_self]
    refine setStation_lawful hp hi hwidth htime (hchainage ▸ (hheld held hheld').2.1)
      ⟨fun j a hj ha => ?_, fun j b hj hb => ?_⟩
    · exact (hapart a a).1.mp (hpairs j x.index a held hj ha hheld')
    · exact (hapart b b).2.mp (hpairs x.index j held b hj hheld' hb)
  · obtain ⟨hplace, hroom⟩ := hmoved hsame
    exact setStation_lawful hp hi hwidth htime hplace (hroom.apart hp)

/-! ## Reaches (R8) and tracking (R11) -/

theorem setReach_lawful {p : Profile} (hp : p.Lawful) {x : ReachArgs} (hi : x.index < p.count - 1)
    (harea : within 50 20000 x.area = true) (hstall : optWithin 60 7200 x.stallTime = true)
    (htimeout : optWithin 10 600 x.flowTimeout = true) :
    (p.setReach x.index (reachFrom x (p.reach? x.index))).Lawful := by
  have hi15 : x.index < 15 := by have := hp.count_le; omega
  obtain ⟨hline, hstations, hpairs, hreaches, hrest⟩ := hp
  refine ⟨hline, hstations, hpairs, fun j r hr => ?_, hrest⟩
  rw [setReach_reach? p _ hi15] at hr
  split at hr
  next hj =>
    cases hr
    subst hj
    rw [optWithin_iff] at hstall htimeout
    rw [within_iff] at harea
    have hheld := hreaches x.index
    refine ⟨by simp only [Profile.setReach, Profile.count] at *; omega, harea.1, harea.2, ?_⟩
    have hs : 60 ≤ (reachFrom x (p.reach? x.index)).stallTime ∧ (reachFrom x (p.reach? x.index)).stallTime ≤ 7200 := by
      cases h : x.stallTime <;> cases h' : p.reach? x.index <;> simp [reachFrom, h] <;> grind
    have ht : 10 ≤ (reachFrom x (p.reach? x.index)).flowTimeout ∧
        (reachFrom x (p.reach? x.index)).flowTimeout ≤ 600 := by
      cases h : x.flowTimeout <;> cases h' : p.reach? x.index <;> simp [reachFrom, h] <;> grind
    exact ⟨hs.1, hs.2, ht⟩
  · exact hreaches j r hr

theorem tracking_lawful {p : Profile} (hp : p.Lawful) {x : TrackingArgs} (hperiod : within 1 60 x.period = true)
    (hholdBack : optWithin 0 120 x.holdBack = true) (hweight : optWithin 0 16 x.weight = true) :
    Profile.Lawful { p with tracking :=
      ⟨x.period, x.holdBack.getD p.tracking.holdBack, x.weight.getD p.tracking.weight⟩ } := by
  obtain ⟨hline, hstations, hpairs, hreaches, hsignallers, hrise, -, -, hback, hw⟩ := hp
  rw [optWithin_iff] at hholdBack hweight
  rw [within_iff] at hperiod
  refine ⟨hline, hstations, hpairs, hreaches, hsignallers, hrise, hperiod.1, hperiod.2, ?_, ?_⟩
  · cases h : x.holdBack <;> simp <;> grind
  · cases h : x.weight <;> simp <;> grind

/-! ## Signallers (R9, R10) -/

theorem SignallersRise.trans {i j a b c : Nat} (hij : i < j) (hab : SignallersRise i a b) (hbc : SignallersRise j b c) :
    SignallersRise i a c := by
  unfold SignallersRise at *
  omega

/-- A signaller with room between its nearest neighbours rises in the order of every signaller. -/
theorem SignallerRoom.rises {p : Profile} (hp : p.Lawful) {n c : Nat} (hroom : SignallerRoom p n c) :
    (∀ j a, j < n → p.signaller? j = some a → SignallersRise j a.chainage c) ∧
      ∀ j b, n < j → p.signaller? j = some b → SignallersRise n c b.chainage := by
  obtain ⟨-, -, hbelow, habove⟩ := hroom
  obtain ⟨-, -, -, -, -, hrise, -⟩ := hp
  constructor
  · intro j a hj ha
    obtain ⟨k, hjk, hkn, hk, hnone⟩ := exists_nearest_below (P := fun k => p.signaller? k ≠ none) hj (by simp [ha])
    obtain ⟨l, hl⟩ := Option.ne_none_iff_exists'.mp hk
    have hlc := hbelow k l hkn hl fun m h1 h2 => not_not.mp (hnone m h1 h2)
    rcases Nat.lt_or_eq_of_le hjk with hlt | rfl
    · exact (hrise j k a l hlt ha hl).trans hlt hlc
    · rwa [Option.some.inj (ha.symm.trans hl)]
  · intro j b hj hb
    obtain ⟨k, hnk, hkj, hk, hnone⟩ := exists_nearest_above (P := fun k => p.signaller? k ≠ none) hj (by simp [hb])
    obtain ⟨u, hu⟩ := Option.ne_none_iff_exists'.mp hk
    have hcu := habove k u hnk (signaller?_lt hu) hu fun m h1 h2 => not_not.mp (hnone m h1 h2)
    rcases Nat.lt_or_eq_of_le hkj with hlt | rfl
    · exact hcu.trans hnk (hrise k j u b hlt hu hb)
    · rwa [Option.some.inj (hb.symm.trans hu)]

theorem removeSignaller_lawful {p : Profile} (hp : p.Lawful) {n : Nat} (hn : n < 32) :
    (p.setSignaller n none).Lawful := by
  obtain ⟨hline, hstations, hpairs, hreaches, hsignallers, hrise, htracking⟩ := hp
  have hheld (j : Nat) (g : Signaller) (hg : (p.setSignaller n none).signaller? j = some g) :
      p.signaller? j = some g := by
    rw [setSignaller_signaller? p none hn] at hg
    split at hg
    · cases hg
    · exact hg
  exact ⟨hline, hstations, hpairs, hreaches, fun j g hg => hsignallers j g (hheld j g hg),
    fun j k a b hjk ha hb => hrise j k a b hjk (hheld j a ha) (hheld k b hb), htracking⟩

theorem setSignaller_lawful {p : Profile} (hp : p.Lawful) {n : Nat} {g : Signaller} (hn : n < 32) (hline : p.line ≠ none)
    (hend : g.chainage ≤ p.lineEnd) (hfirst : n = 0 → 10 ≤ g.chainage ∧ g.chainage ≤ 200)
    (hwindow : 10 ≤ g.window ∧ g.window ≤ 20000)
    (hrises : (∀ j a, j < n → p.signaller? j = some a → SignallersRise j a.chainage g.chainage) ∧
      ∀ j b, n < j → p.signaller? j = some b → SignallersRise n g.chainage b.chainage) :
    (p.setSignaller n (some g)).Lawful := by
  obtain ⟨hlines, hstations, hpairs, hreaches, hsignallers, hrise, htracking⟩ := hp
  refine ⟨hlines, hstations, hpairs, hreaches, fun j x hx => ?_, fun j k a b hjk ha hb => ?_, htracking⟩
  · rw [setSignaller_signaller? p _ hn] at hx
    split at hx
    next hj =>
      cases hx
      subst hj
      exact ⟨hline, hend, hfirst, hwindow.1, hwindow.2⟩
    · exact hsignallers j x hx
  · rw [setSignaller_signaller? p _ hn] at ha hb
    split at ha <;> split at hb
    · omega
    next hj _ =>
      cases ha
      subst hj
      exact hrises.2 k b hjk hb
    next _ hk =>
      cases hb
      subst hk
      exact hrises.1 j a hjk ha
    · exact hrise j k a b hjk ha hb

theorem signallerFrom_lawful {p : Profile} (hp : p.Lawful) {n : Nat} {x : SignallerPlace} (hn : n < 32)
    (hline : p.line ≠ none) (hwindow : optWithin 10 20000 x.window = true)
    (hmoved : (p.signaller? n).map (fun h => (h.source, h.chainage)) ≠
        some ((signallerFrom x (p.signaller? n)).source, (signallerFrom x (p.signaller? n)).chainage) →
      SignallerRoom p n (signallerFrom x (p.signaller? n)).chainage) :
    (p.setSignaller n (some (signallerFrom x (p.signaller? n)))).Lawful := by
  obtain ⟨d, hd⟩ := Option.ne_none_iff_exists'.mp hline
  have hend : 1000 ≤ p.lineEnd := by
    simp only [Profile.lineEnd, hd]
    exact (hp.1 d hd).2.2.1
  have hheld := hp.2.2.2.2.1 n
  have hrise := hp.2.2.2.2.2.1
  rw [optWithin_iff] at hwindow
  generalize hg : signallerFrom x (p.signaller? n) = g at *
  have hwidth : 10 ≤ g.window ∧ g.window ≤ 20000 := by
    subst hg
    cases h : x.window <;> cases h' : p.signaller? n <;> simp [signallerFrom, h] <;> grind
  by_cases hsame : (p.signaller? n).map (fun h => (h.source, h.chainage)) = some (g.source, g.chainage)
  · obtain ⟨held, hheld', heq⟩ := Option.map_eq_some_iff.mp hsame
    obtain ⟨-, hchainage⟩ := Prod.mk.inj heq
    obtain ⟨-, hle, hfirst, -⟩ := hheld held hheld'
    rw [hchainage] at hle hfirst
    refine setSignaller_lawful hp hn hline hle hfirst hwidth ⟨fun j a hj ha => ?_, fun j b hj hb => ?_⟩
    · exact hchainage ▸ hrise j n a held hj ha hheld'
    · exact hchainage ▸ hrise n j held b hj hheld' hb
  · have hroom := hmoved hsame
    refine setSignaller_lawful hp hn hline ?_ hroom.1 hwidth (hroom.rises hp)
    by_cases h0 : n = 0
    · have := hroom.1 h0
      omega
    · exact hroom.2.1 h0

/-! ## The line (R5) -/

theorem join_getElem?_replicate_none {α : Type} (n j : Nat) :
    ((Vector.replicate n (none : Option α))[j]?).join = none := by
  rw [Vector.getElem?_replicate]
  split <;> rfl

theorem withLine_lawful {p : Profile} (hp : p.Lawful) {d : LineDef} (hcount : 2 ≤ d.count ∧ d.count ≤ 16)
    (hend : 1000 ≤ d.lineEnd ∧ d.lineEnd ≤ 999999) : (p.withLine d).Lawful := by
  obtain ⟨-, -, -, -, -, -, htracking⟩ := hp
  have hstation (j : Nat) : (p.withLine d).station? j = none := join_getElem?_replicate_none 16 j
  have hreach (j : Nat) : (p.withLine d).reach? j = none := join_getElem?_replicate_none 15 j
  have hsignaller (j : Nat) : (p.withLine d).signaller? j = none := join_getElem?_replicate_none 32 j
  refine ⟨?_, by simp [hstation], by simp [hstation], by simp [hreach], by simp [hsignaller], by simp [hsignaller],
    htracking⟩
  rintro _ ⟨⟩
  exact ⟨hcount.1, hcount.2, hend⟩

end Sys2Proof.Machine


/-! PROOF. Every command and event is a sequence of moves: the checks that requests pass, the rule of each request, and the
dispatch of every command and event. -/

namespace Sys2Proof.Machine

section Requests

variable {i : Instr}

/-! ## The checks that requests pass -/

theorem whenComplete_moves {body : State → State × Answer} {s : State}
    (h : s.profile.complete = true → Moves i s (body s).1) : Moves i s (whenComplete body s).1 := by
  unfold whenComplete
  split
  next hc => exact h hc
  · exact .refl

theorem whenIdle_moves {body : State → State × Answer} {s : State} (h : Moves i s (body s).1) :
    Moves i s (whenIdle body s).1 := by
  unfold whenIdle
  split
  · exact .refl
  · exact h

theorem whenTime_moves {body : Nat → State → State × Answer} {s : State}
    (h : ∀ now, s.now = some now → Moves i s (body now s).1) : Moves i s (whenTime body s).1 := by
  unfold whenTime
  split
  · exact .refl
  next now hnow => exact h now hnow

theorem withParams_moves {α : Type} {a : Carried α} {body : α → State → State × Answer} {s : State}
    (h : ∀ x, a = some x → Moves i s (body x s).1) : Moves i s (withParams a body s).1 := by
  cases a with
  | none => exact .refl
  | some x => exact h x rfl

/-- Past the checks of R3, where the line must be defined. -/
theorem ofLine_moves {α : Type} {a : Carried α} {body : α → State → State × Answer} {s : State}
    (h : s.profile.line ≠ none → ∀ x, Moves i s (body x s).1) :
    Moves i s (whenIdle (fun s => if s.profile.line.isNone then refuse .state s else withParams a body s) s).1 := by
  refine whenIdle_moves ?_
  split
  · exact .refl
  next hline => exact withParams_moves fun x _ => h (by simpa using hline) x

theorem withPig_moves {tag : Nat} {body : Pig → State → State × Answer} {s : State}
    (h : ∀ p, s.register.find tag = some p → Moves i s (body p s).1) : Moves i s (withPig tag body s).1 := by
  unfold withPig
  split
  · exact .refl
  · split
    · exact .refl
    next p hp => exact h p hp

theorem withStation_moves {n : Nat} {body : Fin 16 → State → State × Answer} {s : State}
    (h : ∀ st, Moves i s (body st s).1) : Moves i s (withStation n body s).1 := by
  unfold withStation
  split
  · exact h _
  · exact .refl

theorem withSignaller_moves {n : Nat} {body : State → State × Answer} {s : State} (h : Moves i s (body s).1) :
    Moves i s (withSignaller n body s).1 := by
  unfold withSignaller
  split
  · exact .refl
  · split
    · exact .refl
    · exact h

theorem withWatch_moves {n : Nat} {body : Fin 16 → State → State × Answer} {s : State}
    (h : ∀ st, Moves i s (body st s).1) : Moves i s (withWatch n body s).1 := by
  unfold withWatch
  split
  · exact h _
  · exact .refl

/-- A rule that reads the state only. -/
theorem moves_of_read {body : State → State × Answer} (h : ∀ s, (body s).1 = s) (s : State) :
    Moves i s (body s).1 := by
  rw [h]

/-! ## The profile commands (R5 to R13) -/

theorem view_eq_nil_of_unlocked {r : Register} (h : r.locked = false) : r.view = [] := by
  simp only [Register.locked, Register.size, bne_eq_false_iff_eq] at h
  rw [Register.view, ← List.length_eq_zero_iff]
  simp only [List.length_append]
  omega

/-- A profile that the checks of R3 let through is not locked, and none of its conflicts or places stands against it. -/
theorem judgeProfile_moves {p : Profile} {conflict breaks : Bool} {after : State → State} {s : State}
    (hi : ¬ removes i) (h : Unlocked i p s → breaks = false → Moves i s (after (takeProfile p s))) :
    Moves i s (judgeProfile p conflict breaks after s).1 := by
  unfold judgeProfile
  split_ifs with hsame hlocked hconflict hbreaks
  · exact .refl
  · exact .refl
  · exact .refl
  · exact .refl
  · refine h ?_ (by simpa using hbreaks)
    by_cases hgeometry : geometryOf p = geometryOf s.profile
    · exact .inl hgeometry
    · exact .inr ⟨view_eq_nil_of_unlocked (by simpa [hgeometry] using hlocked), hi⟩

/-- A taken profile that keeps the line, the masters and the watches, and what the command does besides. -/
theorem judgeProfile_takes {p : Profile} {conflict breaks : Bool} {after : State → State} {s : State}
    (hi : ¬ removes i) (hmasters : p.masters = s.profile.masters) (hline : p.line = s.profile.line)
    (hwatches : p.watches = s.profile.watches) (hlawful : breaks = false → s.profile.Lawful → p.Lawful)
    (hafter : ∀ u, Moves i u (after u)) : Moves i s (judgeProfile p conflict breaks after s).1 :=
  judgeProfile_moves hi fun hlock hbreaks =>
    .head (.takeProfile p hmasters hline hwatches hlock (hlawful hbreaks)) (hafter _)

theorem defineLine_moves (x : LineArgs) (s : State) (hi : ¬ removes i) : Moves i s (defineLine x s).1 := by
  unfold defineLine
  split
  · exact .refl
  next hrange =>
    simp only [Bool.not_eq_true, Bool.not_eq_false', Bool.and_eq_true, within_iff] at hrange
    split
    · exact .refl
    · exact judgeProfile_moves hi fun hlock _ => .single (.takeLine ⟨x.count, x.lineEnd⟩ hlock hrange.1 hrange.2)

theorem defineStation_moves (x : StationArgs) (s : State) (hi : ¬ removes i) : Moves i s (defineStation x s).1 := by
  simp only [defineStation]
  split
  · exact .refl
  next hrange =>
    simp only [Bool.not_eq_true, Bool.not_eq_false', Bool.and_eq_true, decide_eq_true_eq] at hrange
    obtain ⟨⟨⟨hindex, -⟩, hhalf⟩, hstroke⟩ := hrange
    refine judgeProfile_takes hi rfl rfl rfl (fun hplaces hp => ?_) fun _ => .refl
    refine stationFrom_lawful hp hindex hhalf hstroke fun hmoved => ?_
    rw [← stationPlaceOk_iff, ← stationFits_iff, ← Bool.and_eq_true]
    simpa [hmoved] using hplaces

theorem defineReach_moves (x : ReachArgs) (s : State) (hi : ¬ removes i) : Moves i s (defineReach x s).1 := by
  unfold defineReach
  split
  · exact .refl
  next hrange =>
    simp only [Bool.not_eq_true, Bool.not_eq_false', Bool.and_eq_true, decide_eq_true_eq] at hrange
    obtain ⟨⟨⟨hindex, harea⟩, hstall⟩, htimeout⟩ := hrange
    exact judgeProfile_takes hi rfl rfl rfl (fun _ hp => setReach_lawful hp hindex harea hstall htimeout) fun _ => .refl

theorem dropPassages_moves (n : Nat) (s : State) : Moves i s (dropPassages n s) :=
  .tail (.single (.entries _ List.filter_sublist)) (.fixUnit _ fun h => (List.length_filter_le _ _).trans h)

theorem resignal_moves (n : Nat) (held made : Option Signaller) (s : State) : Moves i s (resignal n held made s) := by
  simp only [resignal]
  have hdrop (c : Prop) [Decidable c] : Moves i s (if c then dropPassages n s else s) := by
    split
    · exact dropPassages_moves n s
    · exact .refl
  split
  · exact hdrop _
  · exact (hdrop _).tail (.signallers _)

theorem defineSignaller_moves {x : SignallerArgs} {s : State} (hi : ¬ removes i) (hline : s.profile.line ≠ none) :
    Moves i s (defineSignaller x s).1 := by
  simp only [defineSignaller]
  split
  · split
    · exact .refl
    next hn =>
      exact judgeProfile_takes hi rfl rfl rfl (fun _ hp => removeSignaller_lawful hp (by omega)) (resignal_moves _ _ _)
  next pl _ =>
    split
    · exact .refl
    next hrange =>
      simp only [Bool.not_eq_true, Bool.not_eq_false', Bool.and_eq_true, decide_eq_true_eq] at hrange
      obtain ⟨⟨hn, -⟩, hwindow⟩ := hrange
      refine judgeProfile_takes hi rfl rfl rfl (fun hplaces hp => ?_) (resignal_moves _ _ _)
      refine signallerFrom_lawful hp (by omega) hline hwindow fun hmoved => ?_
      rw [← signallerFits_iff]
      simpa [hmoved] using hplaces

theorem shortenHoldBack_moves (old : Nat) (s : State) : Moves i s (shortenHoldBack old s) := by
  unfold shortenHoldBack
  split
  · split
    · exact handDue_moves _ _ s
    · exact .refl
  · exact .refl

theorem defineTracking_moves (x : TrackingArgs) (s : State) (hi : ¬ removes i) :
    Moves i s (defineTracking x s).1 := by
  simp only [defineTracking]
  split
  · exact .refl
  next hrange =>
    simp only [Bool.not_eq_true, Bool.not_eq_false', Bool.and_eq_true] at hrange
    obtain ⟨⟨hperiod, hback⟩, hweight⟩ := hrange
    exact judgeProfile_takes hi rfl rfl rfl (fun _ hp => tracking_lawful hp hperiod hback hweight)
      (shortenHoldBack_moves _)

theorem defineTrap_moves (x : TrapArgs) (s : State) (hi : ¬ removes i) : Moves i s (defineTrap x s).1 := by
  obtain ⟨t, l⟩ := x
  unfold defineTrap
  split
  · exact .refl
  · cases t <;> exact judgeProfile_takes hi rfl rfl rfl (fun _ hp => hp) fun _ => .refl

theorem defineMaster_moves (x : MasterArgs) (s : State) (hi : ¬ removes i) : Moves i s (defineMaster x s).1 := by
  simp only [defineMaster]
  split
  · exact .refl
  next k _ =>
    split
    next hservice =>
      refine judgeProfile_moves hi fun _ _ => .single (.takeMaster k x.cls ?_)
      obtain ⟨m, hm, hget⟩ := List.getElem_of_mem (List.contains_iff_mem.mp hservice)
      exact ⟨⟨m, by simpa using hm⟩, by simpa using hget⟩
    · exact .refl

theorem rechannel_moves (c : Fin 8) (old new : ChanCfg) (s : State) : Moves i s (rechannel c old new s) := by
  unfold rechannel
  split
  · exact pairRunsOut_moves _ _ _ s
  · exact setChannel_moves c _ s

theorem setChannelMode_moves (x : ChannelArgs) (s : State) (hi : ¬ removes i) :
    Moves i s (setChannelMode x s).1 := by
  simp only [setChannelMode]
  split
  · exact .refl
  · split
    · exact judgeProfile_takes hi rfl rfl rfl (fun _ hp => hp) (rechannel_moves _ _ _)
    · exact .refl

/-- A delay that is set anew, and runs out where it has passed, ends in the watch set up for it and its HOLD applied. -/
theorem rewatch_moves (st : Fin 16) (new : WatchCfg) (s : State) :
    Moves i s (rewatch st (s.watchCfg st) new
      (takeProfile { s.profile with watches := s.profile.watches.set st new } s)) := by
  have htake (w : Watch) := Move.takeWatch (i := i) (s := s) st new w
  unfold rewatch
  split
  · exact .head (htake _) (judgeOne_moves st _)
  · simp only [settleDelay]
    split
    · exact .head (htake _) (judgeOne_moves st _)
    · split
      · simp only [expireDelay]
        split
        · rw [setWatch_setWatch]
          exact .head (htake _) ((madeActions_moves st _).trans (judgeOne_applyHold_moves st _))
        · rw [setWatch_setWatch]
          exact .head (htake _) (judgeOne_applyHold_moves st _)
        · exact .head (htake _) (judgeOne_moves st _)
      · exact .head (htake _) (judgeOne_moves st _)

theorem setWatch_moves (x : WatchArgs) (s : State) (hi : ¬ removes i) : Moves i s (setWatch x s).1 := by
  simp only [setWatch]
  split
  · exact .refl
  · split
    · exact judgeProfile_moves hi fun _ _ => rewatch_moves _ _ s
    · exact .refl

/-! ## The register (R27 to R36) -/

theorem removePig_moves (tag : Nat) (s : State) (hi : removes i) : Moves i s (removePig tag s) :=
  .head (.remove tag hi) (.head (.dropTag tag hi) (judgeAll_moves _))

theorem setRatio_moves (x : RatioArgs) (s : State) : Moves i s (setRatio x s).1 :=
  withPig_moves fun p hp => .single (.ratio x.tag x.ratio p hp)

theorem writeOff_moves (tag : Nat) (s : State) (hi : removes i) : Moves i s (writeOff tag s).1 := by
  refine withPig_moves fun p _ => ?_
  split
  · exact removePig_moves tag s hi
  · exact .refl

theorem confirm_moves (x : TagChainage) (s : State) : Moves i s (confirm x s).1 := by
  unfold confirm
  split
  · exact .refl
  · refine withPig_moves fun p hp => ?_
    split
    next hstatus => exact .single (.confirm x.tag x.chainage p hp hstatus)
    · exact .refl

theorem queryEta_fst (x : TagChainage) (s : State) : (queryEta x s).1 = s := by
  simp only [queryEta, withPig]
  split
  · rfl
  · split
    · rfl
    · split
      · rfl
      · split
        · rfl
        · split <;> rfl

theorem readPig_fst (tag : Nat) (s : State) : (readPig tag s).1 = s := by
  simp only [readPig, withPig]
  split
  · rfl
  · split <;> rfl

theorem cursorSet_moves (m : Master) (x : CursorArgs) (s : State) (hi : ∃ a, i = .cursorSet m a) :
    Moves i s (cursorSet m x s).1 := by
  simp only [cursorSet]
  split
  · exact withPig_moves fun _ _ => .single (.cursor m _ _ (.inl hi))
  · exact .single (.cursor m _ _ (.inl hi))

theorem cursorRead_moves (m : Master) (u : Unit) (s : State) (hi : ∃ a, i = .cursorRead m a) :
    Moves i s (cursorRead m u s).1 := by
  simp only [cursorRead]
  split
  · exact .refl
  · exact .single (.cursor m _ _ (.inr ⟨hi, rfl⟩))

/-! ## Flow, passages, channels and signallers -/

theorem reportFlow_moves (x : FlowArgs) (now : Nat) (s : State) : Moves i s (reportFlow x now s).1 := by
  simp only [reportFlow]
  split
  · exact .refl
  · exact .single (.tracker _)

theorem reportPassage_moves (m : Master) (x : PassageArgs) (now : Nat) (s : State) :
    Moves i s (reportPassage m x now s).1 := by
  simp only [reportPassage]
  split
  · exact .refl
  · split
    · exact .refl
    · split
      · exact .refl
      · exact takeReport_moves _ _ s

theorem resetFlag_moves (n : Nat) (s : State) : Moves i s (resetFlag n s).1 := by
  simp only [resetFlag]
  split
  · exact .refl
  · split_ifs
    · exact .refl
    · exact .refl
    · exact .refl
    · exact setChannel_moves _ _ s
    · exact .refl

theorem dropUnmatched_moves (n q : Nat) (s : State) : Moves i s (dropUnmatched n q s) :=
  .single (.fixUnit _ fun h => List.eraseP_sublist.length_le.trans h)

theorem assignPassage_moves (x : AssignArgs) (now : Nat) (s : State) : Moves i s (assignPassage x now s).1 := by
  unfold assignPassage
  split
  · exact .refl
  · split
    next e p _ _ =>
      simp only [assignEntry]
      split
      next hg hc =>
        split_ifs
        · exact .refl
        · exact .refl
        · exact (applyPassage_moves (x := e.passage) hg hc).trans (dropUnmatched_moves _ _ _)
      · exact .refl
    · exact .refl

theorem discardPassage_moves (x : DiscardArgs) (s : State) : Moves i s (discardPassage x s).1 := by
  simp only [discardPassage]
  split_ifs
  · exact .refl
  · exact dropUnmatched_moves _ _ s
  · exact .refl

theorem readMatching_fst (sel : MatchingSel) (s : State) : (readMatching sel s).1 = s := by
  cases sel with
  | summary => rfl
  | unmatched k => exact readPlace_fst _ _ _ _ s
  | signaller n =>
    simp only [readMatching, withSignaller]
    split_ifs <;> rfl

/-! ## Valves and watches (R119 to R149) -/

theorem reportValve_moves (x : ValveArgs) (s : State) : Moves i s (reportValve x s).1 :=
  withStation_moves fun st => writePosition_moves st _ s

theorem getLsbD_masterBit_watch (m : Master) : (masterBit m).getLsbD 6 = false := by revert m; decide

theorem setHold_moves (m : Master) (n : Nat) (s : State) : Moves i s (setHold m n s).1 :=
  withStation_moves fun st => .single (.hold st _ (by
    rw [BitVec.getLsbD_or, getLsbD_masterBit_watch, Bool.or_false]))

theorem releaseHold_moves (m : Master) (n : Nat) (s : State) : Moves i s (releaseHold m n s).1 := by
  refine withStation_moves fun st => ?_
  split
  · refine .single (.hold st _ ?_)
    rw [BitVec.getLsbD_and, BitVec.getLsbD_not, getLsbD_masterBit_watch]
    simp
  · exact .refl

theorem clearHold_moves (s : State) (st : Fin 16) : Moves i s (clearHold s st) :=
  .single (.hold st _ (by simp [watchBit]))

theorem clearHolds_moves (x : Option Nat) (s : State) : Moves i s (clearHolds x s).1 := by
  cases x with
  | none => exact (Moves.foldl clearHold_moves _ s).trans (keepSubject_moves _ _ _ _)
  | some n => exact withStation_moves (clearHold_moves s)

theorem requestStroke_moves (m : Master) (x : StrokeArgs) (now : Nat) (s : State)
    (hi : ∃ m x, i = .requestStroke m x) : Moves i s (requestStroke m x now s).1 := by
  refine withStation_moves fun st => ?_
  split
  · simp only [judgeStroke]
    split_ifs
    · exact .refl
    · exact .refl
    · exact .refl
    · split
      · exact .refl
      · exact .single (.valve st _ rfl rfl fun _ _ => .inr hi)
  · exact .refl

theorem strokeDone_moves (m : Master) (x : ValveArgs) (s : State) : Moves i s (strokeDone m x s).1 := by
  unfold strokeDone
  split
  · exact .refl
  · refine withStation_moves fun st => ?_
    dsimp only
    split
    · split
      · exact .head (.valve st { s.valves[st] with permit := none } rfl rfl (by simp)) (writePosition_moves st _ _)
      · exact .refl
    · split
      · exact .head (.valve st { s.valves[st] with lapsed := none } rfl rfl fun _ h => .inl h)
          (writePosition_moves st _ _)
      · exact .refl

theorem notifyForcedStroke_moves (x : StrokeArgs) (s : State) : Moves i s (notifyForcedStroke x s).1 := by
  refine withStation_moves fun st => ?_
  have hforced : Move i s (s.setValve st { s.valves[st] with
      permit := none, lapsed := none, position := .moving, forced := some ⟨x.direction, s.now⟩ }) :=
    .valve st _ rfl rfl (by simp)
  exact .head hforced (.head (.strike (s.inZone st)) (.head (.post _ _) (handPosition_moves _ _ _)))

theorem readValve_fst (x : Option Nat) (s : State) : (readValve x s).1 = s := by
  cases x with
  | none => rfl
  | some n =>
    simp only [readValve, withStation]
    split
    · split <;> rfl
    · rfl

theorem acknowledgeWatch_moves (n : Nat) (s : State) : Moves i s (acknowledgeWatch n s).1 := by
  refine withWatch_moves fun st => ?_
  dsimp only
  split
  · exact .head (.watch st _) (judgeOne_moves st _)
  · exact .refl

theorem readWatch_fst (n : Nat) (s : State) : (readWatch n s).1 = s := by
  simp only [readWatch, withWatch]
  split <;> rfl

/-! ## Traps and staging (R154 to R170) -/

theorem reportPressure_moves (x : PressureArgs) (s : State) : Moves i s (reportPressure x s).1 := by
  simp only [reportPressure]
  split
  · refine .single (.trap x.trap _ fun hlaw => trapLaw_setTrap hlaw ?_ ?_ (hlaw.2.2 x.trap))
    · rintro ht
      rw [ht]
      exact hlaw.1
    · rintro ht
      rw [ht]
      exact hlaw.2.1
  · exact .refl

theorem trapStep_moves (m : Master) (x : StepArgs) (now : Nat) (s : State) : Moves i s (trapStep m x now s).1 := by
  simp only [trapStep]
  split_ifs with hrange hbusy hstate
  · exact .refl
  · exact .refl
  · exact .refl
  · split
    · exact .refl
    · refine .single (.trap x.trap _ fun hlaw => trapLaw_setTrap hlaw ?_ ?_ fun hunknown => ?_)
      · rintro ht
        rw [ht]
        exact hlaw.1
      · rintro ht _ ⟨⟩ hdrive
        exact hrange ⟨hdrive, ht⟩
      · rw [show (s.trap x.trap).state = .unknown from hunknown, stepFrom_contains_unknown] at hstate
        exact absurd rfl hstate

theorem trapDone_moves (m : Master) (x : StepArgs) (s : State) : Moves i s (trapDone m x s).1 := by
  simp only [trapDone]
  split
  next h hstep =>
    split_ifs with howner hother
    · exact .refl
    · exact .refl
    · exact finishStep_moves hstep (not_not.mp hother)
  next hnone =>
    split
    · refine .single (.trap x.trap _ fun hlaw => trapLaw_setTrap hlaw ?_ (by simp [hnone]) fun _ => hnone)
      rintro ht
      rw [ht]
      exact hlaw.1
    · exact .refl

theorem stagePig_moves {m : Master} {x : StageArgs} {s : State} (hi : i = .stagePig m (some x))
    (hcomplete : s.profile.complete = true) : Moves i s (stagePig x s).1 := by
  simp only [stagePig]
  split_ifs with hstate hbusy hroom
  · exact .refl
  · exact .refl
  · exact .refl
  · exact .single (.stage m x hi (by simpa using hroom) hcomplete)

theorem removePigFrom_moves (x : RemoveArgs) (s : State) (hi : removes i) : Moves i s (removePigFrom x s).1 := by
  simp only [removePigFrom]
  split_ifs
  · exact .refl
  · exact .refl
  · exact .refl
  · exact removePig_moves _ s hi
  · exact .refl

theorem recoverTrap_moves (x : RecoverArgs) (s : State) : Moves i s (recoverTrap x s).1 := by
  simp only [recoverTrap]
  split_ifs with hrange hbusy
  · exact .refl
  · exact .refl
  · have hstep : (s.trap x.trap).step = none := by simpa using hbusy
    have hdeclared : Move i s (s.setTrap x.trap { s.trap x.trap with state := x.state, lapsed := none }) :=
      .trap x.trap _ fun hlaw =>
        trapLaw_setTrap hlaw (fun ht hd => hrange ⟨ht, hd⟩) (by simp [hstep]) fun _ => hstep
    exact .head hdeclared (.head (.launchOverdue _) (.single (.post _ _)))

/-! ## The attention commands and line time (R184, R185, R191, R196) -/

theorem acknowledgeAttention_moves (m : Master) (kinds : AttnSet) (s : State)
    (hi : ∃ a, i = .acknowledgeAttention m a) : Moves i s (acknowledgeAttention m kinds s).1 :=
  .single (.attend m _ hi)

theorem setEnables_moves (m : Master) (kinds : AttnSet) (s : State) (hi : ∃ a, i = .setEnables m a) :
    Moves i s (setEnables m kinds s).1 := .single (.enable m _ hi)

theorem firstSetting_moves (v : Nat) (s : State) : Moves i s (firstSetting v s) :=
  .head (.firstTime v) (judgeAll_moves (firstTime v s))

theorem jumpTo_moves (v : Nat) {s : State} (hset : s.now.isSome = true) : Moves i s (jumpTo v s) :=
  .head (.time v hset) (runDeadlines_moves v _ _)

theorem restartAll_moves {m : Master} {a : Carried Unit} (s : State) (hi : i = .restart m a) :
    Moves i s (restartAll s) := .head (.restart m a hi) (judgeAll_moves (restartBase s))

theorem setLineTime_moves (x : Option Nat) (s : State) : Moves i s (setLineTime x s).1 := by
  unfold setLineTime
  split
  · exact .refl
  next v _ => exact firstSetting_moves v s
  next v now hnow =>
    split
    · exact jumpTo_moves v (by simp [hnow])
    · exact .refl

theorem restart_moves {m : Master} {a : Carried Unit} (u : Unit) (s : State) (hi : i = .restart m a) :
    Moves i s (restart u s).1 := restartAll_moves s hi

/-! ## Requests and events -/

theorem noteRefusal_moves {m : Master} {code : Nat} {a : Answer} {s : State}
    (hi : ∃ c, i.request = some (m, c) ∨ ∃ code, i = .unknownCommandCode m code) :
    Moves i s (noteRefusal m code a s) := by
  unfold noteRefusal
  split
  · exact .single (.refusal m _ hi)
  all_goals exact .refl

theorem respond_moves {m : Master} {code : Nat} {r : State × Answer} {s : State}
    (hi : ∃ c, i.request = some (m, c) ∨ ∃ code, i = .unknownCommandCode m code) (h : Moves i s r.1) :
    Moves i s (respond m code r) := (h.trans (noteRefusal_moves hi)).tail (.reply _)

theorem serve_moves {m : Master} {k : Command} {body : State → State × Answer} {s t : State}
    (h : serve m k body s = .next t) (hi : i.request = some (m, k)) (hbody : Moves i s (body s).1) : Moves i s t := by
  rw [serve_next] at h
  injection h with h
  subst h
  split
  · refine respond_moves ⟨k, .inl hi⟩ ?_
    split
    · exact hbody
    · exact .refl
  · exact .single (.reply _)

theorem happen_moves {f : State → State} {s t : State} (h : happen f s = .next t) (hf : Moves i s (f s)) :
    Moves i s t := by
  injection h with h
  subst h
  split
  · exact hf.tail (.reply _)
  · exact .single (.reply _)

theorem timed_moves {f : Nat → State → State} {s : State} (hf : ∀ now, s.now = some now → Moves i s (f now s)) :
    Moves i s (timed f s) := by
  unfold timed
  split
  · exact .refl
  next now hnow => exact hf now hnow

/-- A timer's event acts where its deadline is reached. -/
theorem due_moves {f : Nat → State → State} {due : Nat → State → Bool} {s t : State}
    (h : happen (timed fun now s => if due now s then f now s else s) s = .next t)
    (hf : ∀ now, Moves i s (f now s)) : Moves i s t := by
  refine happen_moves h (timed_moves fun now _ => ?_)
  split
  · exact hf now
  · exact .refl

/-- A timing of a channel is judged at a reading of the millisecond timer. -/
theorem ticked_moves {f : State → State} {ms : Nat} {s t : State}
    (h : happen (fun s => f (tickTo ms s)) s = .next t) (hf : ∀ s, Moves i s (f s)) : Moves i s t :=
  happen_moves h (.head (.inputUnit _) (hf _))

theorem setLevel_moves (n : Nat) (level pair : Bool) (ms : Nat) (s : State) : Moves i s (setLevel n level pair ms s) :=
  .single (.inputUnit _)

theorem tickTo_moves (ms : Nat) (s : State) : Moves i s (tickTo ms s) := .single (.inputUnit _)

theorem rising_moves {n ms : Nat} {pair : Bool} {f : State → State} {s t : State}
    (h : rising n pair ms f s = .next t) (hf : ∀ s, Moves i s (f s)) : Moves i s t := by
  injection h with h
  subst h
  refine Relation.ReflTransGen.tail ?_ (.reply _)
  split_ifs
  · exact (setLevel_moves _ _ _ _ s).trans (hf _)
  · exact tickTo_moves ms s
  · exact setLevel_moves _ _ _ _ s
  · exact .refl

theorem falling_moves {n ms : Nat} {f : State → State} {s t : State}
    (h : falling n ms f s = .next t) (hf : ∀ s, Moves i s (f s)) : Moves i s t := by
  injection h with h
  subst h
  refine Relation.ReflTransGen.tail ?_ (.reply _)
  split
  · exact (setLevel_moves _ _ _ _ s).trans (hf _)
  · exact setLevel_moves _ _ _ _ s

theorem dropFor_moves (cause : Option DropCause) (s : State) : Moves i s (dropFor cause s) := by
  cases cause with
  | none => exact .refl
  | some c => exact .single (.portRecord _ rfl)

theorem unknownCommandCode_moves {m : Master} {code : Nat} {s t : State}
    (h : execUnknownCommandCode m code s = .next t) : Moves (.unknownCommandCode m code) s t := by
  unfold execUnknownCommandCode at h
  split at h <;> injection h with h <;> subst h
  · exact respond_moves ⟨.restart, .inr ⟨code, rfl⟩⟩ .refl
  · exact .single (.reply _)

end Requests

/-- Every command and event is a sequence of moves. -/
theorem exec_moves {i : Instr} {s t : State} (h : exec i s = .next t) : Moves i s t := by
  have hread {body : State → State × Answer} (hbody : ∀ s, (body s).1 = s) : Moves i s (body s).1 :=
    moves_of_read hbody s
  cases i with
  | defineLine m a =>
    exact serve_moves h rfl (whenIdle_moves (withParams_moves fun x _ => defineLine_moves x s (by simp [removes])))
  | defineStation m a => exact serve_moves h rfl (ofLine_moves fun _ x => defineStation_moves x s (by simp [removes]))
  | defineReach m a => exact serve_moves h rfl (ofLine_moves fun _ x => defineReach_moves x s (by simp [removes]))
  | defineSignaller m a =>
    exact serve_moves h rfl (ofLine_moves fun hline _ => defineSignaller_moves (by simp [removes]) hline)
  | defineTracking m a =>
    exact serve_moves h rfl (whenIdle_moves (withParams_moves fun x _ => defineTracking_moves x s (by simp [removes])))
  | defineTrap m a =>
    exact serve_moves h rfl (whenIdle_moves (withParams_moves fun x _ => defineTrap_moves x s (by simp [removes])))
  | defineMaster m a =>
    exact serve_moves h rfl (whenIdle_moves (withParams_moves fun x _ => defineMaster_moves x s (by simp [removes])))
  | readProfile m a => exact serve_moves h rfl (whenIdle_moves (withParams_moves fun x _ => hread (readProfile_fst x)))
  | decodeChainage m a => exact serve_moves h rfl (withParams_moves fun c _ => hread (decodeChainage_fst c))
  | readPig m a =>
    exact serve_moves h rfl (whenComplete_moves fun _ => withParams_moves fun x _ => hread (readPig_fst x))
  | cursorSet m a =>
    exact serve_moves h rfl (whenComplete_moves fun _ => withParams_moves fun x _ => cursorSet_moves m x s ⟨a, rfl⟩)
  | cursorRead m a =>
    exact serve_moves h rfl (whenComplete_moves fun _ => withParams_moves fun x _ => cursorRead_moves m x s ⟨a, rfl⟩)
  | setRatio m a => exact serve_moves h rfl (whenComplete_moves fun _ => withParams_moves fun x _ => setRatio_moves x s)
  | writeOff m a =>
    exact serve_moves h rfl
      (whenComplete_moves fun _ => withParams_moves fun x _ => writeOff_moves x s (.inl ⟨m, a, rfl⟩))
  | confirm m a => exact serve_moves h rfl (whenComplete_moves fun _ => withParams_moves fun x _ => confirm_moves x s)
  | reportFlow m a =>
    exact serve_moves h rfl
      (whenComplete_moves fun _ => whenTime_moves fun now _ => withParams_moves fun x _ => reportFlow_moves x now s)
  | readFlow m a =>
    exact serve_moves h rfl (whenComplete_moves fun _ => withParams_moves fun x _ => hread (readFlow_fst x))
  | queryEta m a =>
    exact serve_moves h rfl (whenComplete_moves fun _ => withParams_moves fun x _ => hread (queryEta_fst x))
  | reportPassage m a =>
    exact serve_moves h rfl
      (whenComplete_moves fun _ => whenTime_moves fun now _ => withParams_moves fun x _ => reportPassage_moves m x now s)
  | readIntake m a =>
    exact serve_moves h rfl (whenComplete_moves fun _ => withParams_moves fun x _ => hread (readIntake_fst x))
  | resetFlag m a => exact serve_moves h rfl (whenComplete_moves fun _ => withParams_moves fun x _ => resetFlag_moves x s)
  | setChannelMode m a =>
    exact serve_moves h rfl (whenIdle_moves (withParams_moves fun x _ => setChannelMode_moves x s (by simp [removes])))
  | readChannel m a =>
    exact serve_moves h rfl (whenComplete_moves fun _ => withParams_moves fun x _ => hread (readChannel_fst x))
  | setSignallerService m a =>
    exact serve_moves h rfl
      (whenComplete_moves fun _ => withParams_moves fun x _ => withSignaller_moves (.single (.signallers _)))
  | assignPassage m a =>
    exact serve_moves h rfl
      (whenComplete_moves fun _ => whenTime_moves fun now _ => withParams_moves fun x _ => assignPassage_moves x now s)
  | discardPassage m a =>
    exact serve_moves h rfl (whenComplete_moves fun _ => withParams_moves fun x _ => discardPassage_moves x s)
  | readMatching m a =>
    exact serve_moves h rfl (whenComplete_moves fun _ => withParams_moves fun x _ => hread (readMatching_fst x))
  | reportValve m a =>
    exact serve_moves h rfl (whenComplete_moves fun _ => withParams_moves fun x _ => reportValve_moves x s)
  | setHold m a => exact serve_moves h rfl (whenComplete_moves fun _ => withParams_moves fun x _ => setHold_moves m x s)
  | releaseHold m a =>
    exact serve_moves h rfl (whenComplete_moves fun _ => withParams_moves fun x _ => releaseHold_moves m x s)
  | clearHolds m a =>
    exact serve_moves h rfl (whenComplete_moves fun _ => withParams_moves fun x _ => clearHolds_moves x s)
  | requestStroke m a =>
    exact serve_moves h rfl (whenComplete_moves fun _ => whenTime_moves fun now _ =>
      withParams_moves fun x _ => requestStroke_moves m x now s ⟨m, a, rfl⟩)
  | strokeDone m a =>
    exact serve_moves h rfl (whenComplete_moves fun _ => withParams_moves fun x _ => strokeDone_moves m x s)
  | notifyForcedStroke m a =>
    exact serve_moves h rfl (whenComplete_moves fun _ => withParams_moves fun x _ => notifyForcedStroke_moves x s)
  | readValve m a =>
    exact serve_moves h rfl (whenComplete_moves fun _ => withParams_moves fun x _ => hread (readValve_fst x))
  | setWatch m a =>
    exact serve_moves h rfl (whenIdle_moves (withParams_moves fun x _ => setWatch_moves x s (by simp [removes])))
  | acknowledgeWatch m a =>
    exact serve_moves h rfl (whenComplete_moves fun _ => withParams_moves fun x _ => acknowledgeWatch_moves x s)
  | readWatch m a =>
    exact serve_moves h rfl (whenComplete_moves fun _ => withParams_moves fun x _ => hread (readWatch_fst x))
  | reportPressure m a =>
    exact serve_moves h rfl (whenComplete_moves fun _ => withParams_moves fun x _ => reportPressure_moves x s)
  | trapStep m a =>
    exact serve_moves h rfl
      (whenComplete_moves fun _ => whenTime_moves fun now _ => withParams_moves fun x _ => trapStep_moves m x now s)
  | trapDone m a => exact serve_moves h rfl (whenComplete_moves fun _ => withParams_moves fun x _ => trapDone_moves m x s)
  | stagePig m a =>
    exact serve_moves h rfl
      (whenComplete_moves fun hc => withParams_moves fun x hx => stagePig_moves (by rw [hx]) hc)
  | removePig m a =>
    exact serve_moves h rfl
      (whenComplete_moves fun _ => withParams_moves fun x _ => removePigFrom_moves x s (.inr ⟨m, a, rfl⟩))
  | recoverTrap m a =>
    exact serve_moves h rfl (whenComplete_moves fun _ => withParams_moves fun x _ => recoverTrap_moves x s)
  | readTrap m a =>
    exact serve_moves h rfl (whenComplete_moves fun _ => withParams_moves fun x _ => hread (readTrap_fst x))
  | readAttention m a => exact serve_moves h rfl (withParams_moves fun x _ => hread (readAttention_fst m x))
  | acknowledgeAttention m a =>
    exact serve_moves h rfl (withParams_moves fun x _ => acknowledgeAttention_moves m x s ⟨a, rfl⟩)
  | setEnables m a => exact serve_moves h rfl (withParams_moves fun x _ => setEnables_moves m x s ⟨a, rfl⟩)
  | setLineTime m a => exact serve_moves h rfl (withParams_moves fun x _ => setLineTime_moves x s)
  | restart m a => exact serve_moves h rfl (withParams_moves fun x _ => restart_moves x s rfl)
  | unknownCommandCode m code => exact unknownCommandCode_moves h
  | frameDropped frame => exact happen_moves h (dropFor_moves _ s)
  | byteGapTimeout => exact happen_moves h (.single (.portRecord _ rfl))
  | storeWriteComplete => exact happen_moves (f := fun s => s.setStore s.store.finishWrite) h (.single .finishWrite)
  | trackerUpdate => exact due_moves h fun now => trackerUpdate_moves now s
  | entryDue => exact happen_moves h (timed_moves fun now _ => handFirst_moves now s)
  | permitExpiry st => exact due_moves h fun _ => expirePermit_moves st s
  | trapStepDeadline t => exact due_moves h fun _ => expireStep_moves t s
  | watchDelayExpiry st => exact due_moves h fun _ => expireDelay_moves st s
  | launchOverdue => exact due_moves h fun _ => expireLaunch_moves s
  | contactLeadingEdge c ms => exact rising_moves h (leadingEdge_moves _ c ms)
  | contactBounce c ms => exact falling_moves h (contactOpens_moves c ms)
  | contactClosure c ms => exact ticked_moves h (contactHeld_moves c ms)
  | pulseLeadingEdge c ms => exact rising_moves h (leadingEdge_moves _ c ms)
  | pulseTrailingEdge c ms => exact falling_moves h (pulseInactive_moves c ms)
  | pulseFault c ms => exact ticked_moves h (pulseTooLong_moves c ms)
  | pulseFaultEnd c ms => exact falling_moves h (pulseInactive_moves c ms)
  | pairAEdge c ms =>
    exact rising_moves (f := fun s => leadingEdge .pair c ms (settlePair c ms s)) h
      fun s => (settlePair_moves c ms s).trans (leadingEdge_moves _ c ms _)
  | pairBEdge c ms =>
    exact rising_moves (f := fun s => pairSeesB c ms (settlePair c ms s)) h
      fun s => (settlePair_moves c ms s).trans (pairSeesB_moves c ms _)
  | pairIncomplete c ms => exact ticked_moves h (pairRunsOut_moves 0 c ms)
  | guardExpiry c ms => exact ticked_moves h (guardRunsOut_moves 0 c ms)
  | powerOn a b c =>
    injection h with h
    subst h
    exact .tail (.single (.powerOn a b c rfl)) (.reply _)
  | powerLoss =>
    injection h with h
    subst h
    exact .tail (.single (.powerLoss rfl)) (.reply _)
  | lineTimeAdvance => exact happen_moves h (timed_moves fun now hnow => .single (.time _ (by simp [hnow])))

/-- One step is a sequence of moves of one command or event, from the state without that command in its queue; a step on an
empty queue changes nothing. -/
theorem step_moves {s t : State} (h : step s = .next t) : t = s ∨ ∃ i rest, Moves i (s.setPending rest) t := by
  unfold step at h
  split at h
  · injection h with h
    exact .inl h.symm
  next c rest _ => exact .inr ⟨c, rest, exec_moves h⟩

/-- A law that does not speak of the queue is kept by every step where every move keeps it. -/
theorem step_keeps {P : State → Prop} (hmove : ∀ i s t, Move i s t → P s → P t)
    (hpending : ∀ s rest, P s → P (s.setPending rest)) {s t : State} (h : step s = .next t) (hs : P s) : P t := by
  rcases step_moves h with rfl | ⟨i, rest, hmoves⟩
  · exact hs
  · exact hmoves.keep (hmove i) (hpending s rest hs)

end Sys2Proof.Machine


/-! PROOF. Steps without power, and how a law of the part is kept by every step: what a part without power does
(R195), and the moves of a part with power. -/

namespace Sys2Proof.Machine

/-! ## Without power (R195) -/

/-- What may change without power: the level of an input, and the reply frame, which is empty. -/
def StaysDark (s t : State) : Prop :=
  OnlyChanges [.inputUnit, .reply] s t ∧ t.inputUnit.channels = s.inputUnit.channels ∧
    t.inputUnit.msTimer = s.inputUnit.msTimer ∧ t.reply = none

theorem setReply_none_staysDark (s : State) : StaysDark s (s.setReply none) :=
  ⟨(setReply_only s none).mono (by simp), rfl, rfl, rfl⟩

/-- An input takes a level without power; the reading of the millisecond timer stays. -/
theorem setLevel_staysDark (n : Nat) (level pair : Bool) (s : State) :
    StaysDark s ((setLevel n level pair 0 s).setReply none) :=
  ⟨((setLevel_only n level pair 0 s).mono (by simp)).then (setReply_only _ none) (by simp), rfl, Nat.max_zero _, rfl⟩

theorem happen_dark {f : State → State} {s t : State} (hpower : s.powered = false) (h : happen f s = .next t) :
    StaysDark s t := by
  simp only [happen, hpower, Bool.false_eq_true, if_false] at h
  injection h with h
  exact h ▸ setReply_none_staysDark s

theorem rising_staysDark {n ms : Nat} {pair : Bool} {f : State → State} {s t : State} (hpower : s.powered = false)
    (h : rising n pair ms f s = .next t) : StaysDark s t := by
  simp only [rising, hpower, Bool.false_eq_true, if_false] at h
  injection h with h
  subst h
  split
  · exact setLevel_staysDark n true pair s
  · exact setReply_none_staysDark s

theorem falling_staysDark {n ms : Nat} {f : State → State} {s t : State} (hpower : s.powered = false)
    (h : falling n ms f s = .next t) : StaysDark s t := by
  simp only [falling, hpower, Bool.false_eq_true, if_false] at h
  injection h with h
  exact h ▸ setLevel_staysDark n false false s

theorem exec_event_dark {i : Instr} {s t : State} (hi : i.request = none) (hpower : s.powered = false)
    (hon : ∀ a b c, i ≠ .powerOn a b c) (hloss : i ≠ .powerLoss) (h : exec i s = .next t) : StaysDark s t := by
  cases i <;> try (exfalso; exact Option.some_ne_none _ hi)
  case powerOn a b c => exact absurd rfl (hon a b c)
  case powerLoss => exact absurd rfl hloss
  case unknownCommandCode m code =>
    simp only [exec, execUnknownCommandCode, hpower, Bool.false_eq_true, if_false] at h
    injection h with h
    exact h ▸ setReply_none_staysDark s
  case contactLeadingEdge c ms => exact rising_staysDark hpower h
  case pulseLeadingEdge c ms => exact rising_staysDark hpower h
  case pairAEdge c ms =>
    exact rising_staysDark (f := fun s => leadingEdge .pair c ms (settlePair c ms s)) hpower h
  case pairBEdge c ms => exact rising_staysDark (f := fun s => pairSeesB c ms (settlePair c ms s)) hpower h
  case contactBounce c ms => exact falling_staysDark hpower h
  case pulseTrailingEdge c ms => exact falling_staysDark hpower h
  case pulseFaultEnd c ms => exact falling_staysDark hpower h
  case storeWriteComplete => exact happen_dark (f := fun s => s.setStore s.store.finishWrite) hpower h
  case contactClosure c ms => exact happen_dark (f := fun s => contactHeld c ms (tickTo ms s)) hpower h
  case pulseFault c ms => exact happen_dark (f := fun s => pulseTooLong c ms (tickTo ms s)) hpower h
  case pairIncomplete c ms => exact happen_dark (f := fun s => pairRunsOut 0 c ms (tickTo ms s)) hpower h
  case guardExpiry c ms => exact happen_dark (f := fun s => guardRunsOut 0 c ms (tickTo ms s)) hpower h
  all_goals exact happen_dark hpower h

/-- Settles O6 (R195): requests and events of a part without power, apart from the two of the power itself. -/
theorem nothingHappensWithoutPower : Obligations.NothingHappensWithoutPower := by
  intro i s t hpower hon hloss h
  cases hi : i.request with
  | none => exact exec_event_dark hi hpower hon hloss h
  | some r =>
    rw [exec_unpowered (m := r.1) (k := r.2) hi hpower] at h
    injection h with h
    exact h ▸ setReply_none_staysDark s

/-! ## The power through a sequence of moves -/

theorem applyHold_only (st : Fin 16) (s : State) : OnlyChanges [.valves, .port] s (applyHold st s) :=
  changeHold_only st _ s

theorem takeProfile_only (p : Profile) (s : State) :
    OnlyChanges [.store, .geometryMark] s (takeProfile p s) := by
  simp only [takeProfile]
  split
  · exact (setStore_only s _).mono (by simp)
  · exact ((setStore_only s _).mono (by simp)).then (setGeometryMark_only _ _) (by simp)

theorem restartChannels_only (s : State) : OnlyChanges [.inputUnit] s (restartChannels s) := by
  simp only [restartChannels]
  split
  · exact (setInputUnit_only s _).trans (setInputUnit_only _ _)
  · exact setInputUnit_only s _

theorem setTrap_powered (s : State) (t : TrapId) (r : TrapRecord) : (s.setTrap t r).powered = s.powered :=
  setTrap_only s t r .powered (by simp)

theorem restartBase_powered (s : State) : (restartBase s).powered = s.powered := by
  have hchannels (u : State) : (restartChannels u).powered = u.powered := restartChannels_only u .powered (by simp)
  simp only [restartBase, restartPort, restartWatches, setContacts, restartMatching, hchannels, restartIntake,
    restartEstimates, restartTracker, State.setInLine, State.setPort_powered, State.setTraps_powered,
    State.setWatchUnit_powered, State.setValves_powered, State.setFixUnit_powered, State.setIntake_powered,
    State.setRegister_powered, State.setTracker_powered, State.setClock_powered]

/-- No move but a power loss takes the power away. -/
theorem Move.keeps_power {i : Instr} {s t : State} (hmove : Move i s t) (hloss : i ≠ .powerLoss)
    (hs : s.powered = true) : t.powered = true := by
  cases hmove with
  | takeProfile p => exact (takeProfile_only p s .powered (by simp)).trans hs
  | takeMaster k c =>
    rw [setClass, State.setContext, State.setPort_powered]
    exact (takeProfile_only _ s .powered (by simp)).trans hs
  | takeLine d =>
    simp only [clearLine, setContacts, State.setValves_powered, State.setWatchUnit_powered, State.setFixUnit_powered,
      State.setIntake_powered, State.setTracker_powered, State.setSignallers_powered]
    exact (takeProfile_only _ s .powered (by simp)).trans hs
  | takeWatch st c w =>
    exact (applyHold_only st _ .powered (by simp)).trans ((takeProfile_only _ s .powered (by simp)).trans hs)
  | hold st h => exact (changeHold_only st h s .powered (by simp)).trans hs
  | watch st w => exact (applyHold_only st _ .powered (by simp)).trans hs
  | trap t r => exact (setTrap_powered s t r).trans hs
  | restart => exact (restartBase_powered s).trans hs
  | powerOn a b c =>
    simp only [startUp, loadRetention]
    split <;> rfl
  | powerLoss hi => exact absurd hi hloss
  | _ => exact hs

/-- A law that speaks neither of the queue, the reply nor the inputs is kept by every step where the moves of a part with
power, a power-on and a power loss keep it. -/
theorem step_keeps_powered {P : State → Prop}
    (hmove : ∀ i s t, Move i s t → i ≠ .powerLoss → s.powered = true → P s → P t)
    (hon : ∀ a b c s, P s → P (startUp a b c s)) (hloss : ∀ s, P s → P (losePower s))
    (hframe : ∀ s t, OnlyChanges [.inputUnit, .reply, .pending] s t → P s → P t) {s t : State}
    (h : step s = .next t) (hs : P s) : P t := by
  have hreply (u : State) (hu : P u) : P (u.setReply none) := hframe u _ ((setReply_only u none).mono (by simp)) hu
  unfold step at h
  split at h
  · injection h with h
    exact h ▸ hs
  next i rest _ =>
    have hu : P (s.setPending rest) := hframe s _ ((setPending_only s rest).mono (by simp)) hs
    generalize s.setPending rest = u at h hu
    by_cases hi : i = .powerLoss
    · subst hi
      injection h with h
      exact h ▸ hreply _ (hloss u hu)
    cases hpower : u.powered with
    | true =>
      have hkeep := (exec_moves h).keep (P := fun v => v.powered = true ∧ P v)
        (fun v w hvw hv => ⟨hvw.keeps_power hi hv.1, hmove i v w hvw hi hv.1 hv.2⟩) ⟨hpower, hu⟩
      exact hkeep.2
    | false =>
      by_cases hp : ∃ a b c, i = .powerOn a b c
      · obtain ⟨a, b, c, rfl⟩ := hp
        injection h with h
        exact h ▸ hreply _ (hon a b c u hu)
      · have hdark := nothingHappensWithoutPower i u t hpower (fun a b c hi => hp ⟨a, b, c, hi⟩) hi h
        exact hframe u t (hdark.1.mono (by simp)) hu

end Sys2Proof.Machine


/-! PROOF. What every step keeps of the outputs, the watches, the lists, the traps and the profile store: each law is kept by
every move. -/

namespace Sys2Proof.Machine

/-! ## What the larger moves leave alone -/

@[simp] theorem takeProfile_profile (p : Profile) (s : State) : (takeProfile p s).profile = p := by
  have hwrite (x : ProfileStore) : x.startWrite.running = x.running := by
    unfold ProfileStore.startWrite ProfileStore.setImage
    split <;> rfl
  simp only [takeProfile]
  split <;> exact hwrite _

theorem takeProfile_line (p : Profile) (s : State) : (takeProfile p s).profile.line = p.line := by
  rw [takeProfile_profile]

@[simp] theorem takeProfile_port (p : Profile) (s : State) : (takeProfile p s).port = s.port :=
  takeProfile_only p s .port (by simp)

@[simp] theorem takeProfile_valves (p : Profile) (s : State) : (takeProfile p s).valves = s.valves :=
  takeProfile_only p s .valves (by simp)

@[simp] theorem takeProfile_watchUnit (p : Profile) (s : State) : (takeProfile p s).watchUnit = s.watchUnit :=
  takeProfile_only p s .watchUnit (by simp)

@[simp] theorem takeProfile_powered (p : Profile) (s : State) : (takeProfile p s).powered = s.powered :=
  takeProfile_only p s .powered (by simp)

@[simp] theorem takeProfile_register (p : Profile) (s : State) : (takeProfile p s).register = s.register :=
  takeProfile_only p s .register (by simp)

@[simp] theorem takeProfile_intake (p : Profile) (s : State) : (takeProfile p s).intake = s.intake :=
  takeProfile_only p s .intake (by simp)

@[simp] theorem takeProfile_fixUnit (p : Profile) (s : State) : (takeProfile p s).fixUnit = s.fixUnit :=
  takeProfile_only p s .fixUnit (by simp)

@[simp] theorem takeProfile_traps (p : Profile) (s : State) : (takeProfile p s).traps = s.traps :=
  takeProfile_only p s .traps (by simp)

@[simp] theorem takeProfile_clock (p : Profile) (s : State) : (takeProfile p s).clock = s.clock :=
  takeProfile_only p s .clock (by simp)

@[simp] theorem takeProfile_now (p : Profile) (s : State) : (takeProfile p s).now = s.now :=
  congrArg LineClock.lineTime (takeProfile_clock p s)

@[simp] theorem takeProfile_context (p : Profile) (s : State) (m : Master) :
    (takeProfile p s).context m = s.context m := by
  simp [State.context]

theorem takeProfile_watchCfg (p : Profile) (s : State) (st : Fin 16) : (takeProfile p s).watchCfg st = p.watches[st] := by
  rw [State.watchCfg, takeProfile_profile]

theorem changeHold_context_line (st : Fin 16) (h : HoldSet) (s : State) :
    (changeHold st h s).port = s.port ∨ (changeHold st h s).port = (post .holdChange (some (.station st)) s).port := by
  rw [changeHold_port]
  split
  · exact .inl rfl
  · exact .inr rfl

/-! ## The attention lines (R182) -/

/-- A line that follows its two sets. -/
def Context.Lined (c : Context) : Prop := c.line = lineFor c.attention c.enables

theorem attentionLineLaw_iff {s : State} (hpower : s.powered = true) :
    AttentionLineLaw s ↔ ∀ m : Master, (s.context m).Lined := by
  simp [AttentionLineLaw, hpower, Context.Lined, lineFor]

theorem post_lined (k : AttnKind) (x : Option Subject) (s : State) (m : Master) : ((post k x s).context m).Lined := by
  rw [post_context]
  rfl

/-- Every line follows its sets. -/
def Lined (p : Port) : Prop := ∀ m : Master, Context.Lined p.contexts[m]

theorem lined_post (k : AttnKind) (x : Option Subject) (s : State) : Lined (post k x s).port := post_lined k x s

theorem lined_changeHold (st : Fin 16) (h : HoldSet) {s : State} (hs : Lined s.port) : Lined (changeHold st h s).port := by
  rcases changeHold_context_line st h s with heq | heq
  · exact heq ▸ hs
  · exact heq ▸ lined_post _ _ s

theorem lined_setContext {s : State} (hs : Lined s.port) {m : Master} {c : Context} (hc : c.Lined) :
    Lined (s.setContext m c).port := by
  intro k
  have hk := setContext_context s m k c
  simp only [State.context] at hk
  rw [hk]
  split
  · exact hc
  · exact hs k

theorem lined_mapIdx {s : State} (hs : Lined s.port) {f : Context → Context} (hf : ∀ c : Context, c.Lined → (f c).Lined) :
    Lined { s.port with contexts := s.port.contexts.mapIdx (fun _ c => f c) } := by
  intro k
  have hk := context_mapIdx s f k
  simp only [State.context, State.setPort_port] at hk
  exact hk ▸ hf _ (hs k)

theorem lined_restartPort (s : State) : Lined (restartPort s).port := by
  intro k
  simp [restartPort, Context.Lined, Context.restarted, lineFor]

theorem restartBase_port (s : State) : ∃ u, restartBase s = restartPort u := ⟨_, rfl⟩

theorem startUp_port (a b c : Bool) (s : State) : ∃ u, startUp a b c s = restartPort u := ⟨_, rfl⟩

theorem startUp_powered (a b c : Bool) (s : State) : (startUp a b c s).powered = true := by
  simp only [startUp, loadRetention]
  split <;> rfl

theorem dropTag_lined {c : Context} (tag : Nat) (hc : c.Lined) : (c.dropTag tag).Lined := by
  unfold Context.dropTag
  split
  · exact hc
  · exact hc

theorem Move.keeps_lined {i : Instr} {s t : State} (hmove : Move i s t) (hloss : i ≠ .powerLoss) (hs : Lined s.port) :
    Lined t.port := by
  cases hmove with
  | portRecord x hcontexts => exact fun m => hcontexts ▸ hs m
  | post k x => exact lined_post k x s
  | refusal m r => exact lined_setContext hs (hs m)
  | cursor m tag mode => exact lined_setContext hs (hs m)
  | dropTag tag => exact lined_mapIdx hs fun c => dropTag_lined tag
  | attend m kinds => exact lined_setContext hs rfl
  | enable m kinds => exact lined_setContext hs rfl
  | takeProfile p => exact (takeProfile_port p s).symm ▸ hs
  | takeMaster k c =>
    have hu : Lined (Machine.takeProfile { s.profile with masters := s.profile.masters.set k c } s).port :=
      (takeProfile_port _ s).symm ▸ hs
    exact lined_setContext hu (hu k)
  | takeLine d => simpa [clearLine, setContacts] using hs
  | takeWatch st c w =>
    refine lined_changeHold _ _ ?_
    rw [State.setWatch, State.setWatchUnit_port, takeProfile_port]
    exact hs
  | hold st h => exact lined_changeHold st h hs
  | watch st w => exact lined_changeHold _ _ (s := s.setWatch st w) hs
  | trap t r => cases t <;> exact hs
  | restart =>
    obtain ⟨u, hu⟩ := restartBase_port s
    exact hu ▸ lined_restartPort u
  | powerOn a b c => exact lined_restartPort _
  | powerLoss hi => exact absurd hi hloss
  | _ => exact hs

theorem attentionLineLaw_powered {s : State} (hpower : s.powered = true) : AttentionLineLaw s ↔ Lined s.port :=
  attentionLineLaw_iff hpower

theorem losePower_attentionLineLaw (s : State) : AttentionLineLaw (losePower s) := by
  intro m
  simp [losePower, State.context]

theorem attentionLineLaw_congr {s t : State} (h : OnlyChanges [.inputUnit, .reply, .pending] s t)
    (hs : AttentionLineLaw s) : AttentionLineLaw t := by
  intro m
  rw [State.context, h .port (by simp), h .powered (by simp)]
  exact hs m

theorem step_keeps_attentionLineLaw {s t : State} (h : step s = .next t) (hs : AttentionLineLaw s) :
    AttentionLineLaw t :=
  step_keeps_powered
    (fun _ _ _ hmove hloss hpower hu => (attentionLineLaw_powered (hmove.keeps_power hloss hpower)).mpr
      (hmove.keeps_lined hloss ((attentionLineLaw_powered hpower).mp hu)))
    (fun a b c u _ => (attentionLineLaw_powered (startUp_powered a b c u)).mpr (lined_restartPort _))
    (fun u _ => losePower_attentionLineLaw u) (fun _ _ => attentionLineLaw_congr) h hs

/-! ## The hold contacts (R133) -/

theorem holdContactLaw_iff (s : State) :
    HoldContactLaw s ↔ ∀ st : Fin 16, s.valves[st].contact = contactFor s st s.valves[st].hold := .rfl

/-- What a contact is set to depends on the power, line time and the line. -/
theorem contactFor_eq {s t : State} (hpower : t.powered = s.powered) (hnow : t.now.isSome = s.now.isSome)
    (hline : t.profile.line = s.profile.line) (st : Fin 16) (h : HoldSet) : contactFor t st h = contactFor s st h := by
  have hcount : t.profile.count = s.profile.count := by unfold Profile.count; rw [hline]
  simp only [contactFor, hpower, hnow, hcount]

theorem holdContactLaw_of {s t : State} (hs : HoldContactLaw s) (hpower : t.powered = s.powered)
    (hnow : t.now.isSome = s.now.isSome) (hline : t.profile.line = s.profile.line)
    (hvalves : ∀ st : Fin 16, t.valves[st].hold = s.valves[st].hold ∧ t.valves[st].contact = s.valves[st].contact) :
    HoldContactLaw t := by
  rw [holdContactLaw_iff] at *
  intro st
  rw [contactFor_eq hpower hnow hline, (hvalves st).1, (hvalves st).2]
  exact hs st

theorem holdContactLaw_changeHold (st : Fin 16) (h : HoldSet) {s : State} (hs : HoldContactLaw s) :
    HoldContactLaw (changeHold st h s) := by
  rw [holdContactLaw_iff] at *
  intro k
  rw [contactFor_congr (changeHold_only st h s), changeHold_valves]
  split
  next hk =>
    subst hk
    dsimp only
    split
    next hsame => rw [hsame]; exact hs k
    · rfl
  · exact hs k

theorem setContacts_valves (s : State) (st : Fin 16) :
    (setContacts s).valves[st] = { s.valves[st] with contact := contactFor s st s.valves[st].hold } := by
  simp [setContacts]

theorem holdContactLaw_setContacts (s : State) : HoldContactLaw (setContacts s) := by
  rw [holdContactLaw_iff]
  intro st
  rw [setContacts_valves]
  rfl

theorem setContacts_only (s : State) : OnlyChanges [.valves] s (setContacts s) := setValves_only s _

theorem holdContactLaw_restartBase (s : State) : HoldContactLaw (restartBase s) := by
  obtain ⟨u, x, h⟩ : ∃ u x, restartBase s = restartPort ((restartWatches (setContacts u)).setTraps x) := ⟨_, _, rfl⟩
  rw [h]
  exact holdContactLaw_setContacts u

theorem startUp_now (a b c : Bool) (s : State) : (startUp a b c s).now = none := by
  simp only [startUp, loadRetention]
  split <;> rfl

theorem startUp_contact (a b c : Bool) (s : State) (st : Fin 16) : (startUp a b c s).valves[st].contact = false := by
  simp [startUp, restartPort, restartWatches, Valve.afterPower]

theorem Move.keeps_holdContactLaw {i : Instr} {s t : State} (hmove : Move i s t) (hloss : i ≠ .powerLoss)
    (hs : HoldContactLaw s) : HoldContactLaw t := by
  cases hmove with
  | takeProfile p hmasters hline =>
    exact holdContactLaw_of hs (by simp) (by simp) (by simpa using hline) fun st => by simp
  | takeMaster k c =>
    exact holdContactLaw_of hs (takeProfile_powered _ s) (by rw [setClass]; exact congrArg _ (takeProfile_now _ s))
      (takeProfile_line { s.profile with masters := s.profile.masters.set k c } s)
      (by rw [setClass, State.setContext, State.setPort_valves, takeProfile_valves]; exact fun st => ⟨rfl, rfl⟩)
  | takeLine d => exact holdContactLaw_setContacts _
  | takeWatch st c w =>
    refine holdContactLaw_changeHold _ _ (holdContactLaw_of hs (takeProfile_powered _ s) ?_ ?_ ?_)
    · exact congrArg _ (takeProfile_now _ s)
    · exact takeProfile_line { s.profile with watches := s.profile.watches.set st c } s
    · rw [State.setWatch, State.setWatchUnit_valves, takeProfile_valves]
      exact fun st => ⟨rfl, rfl⟩
  | time u hset => exact holdContactLaw_of hs rfl hset.symm rfl fun st => ⟨rfl, rfl⟩
  | firstTime v => exact holdContactLaw_setContacts _
  | finishWrite =>
    refine holdContactLaw_of hs rfl rfl ?_ fun st => ⟨rfl, rfl⟩
    simp only [ProfileStore.finishWrite, State.profile, State.setStore_store]
    split
    · rfl
    next slot _ => cases slot <;> rfl
  | hold st h => exact holdContactLaw_changeHold st h hs
  | valve st v hhold hcontact =>
    refine holdContactLaw_of hs rfl rfl rfl fun k => ?_
    rw [setValve_valves]
    split
    next hk => exact hk ▸ ⟨hhold, hcontact⟩
    · exact ⟨rfl, rfl⟩
  | watch st w => exact holdContactLaw_changeHold _ _ (s := s.setWatch st w) hs
  | trap t r => cases t <;> exact hs
  | restart => exact holdContactLaw_restartBase s
  | powerOn a b c =>
    intro st
    rw [startUp_contact, startUp_now]
    simp
  | powerLoss hi => exact absurd hi hloss
  | _ => exact hs

theorem losePower_holdContactLaw (s : State) : HoldContactLaw (losePower s) := by
  intro st
  simp [losePower]

theorem step_keeps_holdContactLaw {s t : State} (h : step s = .next t) (hs : HoldContactLaw s) : HoldContactLaw t :=
  step_keeps_powered (fun _ _ _ hmove hloss _ hu => hmove.keeps_holdContactLaw hloss hu)
    (fun a b c u hu => (Move.powerOn a b c rfl).keeps_holdContactLaw (by simp) hu)
    (fun u _ => losePower_holdContactLaw u)
    (fun u v huv hu => holdContactLaw_of hu (huv .powered (by simp))
      (congrArg (fun x : LineClock => x.lineTime.isSome) (huv .clock (by simp)))
      (congrArg (fun x : ProfileStore => x.running.line) (huv .store (by simp)))
      fun st => by rw [huv .valves (by simp)]; exact ⟨rfl, rfl⟩) h hs

/-- Settles O52 (R182, R133): the lines move only with the sets they follow, the contacts only with the hold sets, the
line, line time and the power. -/
theorem stepsKeepTheOutputs : Obligations.StepsKeepTheOutputs :=
  fun _ _ h => ⟨step_keeps_attentionLineLaw h, step_keeps_holdContactLaw h⟩

end Sys2Proof.Machine


/-! PROOF. WATCH as a member of the hold sets, the passage lists, and the traps, through every step. -/

namespace Sys2Proof.Machine

/-! ## WATCH as a member (R147) -/

theorem watchHolds_eq (c : WatchCfg) (x : WatchState) :
    watchHolds c x = (c.actions.hold && decide (x ∈ [WatchState.made, .breaking, .latched, .inhibited])) := by
  cases x <;> rfl

theorem watchMemberLaw_iff (s : State) :
    WatchMemberLaw s ↔ ∀ st : Fin 16,
      s.valves[st].hold.getLsbD 6 = watchHolds (s.watchCfg st) s.watchUnit.watches[st].state := by
  simp only [WatchMemberLaw, watchHolds_eq]

theorem watchMemberLaw_of {s t : State} (hs : WatchMemberLaw s) (hcfg : t.profile.watches = s.profile.watches)
    (hvalves : ∀ st : Fin 16, t.valves[st].hold = s.valves[st].hold)
    (hwatches : t.watchUnit.watches = s.watchUnit.watches) : WatchMemberLaw t := by
  rw [watchMemberLaw_iff] at *
  intro st
  rw [hvalves, State.watchCfg, hcfg, hwatches]
  exact hs st

/-- A set that WATCH is to be a member of, or not. -/
theorem getLsbD_watch_member (b : Bool) (h : HoldSet) :
    (if b then h ||| watchBit else manualHolds h).getLsbD 6 = b := by
  revert b h
  decide

theorem applyHold_valves (st k : Fin 16) (s : State) :
    (applyHold st s).valves[k].hold =
      if k = st then
        (if watchHolds (s.watchCfg st) s.watchUnit.watches[st].state then s.valves[st].hold ||| watchBit
        else manualHolds s.valves[st].hold)
      else s.valves[k].hold := by
  rw [applyHold, changeHold_valves]
  split <;> rfl

theorem changeHold_watchCfg (st k : Fin 16) (h : HoldSet) (s : State) :
    (changeHold st h s).watchCfg k = s.watchCfg k :=
  congrArg (fun x : ProfileStore => x.running.watches[k]) (changeHold_only st h s .store (by simp))

theorem changeHold_watchUnit (st : Fin 16) (h : HoldSet) (s : State) : (changeHold st h s).watchUnit = s.watchUnit :=
  changeHold_only st h s .watchUnit (by simp)

/-- The HOLD action makes WATCH right at its own station, and leaves the other stations as they are. -/
theorem watchMemberLaw_applyHold (st : Fin 16) {s : State}
    (hs : ∀ k : Fin 16, k ≠ st →
      s.valves[k].hold.getLsbD 6 = watchHolds (s.watchCfg k) s.watchUnit.watches[k].state) :
    WatchMemberLaw (applyHold st s) := by
  rw [watchMemberLaw_iff]
  intro k
  rw [applyHold_valves, applyHold, changeHold_watchCfg, changeHold_watchUnit]
  split
  next hk =>
    subst hk
    exact getLsbD_watch_member _ _
  next hk => exact hs k hk

theorem setWatch_watches (st k : Fin 16) (w : Watch) (s : State) :
    (s.setWatch st w).watchUnit.watches[k] = if k = st then w else s.watchUnit.watches[k] := by
  simp [State.setWatch, Vector.getElem_set, Fin.ext_iff, eq_comm]

theorem setWatch_watches_ne {st k : Fin 16} (hk : k ≠ st) (w : Watch) (s : State) :
    (s.setWatch st w).watchUnit.watches[k] = s.watchUnit.watches[k] := by
  rw [setWatch_watches, if_neg hk]

/-- No watch holds its valve, and no hold set has WATCH. -/
theorem watchMemberLaw_of_none {s : State} (hvalves : ∀ st : Fin 16, s.valves[st].hold.getLsbD 6 = false)
    (hwatches : ∀ st : Fin 16, s.watchUnit.watches[st].state.holds = false) : WatchMemberLaw s := by
  rw [watchMemberLaw_iff]
  intro st
  rw [hvalves, watchHolds, hwatches, Bool.and_false]

theorem watchStart_holds (s : State) (st : Fin 16) : (s.watchStart st).state.holds = false := by
  simp only [State.watchStart]
  split <;> rfl

theorem manualHolds_watch (h : HoldSet) : (manualHolds h).getLsbD 6 = false := by
  revert h
  decide

theorem restartWatches_watches (s : State) (st : Fin 16) : (restartWatches s).watchUnit.watches[st] = s.watchStart st := by
  simp [restartWatches]

theorem watchMemberLaw_restartBase (s : State) : WatchMemberLaw (restartBase s) := by
  obtain ⟨u, x, h⟩ : ∃ (u : State) (x : Traps), restartBase s =
      restartPort ((restartWatches (setContacts (u.setValves (u.valves.mapIdx (fun _ v => v.restarted))))).setTraps x) :=
    ⟨_, _, rfl⟩
  rw [h]
  generalize hv : u.setValves (u.valves.mapIdx (fun _ v => v.restarted)) = v
  refine watchMemberLaw_of_none (fun st => ?_) fun st => ?_
  · have hst : v.valves[st].hold = manualHolds u.valves[st].hold := by simp [← hv, Valve.restarted]
    have hcontacts := congrArg Valve.hold (setContacts_valves v st)
    exact (congrArg (BitVec.getLsbD · 6) (hcontacts.trans hst)).trans (manualHolds_watch _)
  · have hst := restartWatches_watches (setContacts v) st
    exact (congrArg (fun w : Watch => w.state.holds) hst).trans (watchStart_holds _ _)

theorem watchMemberLaw_startUp (a b c : Bool) (s : State) : WatchMemberLaw (startUp a b c s) := by
  obtain ⟨u, valid, h⟩ : ∃ (u : State) (valid : Bool), startUp a b c s =
      restartPort (restartWatches (u.setValves (u.valves.mapIdx (fun _ v => v.afterPower valid)))) := ⟨_, _, rfl⟩
  rw [h]
  generalize hv : u.setValves (u.valves.mapIdx (fun _ v => v.afterPower valid)) = v
  refine watchMemberLaw_of_none (fun st => ?_) fun st => ?_
  · have hst : v.valves[st].hold = if valid then manualHolds u.valves[st].hold else 0#7 := by
      simp [← hv, Valve.afterPower]
    refine (congrArg (BitVec.getLsbD · 6) hst).trans ?_
    split
    · exact manualHolds_watch _
    · rfl
  · have hst := restartWatches_watches v st
    exact (congrArg (fun w : Watch => w.state.holds) hst).trans (watchStart_holds _ _)

theorem clearLine_watchMemberLaw (s : State) : WatchMemberLaw (clearLine s) := by
  refine watchMemberLaw_of_none (fun st => ?_) fun st => ?_
  · simp [clearLine, setContacts, Valve.fresh]
  · simp [clearLine, setContacts, Watch.toOff, Watch.off, WatchState.holds]

theorem finishWrite_running (x : ProfileStore) : x.finishWrite.running = x.running := by
  unfold ProfileStore.finishWrite ProfileStore.setImage
  split
  · rfl
  · split <;> rfl

theorem takeProfile_watches (p : Profile) (s : State) : (takeProfile p s).profile.watches = p.watches := by
  rw [takeProfile_profile]

theorem firstTime_hold (v : Nat) (s : State) (st : Fin 16) : (firstTime v s).valves[st].hold = s.valves[st].hold := by
  rw [firstTime, setContacts_valves]
  rfl

theorem Move.keeps_watchMemberLaw {i : Instr} {s t : State} (hmove : Move i s t) (hs : WatchMemberLaw s) :
    WatchMemberLaw t := by
  have hold := (watchMemberLaw_iff s).mp hs
  cases hmove with
  | takeProfile p _ _ hwatches => exact watchMemberLaw_of hs (by simpa using hwatches) (by simp) (by simp)
  | takeMaster k c =>
    refine watchMemberLaw_of hs (takeProfile_watches { s.profile with masters := s.profile.masters.set k c } s)
      (fun st => ?_) ?_
    · rw [setClass, State.setContext, State.setPort_valves, takeProfile_valves]
    · rw [setClass, State.setContext, State.setPort_watchUnit, takeProfile_watchUnit]
  | takeLine d => exact clearLine_watchMemberLaw _
  | takeWatch st c w =>
    refine watchMemberLaw_applyHold st fun k hk => ?_
    rw [setWatch_watches_ne hk, takeProfile_watchUnit, State.setWatch, State.setWatchUnit_valves, takeProfile_valves,
      hold k]
    refine congrArg (watchHolds · _) ((takeProfile_watchCfg { s.profile with
      watches := s.profile.watches.set st c } s k).trans ?_).symm
    exact Vector.getElem_set_ne st.isLt _ (fun h => hk (Fin.ext h.symm))
  | finishWrite => exact watchMemberLaw_of hs (congrArg Profile.watches (finishWrite_running s.store)) (fun _ => rfl) rfl
  | firstTime v => exact watchMemberLaw_of hs rfl (firstTime_hold v s) rfl
  | hold st h hwatch =>
    rw [watchMemberLaw_iff]
    intro k
    rw [changeHold_watchCfg, changeHold_watchUnit, changeHold_valves]
    split
    next hk => subst hk; exact hwatch.trans (hold k)
    · exact hold k
  | valve st v hhold =>
    refine watchMemberLaw_of hs rfl (fun k => ?_) rfl
    rw [setValve_valves]
    split
    next hk => exact hk ▸ hhold
    · rfl
  | watch st w =>
    refine watchMemberLaw_applyHold st fun k hk => ?_
    rw [setWatch_watches_ne hk]
    exact hold k
  | trap x r => cases x <;> exact hs
  | restart => exact watchMemberLaw_restartBase s
  | powerOn a b c => exact watchMemberLaw_startUp a b c s
  | powerLoss => exact watchMemberLaw_of hs rfl (fun st => by simp [losePower]) rfl
  | _ => exact hs

/-- Settles O53 (R147): each transition of a watch applies HOLD, and no other change of a hold set touches WATCH. -/
theorem stepsKeepTheWatchMembers : Obligations.StepsKeepTheWatchMembers :=
  fun _ _ hs h => step_keeps (fun _ _ _ hmove => hmove.keeps_watchMemberLaw) (fun _ _ hs => hs) h hs

/-! ## The passage lists (R62, R109) -/

/-- What names an entry of the intake list (R62). -/
def IntakeEntry.name (e : IntakeEntry) : Nat × Nat := (e.signaller, e.sequence)

theorem insertEntry_perm (e : IntakeEntry) (l : List IntakeEntry) : (insertEntry e l).Perm (e :: l) := by
  induction l with
  | nil => exact .refl _
  | cons x l ih =>
    unfold insertEntry
    split
    · exact (ih.cons x).trans (.swap e x l)
    · exact .refl _

theorem insertEntry_sorted (e : IntakeEntry) {l : List IntakeEntry} (hl : l.Pairwise (fun a b => a.time ≤ b.time)) :
    (insertEntry e l).Pairwise (fun a b => a.time ≤ b.time) := by
  induction l with
  | nil => simp [insertEntry]
  | cons x l ih =>
    obtain ⟨hx, hrest⟩ := List.pairwise_cons.mp hl
    unfold insertEntry
    split
    next hle =>
      refine List.pairwise_cons.mpr ⟨fun y hy => ?_, ih hrest⟩
      rcases List.mem_cons.mp ((insertEntry_perm e l).mem_iff.mp hy) with rfl | hy
      · exact hle
      · exact hx y hy
    next hlt =>
      refine List.pairwise_cons.mpr ⟨fun y hy => ?_, hl⟩
      rcases List.mem_cons.mp hy with rfl | hy
      · exact Nat.le_of_lt (Nat.lt_of_not_le hlt)
      · exact (Nat.le_of_lt (Nat.lt_of_not_le hlt)).trans (hx y hy)

theorem waitsFor_iff (e : IntakeEntry) (l : List IntakeEntry) : waitsFor e l = true ↔ e.name ∈ l.map IntakeEntry.name := by
  simp [waitsFor, IntakeEntry.name]

theorem insertEntry_names_nodup {e : IntakeEntry} {l : List IntakeEntry} (hwaits : waitsFor e l = false)
    (hl : (l.map IntakeEntry.name).Nodup) : ((insertEntry e l).map IntakeEntry.name).Nodup := by
  rw [((insertEntry_perm e l).map _).nodup_iff, List.map_cons, List.nodup_cons]
  exact ⟨fun h => by simp [(waitsFor_iff e l).mpr h] at hwaits, hl⟩

theorem listsLaw_of_intake {s t : State} (hs : ListsLaw s) (hentries : t.intake.entries.Sublist s.intake.entries)
    (hunmatched : s.fixUnit.unmatched.length ≤ 8 → t.fixUnit.unmatched.length ≤ 8) : ListsLaw t := by
  obtain ⟨hsorted, hnames, hlength, hother⟩ := hs
  exact ⟨hsorted.sublist hentries, hnames.sublist (hentries.map _), hentries.length_le.trans hlength, hunmatched hother⟩

/-- A list that is empty, with an unmatched list that is empty too. -/
theorem listsLaw_of_empty {s : State} (hentries : s.intake.entries = []) (hunmatched : s.fixUnit.unmatched = []) :
    ListsLaw s := by
  simp [ListsLaw, hentries, hunmatched]

theorem changeHold_lists (st : Fin 16) (h : HoldSet) (s : State) :
    (changeHold st h s).intake = s.intake ∧ (changeHold st h s).fixUnit = s.fixUnit :=
  ⟨changeHold_only st h s .intake (by simp), changeHold_only st h s .fixUnit (by simp)⟩

theorem listsLaw_congr {s t : State} (hs : ListsLaw s) (hintake : t.intake = s.intake) (hfix : t.fixUnit = s.fixUnit) :
    ListsLaw t := by
  simpa only [ListsLaw, hintake, hfix] using hs

theorem restartBase_lists (s : State) : (restartBase s).intake.entries = [] ∧ (restartBase s).fixUnit.unmatched = [] := by
  simp only [restartBase, restartPort, restartWatches, setContacts, restartMatching, State.setPort_intake,
    State.setTraps_intake, State.setWatchUnit_intake, State.setValves_intake, State.setFixUnit_intake,
    State.setPort_fixUnit, State.setTraps_fixUnit, State.setWatchUnit_fixUnit, State.setValves_fixUnit,
    State.setFixUnit_fixUnit, and_true]
  rw [restartChannels_only _ .intake (by simp)]
  rfl

theorem Move.keeps_listsLaw {i : Instr} {s t : State} (hmove : Move i s t) (hs : ListsLaw s) : ListsLaw t := by
  cases hmove with
  | takeProfile p => exact listsLaw_congr hs (takeProfile_intake p s) (takeProfile_fixUnit p s)
  | takeMaster k c => exact listsLaw_congr hs (takeProfile_intake _ s) (takeProfile_fixUnit _ s)
  | takeLine d => exact listsLaw_of_empty (by simp [clearLine, setContacts]) (by simp [clearLine, setContacts])
  | takeWatch st c w =>
    obtain ⟨hintake, hfix⟩ := changeHold_lists st _ ((Machine.takeProfile { s.profile with
      watches := s.profile.watches.set st c } s).setWatch st w)
    exact listsLaw_congr hs (hintake.trans (takeProfile_intake _ s)) (hfix.trans (takeProfile_fixUnit _ s))
  | entries l hl => exact listsLaw_of_intake hs hl id
  | enter e hroom hwaits =>
    obtain ⟨hsorted, hnames, _, hother⟩ := hs
    refine ⟨insertEntry_sorted e hsorted, insertEntry_names_nodup hwaits hnames, ?_, hother⟩
    have hlength := (insertEntry_perm e s.intake.entries).length_eq
    exact (hlength.trans (List.length_cons ..)).le.trans hroom
  | fixUnit x hx => exact listsLaw_of_intake hs (.refl _) hx
  | hold st h =>
    obtain ⟨hintake, hfix⟩ := changeHold_lists st h s
    exact listsLaw_congr hs hintake hfix
  | watch st w =>
    obtain ⟨hintake, hfix⟩ := changeHold_lists st _ (s.setWatch st w)
    exact listsLaw_congr hs hintake hfix
  | trap x r => cases x <;> exact hs
  | restart =>
    obtain ⟨hintake, hfix⟩ := restartBase_lists s
    exact listsLaw_of_empty hintake hfix
  | powerOn a b c => exact listsLaw_of_empty rfl rfl
  | _ => exact hs

/-! ## The traps (R152, R155, R166) -/

theorem trapLaw_congr {s t : State} (hs : TrapLaw s) (ht : t.traps = s.traps) : TrapLaw t := by
  simpa only [TrapLaw, State.trap, ht] using hs

theorem trapLaw_of_records {s t : State} (hs : TrapLaw s) (hlaunch : t.traps.launch = s.traps.launch)
    (hreceive : t.traps.receive = s.traps.receive) : TrapLaw t := by
  obtain ⟨hdriving, hstep, hunknown⟩ := hs
  rw [TrapLaw, hreceive]
  refine ⟨hdriving, hstep, fun x => ?_⟩
  cases x with
  | launch => simpa only [State.trap, Traps.record, hlaunch] using hunknown .launch
  | receive => simpa only [State.trap, Traps.record, hreceive] using hunknown .receive

/-- Without steps in progress, and the receive trap not DRIVING. -/
theorem trapLaw_of_idle {s : State} (hdriving : s.traps.receive.state ≠ .driving) (hlaunch : s.traps.launch.step = none)
    (hreceive : s.traps.receive.step = none) : TrapLaw s := by
  refine ⟨hdriving, by simp [hreceive], fun x => ?_⟩
  cases x
  · exact fun _ => hlaunch
  · exact fun _ => hreceive

theorem restarted_not_driving {r : TrapRecord} (hr : r.state ≠ .driving) : r.restarted.state ≠ .driving := by
  unfold TrapRecord.restarted
  dsimp only
  split
  · simp
  · exact hr

theorem trapLaw_restarted {s t : State} (hs : TrapLaw s) (ht : t.traps = s.traps.restarted) : TrapLaw t := by
  have hlaunch : t.traps.launch.step = none := by rw [ht]; rfl
  have hreceive : t.traps.receive.step = none := by rw [ht]; rfl
  refine trapLaw_of_idle ?_ hlaunch hreceive
  rw [ht]
  exact restarted_not_driving hs.1

theorem trapLaw_startUp (a b c : Bool) {s : State} (hs : TrapLaw s) : TrapLaw (startUp a b c s) := by
  rcases startUp_traps a b c s with h | h
  · exact trapLaw_restarted hs h
  · refine trapLaw_of_idle ?_ ?_ ?_ <;> rw [h] <;> simp [TrapRecord.unknown]

theorem Move.keeps_trapLaw {i : Instr} {s t : State} (hmove : Move i s t) (hs : TrapLaw s) : TrapLaw t := by
  cases hmove with
  | launchOverdue d => exact trapLaw_of_records hs rfl rfl
  | takeProfile p => exact trapLaw_congr hs (takeProfile_traps p s)
  | takeMaster k c => exact trapLaw_congr hs (takeProfile_traps _ s)
  | takeLine d => exact trapLaw_congr hs (by simp [clearLine, setContacts])
  | takeWatch st c w =>
    exact trapLaw_congr hs ((changeHold_only st _ _ .traps (by simp)).trans (takeProfile_traps _ s))
  | hold st h => exact trapLaw_congr hs (changeHold_only st h s .traps (by simp))
  | watch st w => exact trapLaw_congr hs (changeHold_only st _ (s.setWatch st w) .traps (by simp))
  | trap x r hlaw => exact hlaw hs
  | restart =>
    exact trapLaw_restarted hs ((judgeAll_only (restartBase s) .traps (by simp)).symm.trans (restartAll_traps s))
  | powerOn a b c => exact trapLaw_startUp a b c hs
  | _ => exact hs

/-- Settles O55 (R62, R109, R152, R155, R166). -/
theorem stepsKeepTheListsAndTraps : Obligations.StepsKeepTheListsAndTraps :=
  fun _ _ h => ⟨step_keeps (fun _ _ _ hmove => hmove.keeps_listsLaw) (fun _ _ hs => hs) h,
    step_keeps (fun _ _ _ hmove => hmove.keeps_trapLaw) (fun _ _ hs => hs) h⟩

end Sys2Proof.Machine


/-! PROOF. The profile store and the geometry through every step, and where the tags of the register come from. -/

namespace Sys2Proof.Machine

/-! ## The profile store -/

/-- A property of the running copy and of both images. -/
def ProfileStore.All (Q : Profile → Prop) (x : ProfileStore) : Prop :=
  Q x.running ∧ Q x.firstImage.contents ∧ Q x.secondImage.contents

theorem takeProfile_store (p : Profile) (s : State) :
    (takeProfile p s).store = ({ s.store with running := p } : ProfileStore).startWrite := by
  simp only [takeProfile]
  split <;> rfl

theorem ProfileStore.All.startWrite {Q : Profile → Prop} {x : ProfileStore} (hx : x.All Q) : x.startWrite.All Q := by
  obtain ⟨hrunning, hfirst, hsecond⟩ := hx
  unfold ProfileStore.startWrite ProfileStore.setImage
  split
  · exact ⟨hrunning, hrunning, hsecond⟩
  · exact ⟨hrunning, hfirst, hrunning⟩

theorem ProfileStore.All.takeProfile {Q : Profile → Prop} {s : State} (hs : s.store.All Q) {p : Profile} (hp : Q p) :
    (takeProfile p s).store.All Q := by
  rw [takeProfile_store]
  exact ProfileStore.All.startWrite (x := { s.store with running := p }) ⟨hp, hs.2⟩

theorem ProfileStore.All.finishWrite {Q : Profile → Prop} {x : ProfileStore} (hx : x.All Q) : x.finishWrite.All Q := by
  obtain ⟨hrunning, hfirst, hsecond⟩ := hx
  unfold ProfileStore.finishWrite ProfileStore.setImage
  split
  · exact ⟨hrunning, hfirst, hsecond⟩
  · split
    · exact ⟨hrunning, hfirst, hsecond⟩
    · exact ⟨hrunning, hfirst, hsecond⟩

theorem clearLine_only (s : State) :
    OnlyChanges [.signallers, .tracker, .intake, .fixUnit, .valves, .watchUnit] s (clearLine s) := by
  unfold clearLine
  refine OnlyChanges.then (k := [.valves]) ?_ (setContacts_only _) (by simp)
  refine OnlyChanges.then (k := [.watchUnit]) ?_ (setWatchUnit_only _ _) (by simp)
  refine OnlyChanges.then (k := [.valves]) ?_ (setValves_only _ _) (by simp)
  refine OnlyChanges.then (k := [.fixUnit]) ?_ (setFixUnit_only _ _) (by simp)
  refine OnlyChanges.then (k := [.intake]) ?_ (setIntake_only _ _) (by simp)
  refine OnlyChanges.then (k := [.tracker]) ?_ (setTracker_only _ _) (by simp)
  exact (setSignallers_only s _).mono (by simp)

theorem clearLine_profile (s : State) : (clearLine s).profile = s.profile :=
  congrArg ProfileStore.running (clearLine_only s .store (by simp))

theorem clearLine_context (s : State) (m : Master) : (clearLine s).context m = s.context m :=
  congrArg (fun x : Port => x.contexts[m]) (clearLine_only s .port (by simp))

theorem setClass_profile (k : Master) (c : MasterClass) (s : State) : (setClass k c s).profile = s.profile :=
  congrArg ProfileStore.running (setContext_only s k _ .store (by simp))

/-- What a power-on takes is one of the images, or the empty profile (R17). -/
theorem ProfileStore.All.load {Q : Profile → Prop} {x : ProfileStore} (hx : x.All Q) (hempty : Q Profile.empty)
    (a b : Bool) : (loadImages (x.firstImage.kept a) (x.secondImage.kept b)).All Q := by
  obtain ⟨-, hfirst, hsecond⟩ := hx
  refine ⟨?_, hfirst, hsecond⟩
  unfold loadImages
  dsimp only
  split
  · exact hfirst
  · exact hsecond
  · exact hempty

theorem startUp_store (a b c : Bool) (s : State) :
    (startUp a b c s).store = loadImages (s.store.firstImage.kept a) (s.store.secondImage.kept b) := by
  simp only [startUp, loadRetention]
  split <;> rfl

theorem restartBase_store (s : State) : (restartBase s).store = s.store := by
  have hchannels (u : State) : (restartChannels u).store = u.store := restartChannels_only u .store (by simp)
  simp only [restartBase, restartPort, restartWatches, setContacts, restartMatching, hchannels, restartIntake,
    restartEstimates, restartTracker, State.setInLine, State.setPort_store, State.setTraps_store,
    State.setWatchUnit_store, State.setValves_store, State.setFixUnit_store, State.setIntake_store,
    State.setRegister_store, State.setTracker_store, State.setClock_store]

/-- The profile that a move leaves: the one before, one that the command took, or one that a power-on loaded. -/
theorem Move.keeps_store {Q : Profile → Prop} (hempty : Q Profile.empty) {i : Instr} {s t : State} (hmove : Move i s t)
    (htake : ∀ p : Profile, p.masters = s.profile.masters → (s.profile.Lawful → p.Lawful) → Q p)
    (hmaster : ∀ (k : Master) (c : MasterClass), (∃ m : Master, (s.profile.masters.set k c)[m] = .service) →
      Q { s.profile with masters := s.profile.masters.set k c })
    (hs : s.store.All Q) : t.store.All Q := by
  cases hmove with
  | takeProfile p hmasters _ _ _ hlawful => exact hs.takeProfile (htake p hmasters hlawful)
  | takeMaster k c hservice => exact hs.takeProfile (hmaster k c hservice)
  | takeLine d _ hcount hend =>
    have hu := hs.takeProfile (htake (s.profile.withLine d) rfl fun hp => withLine_lawful hp hcount hend)
    rwa [clearLine_only _ .store (by simp)]
  | takeWatch st c w =>
    rw [applyHold_only _ _ .store (by simp)]
    exact hs.takeProfile (htake { s.profile with watches := s.profile.watches.set st c } rfl id)
  | finishWrite => exact hs.finishWrite
  | hold st h => exact (changeHold_only st h s .store (by simp)).symm ▸ hs
  | watch st w => exact (applyHold_only st (s.setWatch st w) .store (by simp)).symm ▸ hs
  | trap x r => cases x <;> exact hs
  | restart => exact (restartBase_store s).symm ▸ hs
  | powerOn a b c => exact (startUp_store a b c s).symm ▸ hs.load hempty a b
  | _ => exact hs

/-! ## The profile law (R5 to R8, R10, R11) -/

theorem empty_lawful : Profile.empty.Lawful := by
  have hstation (i : Nat) : Profile.empty.station? i = none := join_getElem?_replicate_none 16 i
  have hreach (i : Nat) : Profile.empty.reach? i = none := join_getElem?_replicate_none 15 i
  have hsignaller (n : Nat) : Profile.empty.signaller? n = none := join_getElem?_replicate_none 32 n
  refine ⟨by simp [Profile.empty], ?_, ?_, ?_, ?_, ?_, by decide, by decide, by decide, by decide⟩ <;>
    simp [hstation, hreach, hsignaller]

theorem Move.keeps_profileLaw {i : Instr} {s t : State} (hmove : Move i s t) (hs : ProfileLaw s) : ProfileLaw t :=
  hmove.keeps_store (Q := Profile.Lawful) empty_lawful (fun _ _ hlawful => hlawful hs.1) (fun _ _ _ => hs.1) hs

/-! ## The SERVICE master (R13, R179) -/

/-- Some master is SERVICE. -/
def Profile.Served (p : Profile) : Prop := ∃ m : Master, p.masters[m] = .service

/-- Every context holds the class of its profile item. -/
def ClassesHeld (s : State) : Prop := ∀ m : Master, (s.context m).cls = s.profile.masters[m]

theorem serviceLaw_iff (s : State) : ServiceLaw s ↔ ClassesHeld s ∧ s.store.All Profile.Served := .rfl

theorem classesHeld_of {s t : State} (hs : ClassesHeld s) (hmasters : t.profile.masters = s.profile.masters)
    (hcontexts : ∀ m : Master, (t.context m).cls = (s.context m).cls) : ClassesHeld t := by
  intro m
  rw [hcontexts, hmasters]
  exact hs m

theorem takeProfile_masters (p : Profile) (s : State) : (takeProfile p s).profile.masters = p.masters := by
  rw [takeProfile_profile]

theorem changeHold_cls (st : Fin 16) (h : HoldSet) (s : State) (m : Master) :
    ((changeHold st h s).context m).cls = (s.context m).cls := by
  rcases changeHold_context_line st h s with heq | heq
  · rw [State.context, heq, State.context]
  · rw [State.context, heq]
    exact congrArg Prod.fst (post_own _ _ s m)

theorem changeHold_profile (st : Fin 16) (h : HoldSet) (s : State) : (changeHold st h s).profile = s.profile :=
  congrArg ProfileStore.running (changeHold_only st h s .store (by simp))

theorem classesHeld_restartPort (s : State) : ClassesHeld (restartPort s) := by
  intro m
  simp [restartPort, State.context, Context.restarted, State.profile]

theorem classesHeld_setContext {s : State} (hs : ClassesHeld s) {m : Master} {c : Context}
    (hc : c.cls = (s.context m).cls) : ClassesHeld (s.setContext m c) := by
  refine classesHeld_of hs rfl fun k => ?_
  rw [setContext_context]
  split
  next hk => subst hk; exact hc
  · rfl

theorem Move.keeps_classesHeld {i : Instr} {s t : State} (hmove : Move i s t) (hs : ClassesHeld s) : ClassesHeld t := by
  cases hmove with
  | portRecord x hcontexts => exact classesHeld_of hs rfl fun m => by rw [State.context, State.setPort_port, hcontexts]; rfl
  | post k x => exact classesHeld_of hs rfl fun m => congrArg Prod.fst (post_own k x s m)
  | refusal m r => exact classesHeld_setContext hs rfl
  | cursor m tag mode => exact classesHeld_setContext hs rfl
  | dropTag tag =>
    refine classesHeld_of hs rfl fun m => ?_
    rw [context_mapIdx]
    unfold Context.dropTag
    split <;> rfl
  | attend m kinds => exact classesHeld_setContext hs rfl
  | enable m kinds => exact classesHeld_setContext hs rfl
  | takeProfile p hmasters =>
    exact classesHeld_of hs ((takeProfile_masters p s).trans hmasters) fun m => by rw [takeProfile_context]
  | takeMaster k c =>
    intro m
    rw [setClass_profile, takeProfile_masters, setClass, setContext_context, takeProfile_context, takeProfile_context]
    dsimp only
    split
    next hm => subst hm; exact (Vector.getElem_set_self m.isLt).symm
    next hm => exact (hs m).trans (Vector.getElem_set_ne k.isLt m.isLt (fun h => hm (Fin.ext h.symm))).symm
  | takeLine d =>
    refine classesHeld_of hs ?_ fun m => ?_
    · rw [clearLine_profile, takeProfile_masters]
      rfl
    · rw [clearLine_context, takeProfile_context]
  | takeWatch st c w =>
    refine classesHeld_of hs ?_ fun m => ?_
    · rw [applyHold, changeHold_profile]
      exact takeProfile_masters { s.profile with watches := s.profile.watches.set st c } s
    · rw [applyHold, changeHold_cls]
      exact congrArg Context.cls (takeProfile_context _ s m)
  | finishWrite => exact classesHeld_of hs (congrArg Profile.masters (finishWrite_running s.store)) fun m => rfl
  | hold st h => exact classesHeld_of hs (congrArg _ (changeHold_profile st h s)) (changeHold_cls st h s)
  | watch st w =>
    exact classesHeld_of (s := s.setWatch st w) hs (congrArg _ (changeHold_profile st _ _)) (changeHold_cls st _ _)
  | trap x r => cases x <;> exact hs
  | restart =>
    obtain ⟨u, hu⟩ := restartBase_port s
    exact hu ▸ classesHeld_restartPort u
  | powerOn a b c =>
    obtain ⟨u, hu⟩ := startUp_port a b c s
    exact hu ▸ classesHeld_restartPort u
  | powerLoss => exact classesHeld_of hs rfl fun m => by simp [losePower, State.context]
  | _ => exact hs

theorem Move.keeps_serviceLaw {i : Instr} {s t : State} (hmove : Move i s t) (hs : ServiceLaw s) : ServiceLaw t := by
  obtain ⟨hclasses, hstore⟩ := (serviceLaw_iff s).mp hs
  refine (serviceLaw_iff t).mpr ⟨hmove.keeps_classesHeld hclasses, hmove.keeps_store ⟨0, rfl⟩ ?_ ?_ hstore⟩
  · intro p hmasters _
    rw [Profile.Served, hmasters]
    exact hstore.1
  · exact fun _ _ hservice => hservice

/-! ## The geometry mark (R193) -/

theorem takeProfile_geometryMark {s : State} (hs : GeometryMarkLaw s) (p : Profile) :
    (takeProfile p s).geometryMark = geometryOf p := by
  simp only [takeProfile]
  split
  next hsame => exact Eq.trans hs hsame.symm
  · rfl

theorem geometryMarkLaw_of {s t : State} (hs : GeometryMarkLaw s) (hmark : t.geometryMark = s.geometryMark)
    (hgeometry : geometryOf t.profile = geometryOf s.profile) : GeometryMarkLaw t :=
  hmark.trans (Eq.trans hs hgeometry.symm)

theorem takeProfile_geometryMarkLaw {s : State} (hs : GeometryMarkLaw s) (p : Profile) :
    GeometryMarkLaw (takeProfile p s) := by
  rw [GeometryMarkLaw, takeProfile_geometryMark hs, takeProfile_profile]

theorem restartBase_geometryMark (s : State) : (restartBase s).geometryMark = s.geometryMark := by
  have hchannels (u : State) : (restartChannels u).geometryMark = u.geometryMark :=
    restartChannels_only u .geometryMark (by simp)
  simp only [restartBase, restartPort, restartWatches, setContacts, restartMatching, hchannels, restartIntake,
    restartEstimates, restartTracker, State.setInLine, State.setPort_geometryMark, State.setTraps_geometryMark,
    State.setWatchUnit_geometryMark, State.setValves_geometryMark, State.setFixUnit_geometryMark,
    State.setIntake_geometryMark, State.setRegister_geometryMark, State.setTracker_geometryMark,
    State.setClock_geometryMark]

/-- At a power-on retention is kept with a mark that fits the profile loaded, or lost and written afresh. -/
theorem startUp_retention (a b c : Bool) (s : State) :
    (startUp a b c s).register = s.register.afterPower ∧ (startUp a b c s).geometryMark = s.geometryMark ∧
        s.geometryMark = geometryOf (startUp a b c s).profile ∨
      (startUp a b c s).register = ⟨[], [], [], 1⟩ ∧
        (startUp a b c s).geometryMark = geometryOf (startUp a b c s).profile := by
  simp only [startUp, loadRetention]
  split
  next hvalid =>
    simp only [retentionValid, Bool.and_eq_true, beq_iff_eq] at hvalid
    exact .inl ⟨rfl, rfl, hvalid.2⟩
  · exact .inr ⟨rfl, rfl⟩

theorem Move.keeps_geometryMarkLaw {i : Instr} {s t : State} (hmove : Move i s t) (hs : GeometryMarkLaw s) :
    GeometryMarkLaw t := by
  cases hmove with
  | takeProfile p => exact takeProfile_geometryMarkLaw hs p
  | takeMaster k c =>
    exact geometryMarkLaw_of (takeProfile_geometryMarkLaw hs { s.profile with masters := s.profile.masters.set k c })
      (setContext_only _ k _ .geometryMark (by simp)) (congrArg geometryOf (setClass_profile k c _))
  | takeLine d =>
    exact geometryMarkLaw_of (takeProfile_geometryMarkLaw hs (s.profile.withLine d))
      (clearLine_only _ .geometryMark (by simp)) (congrArg geometryOf (clearLine_profile _))
  | takeWatch st c w =>
    exact geometryMarkLaw_of
      (takeProfile_geometryMarkLaw hs { s.profile with watches := s.profile.watches.set st c })
      (applyHold_only _ _ .geometryMark (by simp)) (congrArg geometryOf (changeHold_profile _ _ _))
  | finishWrite => exact geometryMarkLaw_of hs rfl (congrArg geometryOf (finishWrite_running s.store))
  | hold st h =>
    exact geometryMarkLaw_of hs (changeHold_only st h s .geometryMark (by simp))
      (congrArg geometryOf (changeHold_profile st h s))
  | watch st w =>
    exact geometryMarkLaw_of (s := s.setWatch st w) hs (applyHold_only _ _ .geometryMark (by simp))
      (congrArg geometryOf (changeHold_profile _ _ _))
  | trap x r => cases x <;> exact hs
  | restart =>
    exact geometryMarkLaw_of hs (restartBase_geometryMark s) (by rw [State.profile, restartBase_store]; rfl)
  | powerOn a b c =>
    rcases startUp_retention a b c s with ⟨-, hmark, hfits⟩ | ⟨-, hmark⟩
    · exact hmark.trans hfits
    · exact hmark
  | _ => exact hs

/-! ## What a move does to the register -/

/-- The register after one move. -/
inductive RegisterStep (i : Instr) (s : State) : Register → Prop
  | kept : RegisterStep i s s.register
  | ratio (tag r : Nat) (p : Pig) (hp : s.register.find tag = some p) :
      RegisterStep i s (s.register.update tag fun q =>
        { q with ratio := (ratioFrom p.kind r).1, source := (ratioFrom p.kind r).2 })
  | confirm (tag c : Nat) (p : Pig) (hp : s.register.find tag = some p)
      (hstatus : p.status = .stalled ∨ p.status = .unverified) :
      RegisterStep i s (s.register.update tag fun q => q.confirm (confirmedPosition s tag c) s.now)
  | strike (f : Pig → Bool) :
      RegisterStep i s { s.register with inLine := s.register.inLine.map fun p => if f p then p.strike else p }
  | advance (now : Nat) :
      RegisterStep i s { s.register with inLine := (treatPigs s now none s.register.inLine).map (·.1) }
  | fix (now : Nat) (g : Signaller) (x : Passage) (early : Bool) (p : Pig) (h0 : x.signaller ≠ 0)
      (hg : s.profile.signaller? x.signaller = some g)
      (hp : s.register.inLine.find? (unseenAt g.chainage) = some p) :
      RegisterStep i s { s.register with
        inLine := fixList (fixedPig s now g x early) (unseenAt g.chainage) none s.register.inLine }
  | arrive (t : Nat) (p : Pig) (hp : s.register.inLine.find? (fun q => q.tag == p.tag) = some p)
      (hstatus : (s.register.inLine.map (·.tag)).Nodup → p.status = .running) :
      RegisterStep i s { s.register with
        inLine := s.register.inLine.eraseP (fun q => q.tag == p.tag)
        receiveBarrel := s.register.receiveBarrel ++ [arrivedPig t p] }
  | launch (now : Nat) (g : Signaller) (x : Passage) (p : Pig) (hp : s.register.launchBarrel.head? = some p) :
      RegisterStep i s { s.register with
        inLine := s.register.inLine ++ [launchedPig s now g x (s.register.inLine.getLast?.map (·.position)) p]
        launchBarrel := s.register.launchBarrel.tail }
  | remove (tag : Nat) (hi : removes i) : RegisterStep i s (s.register.remove tag)
  | stage (m : Master) (x : StageArgs) (hi : i = .stagePig m (some x)) (hroom : s.register.hasRoom = true)
      (hcomplete : s.profile.complete = true) : RegisterStep i s (s.register.stage x)
  | restamp : RegisterStep i s { s.register with inLine := s.register.inLine.map fun p => { p with estimate := s.now } }
  | afterPower : RegisterStep i s s.register.afterPower
  | lost (a b c : Bool) (hi : i = .powerOn a b c) : RegisterStep i s ⟨[], [], [], 1⟩

theorem restartBase_register (s : State) :
    (restartBase s).register = { s.register with inLine := s.register.inLine.map fun p => { p with estimate := s.now } } := by
  have hchannels (u : State) : (restartChannels u).register = u.register := restartChannels_only u .register (by simp)
  simp only [restartBase, restartPort, restartWatches, setContacts, restartMatching, hchannels, restartIntake,
    State.setPort_register, State.setTraps_register, State.setWatchUnit_register, State.setValves_register,
    State.setFixUnit_register, State.setIntake_register]
  rfl

theorem RegisterStep.of_kept {i : Instr} {s t : State} (h : t.register = s.register) : RegisterStep i s t.register :=
  h ▸ .kept

/-- A move changes the register in one of these ways, or leaves it alone. -/
theorem Move.registerStep {i : Instr} {s t : State} (hmove : Move i s t) : RegisterStep i s t.register := by
  cases hmove with
  | ratio tag r p hp => exact .ratio tag r p hp
  | confirm tag c p hp hstatus => exact .confirm tag c p hp hstatus
  | strike f => exact .strike f
  | advance now => exact .advance now
  | fix now g x early p h0 hg hp => exact .fix now g x early p h0 hg hp
  | arrive t p hp hstatus => exact .arrive t p hp hstatus
  | launch now g x p hp => exact .launch now g x p hp
  | remove tag hi => exact .remove tag hi
  | stage m x hi hroom hcomplete => exact .stage m x hi hroom hcomplete
  | takeProfile p => exact .of_kept (takeProfile_register p s)
  | takeMaster k c => exact .of_kept (takeProfile_register _ s)
  | takeLine d => exact .of_kept (by simp [clearLine, setContacts])
  | takeWatch st c w =>
    exact .of_kept ((applyHold_only _ _ .register (by simp)).trans (takeProfile_register _ s))
  | hold st h => exact .of_kept (changeHold_only st h s .register (by simp))
  | watch st w => exact .of_kept (applyHold_only st (s.setWatch st w) .register (by simp))
  | trap x r => cases x <;> exact .kept
  | restart => exact restartBase_register s ▸ .restamp
  | powerOn a b c hi =>
    rcases startUp_retention a b c s with ⟨h, -⟩ | ⟨h, -⟩
    · exact h ▸ .afterPower
    · exact h ▸ .lost a b c hi
  | _ => exact .kept

/-! ## The tags of the register (R21, R22) -/

/-- The tags of the register, in the order of the view. -/
def Register.tags (r : Register) : List Nat := r.view.map (·.tag)

theorem Register.tags_eq (r : Register) :
    r.tags = r.receiveBarrel.map (·.tag) ++ r.inLine.map (·.tag) ++ r.launchBarrel.map (·.tag) := by
  simp [Register.tags, Register.view]

theorem update_tags (r : Register) (tag : Nat) {f : Pig → Pig} (hf : ∀ p, (f p).tag = p.tag) :
    (r.update tag f).tags = r.tags := by
  have hg : ((fun p : Pig => p.tag) ∘ fun p => if p.tag = tag then f p else p) = (·.tag) := by
    funext p
    simp only [Function.comp_apply]
    split
    · exact hf p
    · rfl
  simp only [Register.tags_eq, Register.update, List.map_map, hg]

theorem inLine_tags {r : Register} {l : List Pig} (hl : l.map (·.tag) = r.inLine.map (·.tag)) :
    ({ r with inLine := l } : Register).tags = r.tags := by
  simp only [Register.tags_eq, hl]

theorem enterOverdue_tag (p : Pig) (now : Nat) (next : Option (Nat × Signaller)) : (p.enterOverdue now next).1.tag = p.tag := by
  unfold Pig.enterOverdue
  split
  · split <;> rfl
  · rfl

theorem enterStalled_tag (s : State) (p : Pig) (now : Nat) : (p.enterStalled s now).1.tag = p.tag := by
  unfold Pig.enterStalled
  split
  · split <;> rfl
  · rfl

theorem treatPig_tag (s : State) (now : Nat) (ahead : Option Nat) (p : Pig) : (treatPig s now ahead p).1.tag = p.tag := by
  simp only [treatPig, enterStalled_tag, enterOverdue_tag]
  split <;> rfl

theorem treatPigs_tags (s : State) (now : Nat) (ahead : Option Nat) (l : List Pig) :
    ((treatPigs s now ahead l).map (·.1)).map (·.tag) = l.map (·.tag) := by
  induction l generalizing ahead with
  | nil => rfl
  | cons p l ih => simp only [treatPigs, List.map_cons, treatPig_tag, ih]

theorem fixList_tags {s : State} {now : Nat} {g : Signaller} {x : Passage} {early : Bool} {c : Pig → Bool} {l : List Pig}
    {p : Pig} (hp : l.find? c = some p) :
    (fixList (fixedPig s now g x early) c none l).map (·.tag) = l.map (·.tag) := by
  obtain ⟨front, behind, hl, -, hfix⟩ := fixList_eq (fixedPig s now g x early) hp none
  rw [hfix, hl]
  simp only [List.map_append, List.map_cons, pushBack_tags]
  rfl

theorem map_tags {f : Pig → Pig} (hf : ∀ p, (f p).tag = p.tag) (l : List Pig) : (l.map f).map (·.tag) = l.map (·.tag) := by
  rw [List.map_map]
  exact List.map_congr_left fun p _ => hf p

theorem afterPower_tag (p : Pig) : p.afterPower.tag = p.tag := by
  unfold Pig.afterPower
  cases p.status <;> rfl

theorem strike_tag (f : Pig → Bool) (p : Pig) : (if f p then p.strike else p).tag = p.tag := by
  split <;> rfl

theorem remove_tags (r : Register) (tag : Nat) : (r.remove tag).tags.Sublist r.tags := by
  simp only [Register.tags_eq, Register.remove]
  exact ((List.filter_sublist.map _).append (List.filter_sublist.map _)).append (List.filter_sublist.map _)

/-- The pig that a test finds first, before what is left when it is taken out. -/
theorem perm_eraseP_of_find? {l : List Pig} {p : Pig} {c : Pig → Bool} (hp : l.find? c = some p) :
    l.Perm (p :: l.eraseP c) := by
  induction l with
  | nil => cases hp
  | cons q l ih =>
    by_cases hq : c q = true
    · rw [List.find?_cons_of_pos hq] at hp
      cases hp
      rw [List.eraseP_cons_of_pos hq]
    · rw [List.find?_cons_of_neg hq] at hp
      rw [List.eraseP_cons_of_neg hq]
      exact ((ih hp).cons q).trans (.swap p q _)

theorem arrive_tags {r : Register} {t : Nat} {p : Pig} (hp : r.inLine.find? (fun q => q.tag == p.tag) = some p) :
    ({ r with
      inLine := r.inLine.eraseP (fun q => q.tag == p.tag)
      receiveBarrel := r.receiveBarrel ++ [arrivedPig t p] } : Register).tags.Perm r.tags := by
  have hperm := (perm_eraseP_of_find? hp).map (fun q : Pig => q.tag)
  simp only [Register.tags_eq, List.map_append, List.map_singleton, List.append_assoc]
  refine List.Perm.append_left _ ?_
  rw [← List.append_assoc]
  exact List.Perm.append_right _ hperm.symm

theorem launch_tags {r : Register} {q p : Pig} (hp : r.launchBarrel.head? = some p) (hq : q.tag = p.tag) :
    ({ r with inLine := r.inLine ++ [q], launchBarrel := r.launchBarrel.tail } : Register).tags = r.tags := by
  obtain ⟨rest, hrest⟩ := List.head?_eq_some_iff.mp hp
  simp [Register.tags_eq, hrest, hq]

/-- Where the tags come from: those before, fewer by a removal, one more by a staging, and none where retention is
lost. -/
theorem RegisterStep.tags {i : Instr} {s : State} {r : Register} (h : RegisterStep i s r) :
    r.tags.Perm s.register.tags ∨ (removes i ∧ r.tags.Sublist s.register.tags) ∨
      (∃ m x, i = .stagePig m (some x) ∧ s.register.hasRoom = true ∧ s.profile.complete = true ∧
        r = s.register.stage x) ∨
      (∃ a b c, i = .powerOn a b c) ∧ r = ⟨[], [], [], 1⟩ := by
  cases h with
  | kept => exact .inl (.refl _)
  | ratio tag x p => exact .inl (.of_eq (update_tags _ tag fun _ => rfl))
  | confirm tag c p => exact .inl (.of_eq (update_tags _ tag fun _ => rfl))
  | strike f => exact .inl (.of_eq (inLine_tags (map_tags (strike_tag f) _)))
  | advance now => exact .inl (.of_eq (inLine_tags (treatPigs_tags s now none _)))
  | fix now g x early p _ _ hp => exact .inl (.of_eq (inLine_tags (fixList_tags hp)))
  | arrive t p hp => exact .inl (arrive_tags hp)
  | launch now g x p hp => exact .inl (.of_eq (launch_tags hp rfl))
  | remove tag hi => exact .inr (.inl ⟨hi, remove_tags _ tag⟩)
  | stage m x hi hroom hcomplete => exact .inr (.inr (.inl ⟨m, x, hi, hroom, hcomplete, rfl⟩))
  | restamp => exact .inl (.of_eq (inLine_tags (map_tags (f := fun p => { p with estimate := s.now }) (fun _ => rfl) _)))
  | afterPower => exact .inl (.of_eq (inLine_tags (map_tags afterPower_tag _)))
  | lost a b c hi => exact .inr (.inr (.inr ⟨⟨a, b, c, hi⟩, rfl⟩))

theorem tags_eq_nil {r : Register} : r.tags = [] ↔ r.view = [] := List.map_eq_nil_iff

/-! ## Completeness (R4, R15) -/

/-- An item is defined where its fields in a geometry are. -/
theorem isSome_join_mapIdx {α β : Type} {n : Nat} (v : Vector (Option α) n) (f : α → β) (i : Nat) :
    (((v.mapIdx (fun _ o => o.map f))[i]?).join).isSome = ((v[i]?).join).isSome := by
  rw [Vector.getElem?_mapIdx]
  cases v[i]? with
  | none => rfl
  | some o => cases o <;> rfl

theorem join_mapIdx {α β : Type} {n : Nat} (v : Vector (Option α) n) (f : α → β) (i : Nat) :
    ((v.mapIdx (fun _ o => o.map f))[i]?).join = ((v[i]?).join).map f := by
  rw [Vector.getElem?_mapIdx]
  cases v[i]? with
  | none => rfl
  | some o => rfl

/-- What a geometry says of its items is all that completeness asks. -/
theorem complete_of_geometry {p q : Profile} (h : geometryOf p = geometryOf q) : p.complete = q.complete := by
  obtain ⟨hline, hstations, hreaches, hsignallers⟩ := Geometry.mk.inj h
  have hstation (i : Nat) : (p.station? i).isSome = (q.station? i).isSome := by
    have := congrArg (fun v : Vector (Option (Nat × Nat)) 16 => ((v[i]?).join).isSome) hstations
    simpa only [isSome_join_mapIdx, Profile.station?, Profile.reach?] using this
  have hreach (i : Nat) : (p.reach? i).isSome = (q.reach? i).isSome := by
    have := congrArg (fun v : Vector (Option Nat) 15 => ((v[i]?).join).isSome) hreaches
    simpa only [isSome_join_mapIdx, Profile.station?, Profile.reach?] using this
  have hsignaller (i : Nat) : (p.signaller? i).map (fun g => (g.source, g.chainage)) =
      (q.signaller? i).map (fun g => (g.source, g.chainage)) := by
    have := congrArg (fun v : Vector (Option (SigSource × Nat)) 32 => (v[i]?).join) hsignallers
    simpa only [join_mapIdx, Profile.signaller?] using this
  have hreceive : p.isReceive = q.isReceive := by
    funext n
    have hn := hsignaller n
    unfold Profile.isReceive
    rw [hline]
    cases hp : p.signaller? n with
    | none =>
      cases hq : q.signaller? n with
      | none => rfl
      | some b => simp [hp, hq] at hn
    | some a =>
      cases hq : q.signaller? n with
      | none => simp [hp, hq] at hn
      | some b =>
        have hchainage : a.chainage = b.chainage := by simp only [hp, hq, Option.map_some, Option.some_inj] at hn; exact congrArg Prod.snd hn
        cases q.line with
        | none => rfl
        | some d => exact congrArg (· == d.lineEnd) hchainage
  have hlaunch : (p.signaller? 0).isSome = (q.signaller? 0).isSome := by
    simpa using congrArg Option.isSome (hsignaller 0)
  have hcount : p.count = q.count := by unfold Profile.count; rw [hline]
  simp only [Profile.complete, Profile.undefinedStations, Profile.undefinedReaches, Profile.receiveIndex, hline,
    hcount, hstation, hreach, hlaunch, hreceive]

theorem setWatch_profile (st : Fin 16) (w : Watch) (s : State) : (s.setWatch st w).profile = s.profile := rfl

/-- A move but a power-on changes the geometry only where the register is empty. -/
theorem Move.geometry {i : Instr} {s t : State} (hmove : Move i s t) :
    (∃ a b c, i = .powerOn a b c ∧ t = startUp a b c s) ∨ geometryOf t.profile = geometryOf s.profile ∨
      s.register.view = [] ∧ t.register = s.register ∧ ¬ removes i := by
  cases hmove with
  | takeProfile p _ _ _ hlock =>
    rw [takeProfile_profile, takeProfile_register]
    exact .inr (hlock.imp_right fun h => ⟨h.1, rfl, h.2⟩)
  | takeMaster k c => rw [setClass_profile, takeProfile_profile]; exact .inr (.inl rfl)
  | takeLine d hlock =>
    rw [clearLine_profile, takeProfile_profile, clearLine_only _ .register (by simp), takeProfile_register]
    exact .inr (hlock.imp_right fun h => ⟨h.1, rfl, h.2⟩)
  | takeWatch st c w =>
    rw [applyHold, changeHold_profile, setWatch_profile, takeProfile_profile]
    exact .inr (.inl rfl)
  | finishWrite => exact .inr (.inl (congrArg geometryOf (finishWrite_running s.store)))
  | hold st h => exact .inr (.inl (congrArg geometryOf (changeHold_profile st h s)))
  | watch st w => exact .inr (.inl (congrArg geometryOf (changeHold_profile st _ _)))
  | trap x r => cases x <;> exact .inr (.inl rfl)
  | restart => exact .inr (.inl (by rw [State.profile, restartBase_store]; rfl))
  | powerOn a b c hi => exact .inl ⟨a, b, c, hi, rfl⟩
  | _ => exact .inr (.inl rfl)

/-- With the mark right, a move changes the geometry only where it leaves the register empty. -/
theorem Move.geometry_marked {i : Instr} {s t : State} (hmove : Move i s t) (hs : GeometryMarkLaw s) :
    geometryOf t.profile = geometryOf s.profile ∨ t.register.view = [] := by
  rcases hmove.geometry with ⟨a, b, c, -, rfl⟩ | h | ⟨hview, hregister, -⟩
  · rcases startUp_retention a b c s with ⟨-, -, hfits⟩ | ⟨hregister, -⟩
    · exact .inl (hfits.symm.trans hs)
    · exact .inr (by rw [hregister]; rfl)
  · exact .inl h
  · exact .inr (hregister ▸ hview)

theorem Move.keeps_completeLaw {i : Instr} {s t : State} (hmove : Move i s t) (hmark : GeometryMarkLaw s)
    (hs : CompleteLaw s) : CompleteLaw t := by
  intro hview
  have hgeometry := (hmove.geometry_marked hmark).resolve_right hview
  rw [complete_of_geometry hgeometry]
  have hold (htags : s.register.tags = [] → t.register.tags = []) : s.profile.complete = true :=
    hs fun h => hview (tags_eq_nil.mp (htags (tags_eq_nil.mpr h)))
  rcases hmove.registerStep.tags with hperm | ⟨-, hsub⟩ | ⟨-, -, -, -, hcomplete, -⟩ | ⟨-, hlost⟩
  · exact hold fun h => List.Perm.eq_nil (h ▸ hperm)
  · exact hold fun h => List.sublist_nil.mp (h ▸ hsub)
  · exact hcomplete
  · exact absurd (by rw [hlost]; rfl) hview

/-- Settles O56 (R4 to R15, R179, R193): the store changes only by profiles that passed their checks, by the end of a write and
by a power-on. -/
theorem stepsKeepTheServiceAndTheMark : Obligations.StepsKeepTheServiceAndTheMark := by
  intro s t h
  refine ⟨step_keeps (fun _ _ _ hmove => hmove.keeps_serviceLaw) (fun _ _ hs => hs) h,
    step_keeps (fun _ _ _ hmove => hmove.keeps_geometryMarkLaw) (fun _ _ hs => hs) h,
    step_keeps (fun _ _ _ hmove => hmove.keeps_profileLaw) (fun _ _ hs => hs) h, fun hmark hs => ?_⟩
  exact (step_keeps (P := fun u => GeometryMarkLaw u ∧ CompleteLaw u)
    (fun _ _ _ hmove hu => ⟨hmove.keeps_geometryMarkLaw hu.1, hmove.keeps_completeLaw hu.1 hu.2⟩)
    (fun _ _ hu => hu) h ⟨hmark, hs⟩).2

/-! ## The geometry lock, and the tags that enter (R4, R21) -/

theorem Move.keeps_locked {i : Instr} {g : Geometry} {s t : State} (hmove : Move i s t)
    (hon : ∀ a b c, i ≠ .powerOn a b c)
    (hs : geometryOf s.profile = g ∧ (s.register.view ≠ [] ∨ removes i)) :
    geometryOf t.profile = g ∧ (t.register.view ≠ [] ∨ removes i) := by
  obtain ⟨hg, hlocked⟩ := hs
  constructor
  · rcases hmove.geometry with ⟨a, b, c, hi, -⟩ | h | ⟨hview, -, hremoves⟩
    · exact absurd hi (hon a b c)
    · exact h.trans hg
    · exact absurd hlocked (by simp [hview, hremoves])
  · rcases hmove.registerStep.tags with hperm | ⟨hi, -⟩ | ⟨-, x, -, -, -, hstage⟩ | ⟨⟨a, b, c, hi⟩, -⟩
    · refine hlocked.imp_left fun hview h => hview (tags_eq_nil.mp ?_)
      exact List.Perm.eq_nil (tags_eq_nil.mpr h ▸ hperm.symm)
    · exact .inr hi
    · exact .inl (by simp [hstage, Register.view, Register.stage])
    · exact absurd hi (hon a b c)

/-- Every tag of the register was there before a command or event that stages no pig. -/
theorem Move.keeps_tags {i : Instr} {tags : List Nat} {s t : State} (hmove : Move i s t)
    (hstage : ¬ ∃ m x, i = .stagePig m (some x)) (hs : s.register.tags ⊆ tags) : t.register.tags ⊆ tags := by
  rcases hmove.registerStep.tags with hperm | ⟨-, hsub⟩ | ⟨m, x, hi, -⟩ | ⟨-, hlost⟩
  · exact List.Subset.trans hperm.subset hs
  · exact List.Subset.trans hsub.subset hs
  · exact absurd ⟨m, x, hi⟩ hstage
  · rw [hlost]
    exact List.nil_subset _

/-- Settles O59 (R4, R21): the lock holds while a record stands, which no command but a removal ends; and only a staging adds
a tag. -/
theorem lockAndStaging : Obligations.LockAndStaging := by
  intro i s t h
  refine ⟨fun hview hon => ?_, fun p hp hnew => ?_⟩
  · exact ((exec_moves h).keep (fun _ _ hmove => hmove.keeps_locked hon) ⟨rfl, .inl hview⟩).1
  · by_contra hstage
    have hsub := (exec_moves h).keep (fun _ _ hmove => hmove.keeps_tags hstage) (List.Subset.refl s.register.tags)
    obtain ⟨q, hq, htag⟩ := List.mem_map.mp (hsub (List.mem_map_of_mem hp))
    exact hnew q hq htag

end Sys2Proof.Machine


/-! PROOF. Permits come only by REQUEST STROKE, and what is a master's own changes only at its own hand. -/

namespace Sys2Proof.Machine

/-! ## Permits (R125 to R128) -/

theorem changeHold_permit (st k : Fin 16) (h : HoldSet) (s : State) :
    (changeHold st h s).valves[k].permit = s.valves[k].permit := by
  rw [changeHold_valves]
  split
  next hk => rw [hk]
  · rfl

theorem restartBase_permit (s : State) (st : Fin 16) : (restartBase s).valves[st].permit = none := by
  obtain ⟨u, x, h⟩ : ∃ (u : State) (x : Traps), restartBase s =
      restartPort ((restartWatches (setContacts (u.setValves (u.valves.mapIdx (fun _ v => v.restarted))))).setTraps x) :=
    ⟨_, _, rfl⟩
  rw [h]
  generalize hv : u.setValves (u.valves.mapIdx (fun _ v => v.restarted)) = v
  have hst : v.valves[st].permit = none := by simp [← hv, Valve.restarted]
  exact (congrArg Valve.permit (setContacts_valves v st)).trans hst

/-- A command or event that is no REQUEST STROKE leaves a station without a permit without one. -/
theorem Move.keeps_no_permit {i : Instr} {st : Fin 16} {s t : State} (hmove : Move i s t)
    (hi : ∀ m x, i ≠ .requestStroke m x) (hs : s.valves[st].permit = none) : t.valves[st].permit = none := by
  cases hmove with
  | takeProfile p => rwa [takeProfile_valves]
  | takeMaster k c => rwa [setClass, State.setContext, State.setPort_valves, takeProfile_valves]
  | takeLine d => simp [clearLine, setContacts, Valve.fresh]
  | takeWatch k c w =>
    rw [applyHold, changeHold_permit, State.setWatch, State.setWatchUnit_valves, takeProfile_valves]
    exact hs
  | firstTime v =>
    rw [Machine.firstTime, setContacts_valves]
    exact hs
  | hold k h => rwa [changeHold_permit]
  | valve k v _ _ hpermit =>
    rw [setValve_valves]
    split
    next hk =>
      subst hk
      cases hv : v.permit with
      | none => rfl
      | some p =>
        rcases hpermit p hv with hold | ⟨m, x, hreq⟩
        · rw [hs] at hold
          cases hold
        · exact absurd hreq (hi m x)
    · exact hs
  | watch k w =>
    rw [applyHold, changeHold_permit]
    exact hs
  | trap x r => cases x <;> exact hs
  | restart => exact restartBase_permit s st
  | powerOn a b c => simp [startUp, restartPort, restartWatches, Valve.afterPower]
  | powerLoss => simpa [losePower] using hs
  | _ => exact hs

theorem respond_valves (m : Master) (code : Nat) (r : State × Answer) : (respond m code r).valves = r.1.valves := by
  rw [respond, sendReply_only _ _ _ .valves (by simp), noteRefusal_only _ _ _ _ .valves (by simp)]

/-- A permit that REQUEST STROKE gives is for its own station, caller and direction, and the hold set was empty. -/
theorem judgeStroke_permit {m : Master} {now : Nat} {d : Direction} {k st : Fin 16} {station : Station} {s : State}
    {p : Permit} (hs : s.valves[st].permit = none) (hp : (judgeStroke m now d k station s).1.valves[st].permit = some p) :
    k = st ∧ p.owner = m ∧ p.direction = d ∧ s.valves[st].hold = 0#7 := by
  unfold judgeStroke at hp
  dsimp only at hp
  split at hp
  · exact absurd (hs.symm.trans hp) (by simp)
  split at hp
  · exact absurd (hs.symm.trans hp) (by simp)
  split at hp
  · exact absurd (hs.symm.trans hp) (by simp)
  next hhold =>
    split at hp
    · exact absurd (hs.symm.trans hp) (by simp)
    · rw [setValve_valves] at hp
      split at hp
      next hst =>
        subst hst
        cases hp
        exact ⟨rfl, rfl, rfl, not_not.mp hhold⟩
      · exact absurd (hs.symm.trans hp) (by simp)

theorem requestStroke_permit {m : Master} {x : StrokeArgs} {now : Nat} {st : Fin 16} {s : State} {p : Permit}
    (hs : s.valves[st].permit = none) (hp : (requestStroke m x now s).1.valves[st].permit = some p) :
    x.station = st.val ∧ p.owner = m ∧ p.direction = x.direction ∧ s.valves[st].hold = 0#7 := by
  unfold requestStroke withStation at hp
  split at hp
  next k hk =>
    dsimp only at hp
    split at hp
    next station _ =>
      obtain ⟨rfl, h⟩ := judgeStroke_permit hs hp
      refine ⟨?_, h⟩
      unfold Profile.stationIndex at hk
      split at hk
      · split at hk
        · cases hk
          rfl
        · cases hk
      · cases hk
    · exact absurd (hs.symm.trans hp) (by simp)
  · exact absurd (hs.symm.trans hp) (by simp)

/-- The rule of REQUEST STROKE behind the checks of its request. -/
theorem checkedStroke_permit {m : Master} {a : Carried StrokeArgs} {st : Fin 16} {s : State} {p : Permit}
    (hs : s.valves[st].permit = none)
    (hp : (whenComplete (whenTime (fun now => withParams a (fun x => requestStroke m x now))) s).1.valves[st].permit =
      some p) :
    ∃ x, a = some x ∧ x.station = st.val ∧ p.owner = m ∧ p.direction = x.direction ∧ s.valves[st].hold = 0#7 := by
  have hrefused : s.valves[st].permit ≠ some p := fun h => absurd (hs.symm.trans h) (by simp)
  unfold whenComplete whenTime at hp
  split at hp
  · split at hp
    · exact absurd hp hrefused
    · cases a with
      | none => exact absurd hp hrefused
      | some x => exact ⟨x, rfl, requestStroke_permit hs hp⟩
  · exact absurd hp hrefused

/-- Settles O58 (R128). -/
theorem permitsComeOnlyByRequest : Obligations.PermitsComeOnlyByRequest := by
  intro i s t st p h hs hp
  by_cases hi : ∃ m a, i = .requestStroke m a
  · obtain ⟨m, a, rfl⟩ := hi
    have hrefused : s.valves[st].permit ≠ some p := fun h => absurd (hs.symm.trans h) (by simp)
    simp only [exec, execRequestStroke, serve] at h
    split at h
    · split at h <;> injection h with h <;> rw [← h, respond_valves] at hp
      · obtain ⟨x, rfl, hstation, howner, hdirection, hhold⟩ := checkedStroke_permit hs hp
        exact ⟨m, x.direction, by rw [← hstation], howner, hdirection, hhold⟩
      · exact absurd hp hrefused
    · injection h with h
      rw [← h] at hp
      exact absurd hp hrefused
  · have hnone := (exec_moves h).keep (fun _ _ hmove => hmove.keeps_no_permit (st := st) fun m x hx => hi ⟨m, x, hx⟩) hs
    rw [hnone] at hp
    cases hp

/-! ## What is a master's own (R30, R180, R184, R185) -/

/-- The changes of one context that a command or event may make, each at its own hand. -/
def OwnHand (i : Instr) (m : Master) (c d : Context) : Prop :=
  (c.attention &&& ~~~ d.attention ≠ 0#16 → ∃ a, i = .acknowledgeAttention m a) ∧
    (d.enables ≠ c.enables → ∃ a, i = .setEnables m a) ∧
    (d.cursorMode ≠ c.cursorMode → ∃ a, i = .cursorSet m a) ∧
    (d.cursorTag ≠ c.cursorTag →
      (∃ a, i = .cursorSet m a) ∨ (∃ a, i = .cursorRead m a) ∨ (d.cursorTag = none ∧ removes i)) ∧
    (d.lastRefusal ≠ c.lastRefusal → ∃ k, i.request = some (m, k) ∨ ∃ code, i = .unknownCommandCode m code)

/-- No kind of the first set is missing in the second. -/
theorem and_not_eq_zero_iff (a b : AttnSet) :
    a &&& ~~~ b = 0#16 ↔ ∀ k, k < 16 → a.getLsbD k = true → b.getLsbD k = true := by
  constructor
  · intro h k hk ha
    have hbit := congrArg (BitVec.getLsbD · k) h
    simpa [hk, ha] using hbit
  · intro h
    refine BitVec.eq_of_getLsbD_eq fun k hk => ?_
    have := h k hk
    cases ha : a.getLsbD k <;> simp_all

theorem OwnHand.refl (i : Instr) (m : Master) (c : Context) : OwnHand i m c c :=
  ⟨fun h => absurd ((and_not_eq_zero_iff _ _).mpr fun _ _ => id) h, fun h => absurd rfl h, fun h => absurd rfl h,
    fun h => absurd rfl h, fun h => absurd rfl h⟩

theorem OwnHand.trans {i : Instr} {m : Master} {c d e : Context} (h : OwnHand i m c d) (h' : OwnHand i m d e) :
    OwnHand i m c e := by
  obtain ⟨hattention, henables, hmode, htag, hrefusal⟩ := h
  obtain ⟨hattention', henables', hmode', htag', hrefusal'⟩ := h'
  refine ⟨fun hne => ?_, fun hne => ?_, fun hne => ?_, fun hne => ?_, fun hne => ?_⟩
  · by_cases hcd : c.attention &&& ~~~ d.attention = 0#16
    · refine hattention' fun hde => hne ?_
      rw [and_not_eq_zero_iff] at *
      exact fun k hk hc => hde k hk (hcd k hk hc)
    · exact hattention hcd
  · by_cases hcd : d.enables = c.enables
    · exact henables' (hcd ▸ hne)
    · exact henables hcd
  · by_cases hcd : d.cursorMode = c.cursorMode
    · exact hmode' (hcd ▸ hne)
    · exact hmode hcd
  · by_cases hde : e.cursorTag = d.cursorTag
    · rw [hde] at hne ⊢
      exact htag hne
    · exact htag' hde
  · by_cases hcd : d.lastRefusal = c.lastRefusal
    · exact hrefusal' (hcd ▸ hne)
    · exact hrefusal hcd

/-- A context that loses no kind and keeps what is its owner's. -/
theorem ownHand_of_own {i : Instr} {m : Master} {c d : Context} (hown : d.own = c.own)
    (hattention : ∀ k, k < 16 → c.attention.getLsbD k = true → d.attention.getLsbD k = true) : OwnHand i m c d := by
  obtain ⟨-, henables, htag, hmode, hrefusal⟩ : d.cls = c.cls ∧ d.enables = c.enables ∧ d.cursorTag = c.cursorTag ∧
      d.cursorMode = c.cursorMode ∧ d.lastRefusal = c.lastRefusal := by simpa [Context.own] using hown
  exact ⟨fun h => absurd ((and_not_eq_zero_iff _ _).mpr hattention) h, fun h => absurd henables h,
    fun h => absurd hmode h, fun h => absurd htag h, fun h => absurd hrefusal h⟩

theorem ownHand_of_eq {i : Instr} {m : Master} {c d : Context} (h : d = c) : OwnHand i m c d := h ▸ .refl i m c

theorem post_ownHand (i : Instr) (k : AttnKind) (x : Option Subject) (s : State) (m : Master) :
    OwnHand i m (s.context m) ((post k x s).context m) := by
  refine ownHand_of_own (post_own k x s m) fun j hj h => ?_
  rw [post_context]
  simp [Context.attend, h]

theorem changeHold_ownHand (i : Instr) (st : Fin 16) (h : HoldSet) (s : State) (m : Master) :
    OwnHand i m (s.context m) ((changeHold st h s).context m) := by
  rcases changeHold_context_line st h s with heq | heq
  · exact ownHand_of_eq (congrArg (fun x : Port => x.contexts[m]) heq)
  · have hpost := post_ownHand i .holdChange (some (.station st)) s m
    rw [State.context, State.context, heq]
    exact hpost

/-- A change of one context that is its owner's is one of its owner's hand; the other contexts stay. -/
theorem setContext_ownHand {i : Instr} {s : State} {k : Master} {c : Context} (hc : OwnHand i k (s.context k) c)
    (m : Master) : OwnHand i m (s.context m) ((s.setContext k c).context m) := by
  rw [setContext_context]
  split
  next hm => exact hm ▸ hc
  · exact .refl i m _

theorem Move.ownHand {i : Instr} {s t : State} (hmove : Move i s t) (hon : ∀ a b c, i ≠ .powerOn a b c)
    (hrestart : ∀ k a, i ≠ .restart k a) (m : Master) : OwnHand i m (s.context m) (t.context m) := by
  have hsame (c : Context) (k : Master) := OwnHand.refl i k c
  cases hmove with
  | portRecord x hcontexts => exact ownHand_of_eq (congrArg (·[m]) hcontexts)
  | post k x => exact post_ownHand i k x s m
  | refusal k r hi =>
    obtain ⟨hattention, henables, hmode, htag, -⟩ := hsame (s.context k) k
    exact setContext_ownHand (c := { s.context k with lastRefusal := r })
      ⟨hattention, henables, hmode, htag, fun _ => hi⟩ m
  | cursor k tag mode hi =>
    obtain ⟨hattention, henables, -, -, hrefusal⟩ := hsame (s.context k) k
    refine setContext_ownHand (c := { s.context k with cursorTag := tag, cursorMode := mode })
      ⟨hattention, henables, fun hmode => ?_, fun _ => ?_, hrefusal⟩ m
    · rcases hi with hi | ⟨-, hkept⟩
      · exact hi
      · exact absurd hkept hmode
    · exact hi.imp_right fun h => .inl h.1
  | dropTag tag hi =>
    rw [context_mapIdx]
    unfold Context.dropTag
    split
    · obtain ⟨hattention, henables, hmode, -, hrefusal⟩ := hsame (s.context m) m
      exact ⟨hattention, henables, hmode, fun _ => .inr (.inr ⟨rfl, hi⟩), hrefusal⟩
    · exact hsame _ m
  | attend k kinds hi =>
    obtain ⟨-, henables, hmode, htag, hrefusal⟩ := hsame (s.context k) k
    exact setContext_ownHand (c := (s.context k).attend kinds) ⟨fun _ => hi, henables, hmode, htag, hrefusal⟩ m
  | enable k kinds hi =>
    obtain ⟨hattention, -, hmode, htag, hrefusal⟩ := hsame (s.context k) k
    exact setContext_ownHand (c := (s.context k).enable kinds) ⟨hattention, fun _ => hi, hmode, htag, hrefusal⟩ m
  | takeProfile p => exact ownHand_of_eq (takeProfile_context p s m)
  | takeMaster k c =>
    rw [setClass, setContext_context]
    split
    next hm =>
      subst hm
      rw [takeProfile_context]
      exact hsame (s.context m) m
    · exact ownHand_of_eq (takeProfile_context _ s m)
  | takeLine d => exact ownHand_of_eq ((clearLine_context _ m).trans (takeProfile_context _ s m))
  | takeWatch st c w =>
    have hcontext := takeProfile_context { s.profile with watches := s.profile.watches.set st c } s m
    rw [← hcontext]
    exact changeHold_ownHand i st _ ((Machine.takeProfile { s.profile with
      watches := s.profile.watches.set st c } s).setWatch st w) m
  | hold st h => exact changeHold_ownHand i st h s m
  | watch st w => exact changeHold_ownHand i st _ (s.setWatch st w) m
  | trap x r => cases x <;> exact hsame _ m
  | restart k a hi => exact absurd hi (hrestart k a)
  | powerOn a b c hi => exact absurd hi (hon a b c)
  | powerLoss =>
    refine ownHand_of_own ?_ fun k hk h => ?_
    · simp [losePower, State.context, Context.own]
    · simpa [losePower, State.context] using h
  | _ => exact hsame _ m

/-- Settles O60 (R30, R180, R184, R185). -/
theorem contextsAreTheirOwners : Obligations.ContextsAreTheirOwners := by
  intro i s t m h hon hrestart
  have hown := (exec_moves h).keep (P := fun u => OwnHand i m (s.context m) (u.context m))
    (fun _ _ hmove hu => hu.trans (hmove.ownHand hon hrestart m)) (.refl i m _)
  obtain ⟨hattention, henables, hmode, htag, hrefusal⟩ := hown
  refine ⟨hattention, henables, hmode, fun hne => ?_, hrefusal⟩
  refine (htag hne).imp_right (Or.imp_right fun ⟨hnone, hi⟩ => ⟨hnone, ?_⟩)
  rcases hi with ⟨k, hi⟩ | ⟨k, hi⟩
  · exact ⟨k, .inl hi⟩
  · exact ⟨k, .inr hi⟩

end Sys2Proof.Machine


/-! PROOF. The register through every step: tags and ratios, the optional fields of each status, and the positions of the
line. -/

namespace Sys2Proof.Machine

/-! ## The first free tag (R22) -/

/-- The tag that a number of places past a counter, cyclic over 1 to 255. -/
def tagFrom (counter k : Nat) : Nat := (counter - 1 + k) % 255 + 1

theorem tagAfter_tagFrom (counter k : Nat) : tagAfter (tagFrom counter k) = tagFrom counter (k + 1) := by
  unfold tagAfter tagFrom
  split <;> omega

theorem tagFrom_zero {counter : Nat} (h : 1 ≤ counter) (h' : counter ≤ 255) : tagFrom counter 0 = counter := by
  unfold tagFrom
  omega

theorem tagFrom_range (counter k : Nat) : 1 ≤ tagFrom counter k ∧ tagFrom counter k ≤ 255 := by
  unfold tagFrom
  omega

theorem find_isSome_iff (r : Register) (t : Nat) : (r.find t).isSome = true ↔ t ∈ r.tags := by
  simp [Register.find, Register.tags]

/-- The search passes taken tags only, and stops at a free one where its fuel lasts. -/
theorem freeTag_search (r : Register) (counter fuel j : Nat) :
    ∃ k ≤ fuel, r.freeTag fuel (tagFrom counter j) = tagFrom counter (j + k) ∧
      (∀ i < k, tagFrom counter (j + i) ∈ r.tags) ∧ (k < fuel → tagFrom counter (j + k) ∉ r.tags) := by
  induction fuel generalizing j with
  | zero => exact ⟨0, Nat.le_refl 0, rfl, by simp, by simp⟩
  | succ fuel ih =>
    unfold Register.freeTag
    split
    next htaken =>
      rw [tagAfter_tagFrom]
      obtain ⟨k, hk, hfree, htaken', hstop⟩ := ih (j + 1)
      refine ⟨k + 1, by omega, by rw [hfree]; congr 1; omega, fun i hi => ?_, fun hlt => ?_⟩
      · cases i with
        | zero => exact (find_isSome_iff r _).mp htaken
        | succ i => exact (show j + 1 + i = j + (i + 1) by omega) ▸ htaken' i (by omega)
      · exact (show j + 1 + k = j + (k + 1) by omega) ▸ hstop (by omega)
    next hfree => exact ⟨0, by omega, rfl, by simp, fun _ h => hfree ((find_isSome_iff r _).mpr h)⟩

/-- The tags from a counter on repeat after 255 only, so fewer records leave one free. -/
theorem exists_free_tagFrom {r : Register} (hsize : r.tags.length < 255) (counter : Nat) :
    ∃ k < 255, tagFrom counter k ∉ r.tags := by
  by_contra hall
  push Not at hall
  have hnodup : ((List.range 255).map (tagFrom counter)).Nodup := by
    refine List.Nodup.map_on (fun a ha b hb hab => ?_) List.nodup_range
    rw [List.mem_range] at ha hb
    unfold tagFrom at hab
    omega
  have hsub : (List.range 255).map (tagFrom counter) ⊆ r.tags := by
    intro t ht
    obtain ⟨k, hk, rfl⟩ := List.mem_map.mp ht
    exact hall k (List.mem_range.mp hk)
  have hle := (hnodup.subperm hsub).length_le
  rw [List.length_map, List.length_range] at hle
  omega

/-- The tag of a new record: the first free one from the counter. -/
theorem newTag_free {r : Register} (hsize : r.tags.length < 255) (hlow : 1 ≤ r.tagCounter) (hhigh : r.tagCounter ≤ 255) :
    ∃ skipped, r.newTag = tagFrom r.tagCounter skipped ∧ r.newTag ∉ r.tags ∧
      ∀ k < skipped, tagFrom r.tagCounter k ∈ r.tags := by
  obtain ⟨k, hk, hfree, htaken, hstop⟩ := freeTag_search r r.tagCounter 256 0
  simp only [Nat.zero_add] at hfree htaken hstop
  rw [tagFrom_zero hlow hhigh] at hfree
  have hlast : k < 256 := by
    obtain ⟨j, hj, hnot⟩ := exists_free_tagFrom hsize r.tagCounter
    by_contra hge
    exact hnot (htaken j (by omega))
  exact ⟨k, hfree, by rw [Register.newTag, hfree]; exact hstop hlast, htaken⟩

/-! ## What each list holds (R19, R20, R24) -/

/-- A record whose status is one of these, with a ratio in range, and with the optional fields of its status where these are
asked for. -/
def Pig.Held (fields : Prop) (statuses : List PigStatus) (p : Pig) : Prop :=
  p.status ∈ statuses ∧ (100 ≤ p.ratio ∧ p.ratio ≤ 1000) ∧ (fields → p.fieldsFit)

/-- The statuses of a pig in the line (R24). -/
def lineStatuses : List PigStatus := [.running, .overdue, .stalled, .unverified]

/-- Each list holds records of its own statuses. -/
def Register.Sorted (fields : Prop) (r : Register) : Prop :=
  (∀ p ∈ r.receiveBarrel, p.Held fields [.arrived]) ∧ (∀ p ∈ r.inLine, p.Held fields lineStatuses) ∧
    ∀ p ∈ r.launchBarrel, p.Held fields [.staged]

theorem clampRatio_range (n : Nat) : 100 ≤ clampRatio n ∧ clampRatio n ≤ 1000 := by
  unfold clampRatio
  omega

theorem ratioFrom_range (k : PigKind) (r : Nat) : 100 ≤ (ratioFrom k r).1 ∧ (ratioFrom k r).1 ≤ 1000 := by
  unfold ratioFrom
  split <;> exact clampRatio_range _

theorem mem_view {r : Register} {p : Pig} :
    p ∈ r.view ↔ p ∈ r.receiveBarrel ∨ p ∈ r.inLine ∨ p ∈ r.launchBarrel := by
  simp [Register.view]

/-- A tag names one record. -/
theorem eq_of_find {r : Register} {tag : Nat} {p q : Pig} (hnodup : r.tags.Nodup) (hp : r.find tag = some p)
    (hq : q ∈ r.view) (htag : q.tag = tag) : q = p := by
  have hmem := List.mem_of_find?_eq_some hp
  have htag' := List.find?_some hp
  exact List.inj_on_of_nodup_map hnodup hq hmem (htag.trans (beq_iff_eq.mp htag').symm)

theorem Pig.Held.ratio {fields : Prop} {l : List PigStatus} {p : Pig} (hp : p.Held fields l) {r : Nat} {x : RatioSource}
    (hr : 100 ≤ r ∧ r ≤ 1000) : Pig.Held fields l { p with ratio := r, source := x } := ⟨hp.1, hr, hp.2.2⟩

theorem Pig.Held.move {fields : Prop} {l : List PigStatus} {p : Pig} (hp : p.Held fields l) (position : Nat) :
    Pig.Held fields l { p with position := position } := hp

theorem Pig.Held.strike {fields : Prop} {l : List PigStatus} {p : Pig} (hp : p.Held fields l) : p.strike.Held fields l :=
  hp

theorem Pig.Held.confirm {fields : Prop} {p : Pig} (hp : p.Held fields lineStatuses) (position : Nat)
    (now : Option Nat) : (p.confirm position now).Held fields lineStatuses := by
  obtain ⟨hstatus, hratio, hfields⟩ := hp
  refine ⟨by simp [Pig.confirm, lineStatuses], hratio, fun hf => ?_⟩
  obtain ⟨hfix, -, hlaunch, harrival, -⟩ := hfields hf
  simp only [lineStatuses, List.mem_cons, List.not_mem_nil, or_false] at hstatus
  rcases hstatus with h | h | h | h <;> simp_all [Pig.fieldsFit, Pig.confirm]

theorem Pig.Held.afterPower {fields : Prop} {p : Pig} (hp : p.Held fields lineStatuses) :
    p.afterPower.Held fields lineStatuses := by
  obtain ⟨hstatus, hratio, hfields⟩ := hp
  simp only [lineStatuses, List.mem_cons, List.not_mem_nil, or_false] at hstatus
  unfold Pig.Held Pig.fieldsFit at *
  rcases hstatus with h | h | h | h <;> simp_all [Pig.afterPower, lineStatuses]

theorem stagedPig_held (fields : Prop) (tag : Nat) (x : StageArgs) : (stagedPig tag x).Held fields [.staged] :=
  ⟨by simp [stagedPig], ratioFrom_range _ _, fun _ => by simp [Pig.fieldsFit, stagedPig]⟩

theorem Pig.Held.arrive {fields : Prop} {p : Pig} (hp : p.Held fields lineStatuses) (hrunning : p.status = .running)
    (t : Nat) : (arrivedPig t p).Held fields [.arrived] := by
  obtain ⟨-, hratio, hfields⟩ := hp
  refine ⟨by simp [arrivedPig], hratio, fun hf => ?_⟩
  obtain ⟨hfix, hoverdue, hlaunch, -, -⟩ := hfields hf
  simp_all [Pig.fieldsFit, arrivedPig]

theorem Pig.Held.launch {fields : Prop} {p : Pig} (hp : p.Held fields [.staged]) (s : State) (now : Nat) (g : Signaller)
    (x : Passage) (ahead : Option Nat) : (launchedPig s now g x ahead p).Held fields lineStatuses := by
  obtain ⟨hstatus, hratio, hfields⟩ := hp
  refine ⟨by simp [launchedPig, lineStatuses], hratio, fun hf => ?_⟩
  obtain ⟨-, hoverdue, -, harrival, -⟩ := hfields hf
  simp_all [Pig.fieldsFit, launchedPig]

theorem ratioAfterFix_range {s : State} {now : Nat} {g : Signaller} {x : Passage} {early : Bool} {p : Pig}
    (hp : 100 ≤ p.ratio ∧ p.ratio ≤ 1000) :
    100 ≤ ratioAfterFix s now g x early p ∧ ratioAfterFix s now g x early p ≤ 1000 := by
  unfold ratioAfterFix
  dsimp only
  split
  · exact clampRatio_range _
  · exact hp

theorem Pig.Held.fix {fields : Prop} {p : Pig} (hp : p.Held fields lineStatuses) (s : State) (now : Nat) (g : Signaller)
    (x : Passage) (early : Bool) (ahead : Option Nat) : (fixedPig s now g x early ahead p).Held fields lineStatuses := by
  obtain ⟨hstatus, hratio, hfields⟩ := hp
  refine ⟨by simp [fixedPig, lineStatuses], ratioAfterFix_range hratio, fun hf => ?_⟩
  obtain ⟨-, -, hlaunch, harrival, -⟩ := hfields hf
  simp only [lineStatuses, List.mem_cons, List.not_mem_nil, or_false] at hstatus
  rcases hstatus with h | h | h | h <;> simp_all [Pig.fieldsFit, fixedPig]

theorem Pig.Held.enterOverdue {fields : Prop} {p : Pig} (hp : p.Held fields lineStatuses) (now : Nat)
    (next : Option (Nat × Signaller)) : (p.enterOverdue now next).1.Held fields lineStatuses := by
  unfold Pig.enterOverdue
  split
  · split
    next hcond =>
      obtain ⟨-, hratio, hfields⟩ := hp
      refine ⟨by simp [lineStatuses], hratio, fun hf => ?_⟩
      obtain ⟨hfix, -, hlaunch, harrival, -⟩ := hfields hf
      rcases hcond.2 with h | ⟨h, -⟩ <;> simp_all [Pig.fieldsFit]
    · exact hp
  · exact hp

theorem Pig.Held.enterStalled {fields : Prop} {p : Pig} (hp : p.Held fields lineStatuses) (s : State) (now : Nat) :
    (p.enterStalled s now).1.Held fields lineStatuses := by
  unfold Pig.enterStalled
  split
  · split
    next hcond =>
      obtain ⟨-, hratio, hfields⟩ := hp
      refine ⟨by simp [lineStatuses], hratio, fun hf => ?_⟩
      obtain ⟨hfix, hoverdue, hlaunch, harrival, -⟩ := hfields hf
      simp_all [Pig.fieldsFit]
    · exact hp
  · exact hp

theorem Pig.Held.treat {fields : Prop} {p : Pig} (hp : p.Held fields lineStatuses) (s : State) (now : Nat)
    (ahead : Option Nat) : (treatPig s now ahead p).1.Held fields lineStatuses := by
  unfold treatPig
  dsimp only
  have hmoved (q : Pig) (hq : q.Held fields lineStatuses) (position fluid : Nat) (estimate : Option Nat) :
      Pig.Held fields lineStatuses { q with position := position, fluid := fluid, estimate := estimate } := hq
  have haged : (if flowAged s p.position then p.age else p).Held fields lineStatuses := by
    split
    · exact hp
    · exact hp
  exact ((hmoved _ haged _ _ _).enterOverdue now _).enterStalled s now

theorem treatPigs_held {fields : Prop} {s : State} {now : Nat} {ahead : Option Nat} {l : List Pig}
    (hl : ∀ p ∈ l, p.Held fields lineStatuses) :
    ∀ p ∈ (treatPigs s now ahead l).map (·.1), p.Held fields lineStatuses := by
  induction l generalizing ahead with
  | nil => simp [treatPigs]
  | cons q l ih =>
    rw [treatPigs, List.map_cons, List.forall_mem_cons]
    exact ⟨(hl q (by simp)).treat s now ahead, ih fun p hp => hl p (by simp [hp])⟩

theorem pushBack_held {fields : Prop} {front : Nat} {l : List Pig} (hl : ∀ p ∈ l, p.Held fields lineStatuses) :
    ∀ p ∈ pushBack front l, p.Held fields lineStatuses := by
  induction l generalizing front with
  | nil => simp [pushBack]
  | cons q l ih =>
    unfold pushBack
    split
    · rw [List.forall_mem_cons]
      exact ⟨(hl q (by simp)).move _, ih fun p hp => hl p (by simp [hp])⟩
    · exact hl

theorem fixList_held {fields : Prop} {s : State} {now : Nat} {g : Signaller} {x : Passage} {early : Bool}
    {c : Pig → Bool} {l : List Pig} {p : Pig} (hp : l.find? c = some p) (hl : ∀ q ∈ l, q.Held fields lineStatuses) :
    ∀ q ∈ fixList (fixedPig s now g x early) c none l, q.Held fields lineStatuses := by
  obtain ⟨front, behind, rfl, -, hfix⟩ := fixList_eq (fixedPig s now g x early) hp none
  rw [hfix]
  intro q hq
  rcases List.mem_append.mp hq with hq | hq
  · exact hl q (by simp [hq])
  · rcases List.mem_cons.mp hq with rfl | hq
    · exact (hl p (by simp)).fix s now g x early _
    · exact pushBack_held (fun b hb => hl b (by simp [hb])) q hq

theorem forall_mem_update {P : Pig → Prop} {l : List Pig} {tag : Nat} {f : Pig → Pig} (hl : ∀ p ∈ l, P p)
    (hf : ∀ p ∈ l, p.tag = tag → P (f p)) : ∀ p ∈ l.map (fun p => if p.tag = tag then f p else p), P p := by
  intro p hp
  obtain ⟨q, hq, rfl⟩ := List.mem_map.mp hp
  split
  next htag => exact hf q hq htag
  · exact hl q hq

/-- A register step keeps each list sorted. -/
theorem RegisterStep.keeps_sorted {fields : Prop} {i : Instr} {s : State} {r : Register} (h : RegisterStep i s r)
    (hnodup : s.register.tags.Nodup) (hs : s.register.Sorted fields) : r.Sorted fields := by
  obtain ⟨hreceive, hline, hlaunch⟩ := hs
  cases h with
  | kept => exact ⟨hreceive, hline, hlaunch⟩
  | ratio tag n p hp =>
    have hratio := ratioFrom_range p.kind n
    exact ⟨forall_mem_update hreceive fun q hq _ => (hreceive q hq).ratio hratio,
      forall_mem_update hline fun q hq _ => (hline q hq).ratio hratio,
      forall_mem_update hlaunch fun q hq _ => (hlaunch q hq).ratio hratio⟩
  | confirm tag c p hp hstatus =>
    have hsame (q : Pig) (hq : q ∈ s.register.view) (htag : q.tag = tag) :
        q.status = .stalled ∨ q.status = .unverified := eq_of_find hnodup hp hq htag ▸ hstatus
    refine ⟨forall_mem_update hreceive fun q hq htag => ?_,
      forall_mem_update hline fun q hq _ => (hline q hq).confirm _ _,
      forall_mem_update hlaunch fun q hq htag => ?_⟩
    · have harrived := List.mem_singleton.mp (hreceive q hq).1
      exact absurd (hsame q (mem_view.mpr (.inl hq)) htag) (by simp [harrived])
    · have hstaged := List.mem_singleton.mp (hlaunch q hq).1
      exact absurd (hsame q (mem_view.mpr (.inr (.inr hq))) htag) (by simp [hstaged])
  | strike f =>
    refine ⟨hreceive, fun p hp => ?_, hlaunch⟩
    obtain ⟨q, hq, rfl⟩ := List.mem_map.mp hp
    split
    · exact (hline q hq).strike
    · exact hline q hq
  | advance now => exact ⟨hreceive, treatPigs_held hline, hlaunch⟩
  | fix now g x early p _ _ hp => exact ⟨hreceive, fixList_held hp hline, hlaunch⟩
  | arrive t p hp hstatus =>
    have hrunning : p.status = .running := by
      refine hstatus ?_
      have hmid : (s.register.inLine.map (·.tag)).Sublist s.register.tags := by
        rw [Register.tags_eq, List.append_assoc]
        exact (List.sublist_append_left _ _).trans (List.sublist_append_right _ _)
      exact hnodup.sublist hmid
    refine ⟨fun q hq => ?_, fun q hq => hline q (List.mem_of_mem_eraseP hq), hlaunch⟩
    rcases List.mem_append.mp hq with hq | hq
    · exact hreceive q hq
    · rw [List.mem_singleton.mp hq]
      exact (hline p (List.mem_of_find?_eq_some hp)).arrive hrunning t
  | launch now g x p hp =>
    refine ⟨hreceive, fun q hq => ?_, fun q hq => hlaunch q (List.mem_of_mem_tail hq)⟩
    rcases List.mem_append.mp hq with hq | hq
    · exact hline q hq
    · rw [List.mem_singleton.mp hq]
      exact (hlaunch p (List.mem_of_mem_head? hp)).launch s now g x _
  | remove tag =>
    exact ⟨fun q hq => hreceive q (List.mem_filter.mp hq).1, fun q hq => hline q (List.mem_filter.mp hq).1,
      fun q hq => hlaunch q (List.mem_filter.mp hq).1⟩
  | stage m x =>
    refine ⟨hreceive, hline, fun q hq => ?_⟩
    rcases List.mem_append.mp hq with hq | hq
    · exact hlaunch q hq
    · rw [List.mem_singleton.mp hq]
      exact stagedPig_held fields _ x
  | restamp =>
    refine ⟨hreceive, fun p hp => ?_, hlaunch⟩
    obtain ⟨q, hq, rfl⟩ := List.mem_map.mp hp
    exact hline q hq
  | afterPower =>
    refine ⟨hreceive, fun p hp => ?_, hlaunch⟩
    obtain ⟨q, hq, rfl⟩ := List.mem_map.mp hp
    exact (hline q hq).afterPower
  | lost => exact ⟨by simp, by simp, by simp⟩

/-! ## The register's law (R20 to R24) -/

/-- The tags of a register: distinct, from 1 to 255, at most 12, at most 2 of them staged, and a counter in range. -/
def Register.Tagged (r : Register) : Prop :=
  r.tags.Nodup ∧ (∀ t ∈ r.tags, 1 ≤ t ∧ t ≤ 255) ∧ r.tags.length ≤ 12 ∧ r.launchBarrel.length ≤ 2 ∧
    1 ≤ r.tagCounter ∧ r.tagCounter ≤ 255

theorem registerLaw_iff (s : State) : RegisterLaw s ↔ s.register.Tagged ∧ s.register.Sorted False := by
  constructor
  · rintro ⟨hnodup, hrange, hsize, hstaged, hlow, hhigh, hreceive, hline, hlaunch⟩
    refine ⟨⟨hnodup, fun t ht => ?_, by simpa [Register.tags] using hsize, hstaged, hlow, hhigh⟩,
      fun p hp => ⟨hreceive p hp, ?_, False.elim⟩, fun p hp => ⟨hline p hp, ?_, False.elim⟩,
      fun p hp => ⟨hlaunch p hp, ?_, False.elim⟩⟩
    · obtain ⟨p, hp, rfl⟩ := List.mem_map.mp ht
      exact ⟨(hrange p hp).1, (hrange p hp).2.1⟩
    · exact (hrange p (mem_view.mpr (.inl hp))).2.2
    · exact (hrange p (mem_view.mpr (.inr (.inl hp)))).2.2
    · exact (hrange p (mem_view.mpr (.inr (.inr hp)))).2.2
  · rintro ⟨⟨hnodup, hrange, hsize, hstaged, hlow, hhigh⟩, hreceive, hline, hlaunch⟩
    refine ⟨hnodup, fun p hp => ?_, by simpa [Register.tags] using hsize, hstaged, hlow, hhigh,
      fun p hp => (hreceive p hp).1, fun p hp => (hline p hp).1, fun p hp => (hlaunch p hp).1⟩
    have htag := hrange p.tag (List.mem_map_of_mem hp)
    refine ⟨htag.1, htag.2, ?_⟩
    rcases mem_view.mp hp with h | h | h
    · exact (hreceive p h).2.1
    · exact (hline p h).2.1
    · exact (hlaunch p h).2.1

theorem sorted_fields_iff {s : State} (hs : s.register.Sorted False) :
    OptionalFieldsLaw s ↔ s.register.Sorted True := by
  obtain ⟨hreceive, hline, hlaunch⟩ := hs
  constructor
  · intro h
    exact ⟨fun p hp => ⟨(hreceive p hp).1, (hreceive p hp).2.1, fun _ => h p (mem_view.mpr (.inl hp))⟩,
      fun p hp => ⟨(hline p hp).1, (hline p hp).2.1, fun _ => h p (mem_view.mpr (.inr (.inl hp)))⟩,
      fun p hp => ⟨(hlaunch p hp).1, (hlaunch p hp).2.1, fun _ => h p (mem_view.mpr (.inr (.inr hp)))⟩⟩
  · rintro ⟨hreceive', hline', hlaunch'⟩ p hp
    rcases mem_view.mp hp with h | h | h
    · exact (hreceive' p h).2.2 trivial
    · exact (hline' p h).2.2 trivial
    · exact (hlaunch' p h).2.2 trivial

theorem tags_length (r : Register) : r.tags.length = r.size := by
  simp [Register.tags_eq, Register.size]
  omega

theorem stage_tags (r : Register) (x : StageArgs) : (r.stage x).tags = r.tags ++ [r.newTag] := by
  simp [Register.tags_eq, Register.stage, stagedPig]

theorem stage_tagged {r : Register} (hr : r.Tagged) (hroom : r.hasRoom = true) (x : StageArgs) : (r.stage x).Tagged := by
  obtain ⟨hnodup, hrange, -, hstaged, hlow, hhigh⟩ := hr
  simp only [Register.hasRoom, Bool.and_eq_true, decide_eq_true_eq, ← tags_length] at hroom
  obtain ⟨skipped, htag, hnew, -⟩ := newTag_free (by omega) hlow hhigh
  have htagRange := tagFrom_range r.tagCounter skipped
  rw [← htag] at htagRange
  refine ⟨?_, fun t ht => ?_, ?_, ?_, ?_⟩
  · rw [stage_tags, List.nodup_append]
    exact ⟨hnodup, List.nodup_singleton _, fun a ha b hb hab => hnew (List.mem_singleton.mp hb ▸ hab ▸ ha)⟩
  · rw [stage_tags] at ht
    rcases List.mem_append.mp ht with ht | ht
    · exact hrange t ht
    · exact List.mem_singleton.mp ht ▸ htagRange
  · rw [stage_tags, List.length_append, List.length_singleton]
    omega
  · simp only [Register.stage, List.length_append, List.length_singleton]
    omega
  · simp only [Register.stage, tagAfter]
    split <;> omega

theorem RegisterStep.counter {i : Instr} {s : State} {r : Register} (h : RegisterStep i s r) :
    r.tagCounter = s.register.tagCounter ∧ r.launchBarrel.length ≤ s.register.launchBarrel.length ∨
      (∃ m x, i = .stagePig m (some x) ∧ s.register.hasRoom = true ∧ r = s.register.stage x) ∨ r = ⟨[], [], [], 1⟩ := by
  cases h with
  | stage m x hi hroom => exact .inr (.inl ⟨m, x, hi, hroom, rfl⟩)
  | lost => exact .inr (.inr rfl)
  | ratio => exact .inl ⟨rfl, (List.length_map ..).le⟩
  | confirm => exact .inl ⟨rfl, (List.length_map ..).le⟩
  | launch => exact .inl ⟨rfl, by simp⟩
  | remove => exact .inl ⟨rfl, List.length_filter_le ..⟩
  | _ => exact .inl ⟨rfl, Nat.le_refl _⟩

theorem RegisterStep.keeps_tagged {i : Instr} {s : State} {r : Register} (h : RegisterStep i s r)
    (hs : s.register.Tagged) : r.Tagged := by
  rcases h.counter with ⟨hcounter, hlaunch⟩ | ⟨-, x, -, hroom, rfl⟩ | rfl
  · obtain ⟨hnodup, hrange, hsize, hstaged, hlow, hhigh⟩ := hs
    have hrest : r.tags.Nodup ∧ r.tags ⊆ s.register.tags ∧ r.tags.length ≤ s.register.tags.length := by
      rcases h.tags with hperm | ⟨-, hsub⟩ | ⟨m, x, -, -, -, rfl⟩ | ⟨-, rfl⟩
      · exact ⟨hperm.nodup_iff.mpr hnodup, hperm.subset, hperm.length_eq.le⟩
      · exact ⟨hnodup.sublist hsub, hsub.subset, hsub.length_le⟩
      · simp only [Register.stage, List.length_append, List.length_singleton] at hlaunch
        omega
      · exact ⟨List.nodup_nil, List.nil_subset _, Nat.zero_le _⟩
    obtain ⟨hnodup', hsub, hlength⟩ := hrest
    exact ⟨hnodup', fun t ht => hrange t (hsub ht), hlength.trans hsize, hlaunch.trans hstaged, hcounter ▸ hlow,
      hcounter ▸ hhigh⟩
  · exact stage_tagged hs hroom x
  · exact ⟨List.nodup_nil, by simp [Register.tags, Register.view], by simp [Register.tags, Register.view], by simp,
      by simp, by simp⟩

theorem Move.keeps_registerLaw {i : Instr} {s t : State} (hmove : Move i s t) (hs : RegisterLaw s) : RegisterLaw t := by
  obtain ⟨htagged, hsorted⟩ := (registerLaw_iff s).mp hs
  exact (registerLaw_iff t).mpr ⟨hmove.registerStep.keeps_tagged htagged,
    hmove.registerStep.keeps_sorted htagged.1 hsorted⟩

theorem Move.keeps_optionalFieldsLaw {i : Instr} {s t : State} (hmove : Move i s t) (hlaw : RegisterLaw s)
    (hs : OptionalFieldsLaw s) : OptionalFieldsLaw t := by
  obtain ⟨htagged, hsorted⟩ := (registerLaw_iff s).mp hlaw
  have hsorted' := hmove.registerStep.keeps_sorted htagged.1 hsorted
  exact (sorted_fields_iff hsorted').mpr
    (hmove.registerStep.keeps_sorted htagged.1 ((sorted_fields_iff hsorted).mp hs))

end Sys2Proof.Machine


/-! PROOF. The positions of the line through every step (R25). -/

namespace Sys2Proof.Machine

/-! ## A list of pigs, one behind the other -/

/-- Position `b` lies 1,000 mm or more behind position `a`; or else, where the distance is not strict, `b` is 0
(notes/assumptions/23.md). -/
def Behind (strict : Prop) (a b : Nat) : Prop := b + 1000 ≤ a ∨ b = 0 ∧ ¬ strict

theorem behind_iff {strict : Prop} {a b : Nat} : Behind strict a b ↔ b ≤ a - 1000 ∧ (strict → 1000 ≤ a) := by
  by_cases hs : strict
  · simp only [Behind, hs, not_true_eq_false, and_false, or_false, true_implies]
    omega
  · simp only [Behind, hs, not_false_eq_true, and_true, false_implies]
    omega

theorem Behind.trans {strict : Prop} {a b c : Nat} (hab : Behind strict a b) (hbc : Behind strict b c) :
    Behind strict a c := by
  rcases hbc with hbc | hbc
  · rcases hab with hab | ⟨rfl, -⟩
    · exact .inl (by omega)
    · omega
  · exact .inr hbc

theorem Behind.mono {strict : Prop} {a a' b : Nat} (h : Behind strict a b) (ha : a ≤ a') : Behind strict a' b :=
  h.imp_left fun h => by omega

theorem Behind.le_max {strict : Prop} {a b b' : Nat} (h : Behind strict a b) (hb : b' ≤ max b (a - 1000)) :
    Behind strict a b' := by
  obtain ⟨hle, hroom⟩ := behind_iff.mp h
  exact behind_iff.mpr ⟨by omega, hroom⟩

/-- Every pig lies behind those ahead of it. -/
def Spaced (strict : Prop) (l : List Pig) : Prop := l.Pairwise fun a b => Behind strict a.position b.position

theorem separated_iff (l : List Pig) : Separated l ↔ Spaced True l := by
  induction l with
  | nil => simp [Separated, Spaced]
  | cons a l ih =>
    cases l with
    | nil => simp [Separated, Spaced]
    | cons b l =>
      have hbehind : b.position + 1000 ≤ a.position ↔ Behind True a.position b.position := by simp [Behind]
      rw [Separated, ih, hbehind]
      constructor
      · rintro ⟨hab, hl⟩
        refine List.pairwise_cons.mpr ⟨fun c hc => ?_, hl⟩
        rcases List.mem_cons.mp hc with rfl | hc
        · exact hab
        · exact hab.trans ((List.pairwise_cons.mp hl).1 c hc)
      · intro h
        obtain ⟨ha, hl⟩ := List.pairwise_cons.mp h
        exact ⟨ha b (by simp), hl⟩

theorem inLineLaw_iff (s : State) :
    InLineLaw s ↔ Spaced False s.register.inLine ∧ ∀ p ∈ s.register.inLine, p.position ≤ s.profile.lineEnd * 1000 := by
  simp [InLineLaw, Spaced, behind_iff]

/-- What lies behind the last pig of a front lies behind all of them. -/
theorem behind_front {strict : Prop} {front : List Pig} {x : Nat} (hfront : Spaced strict front)
    (hx : ∀ a ∈ positionAhead none front, Behind strict a x) : ∀ p ∈ front, Behind strict p.position x := by
  induction front with
  | nil => simp
  | cons p front ih =>
    obtain ⟨hp, hrest⟩ := List.pairwise_cons.mp hfront
    cases front with
    | nil =>
      rw [List.forall_mem_singleton]
      exact hx p.position (by simp [positionAhead])
    | cons q front =>
      have hq := ih hrest fun a ha => hx a (by simpa [positionAhead] using ha)
      rw [List.forall_mem_cons]
      exact ⟨(hp q (by simp)).trans (hq q (by simp)), hq⟩

/-- A pig between a front and a tail. -/
theorem spaced_join {strict : Prop} {front behind : List Pig} {p : Pig} (hfront : Spaced strict front)
    (hp : ∀ a ∈ positionAhead none front, Behind strict a p.position) (hbehind : Spaced strict behind)
    (htail : ∀ q ∈ behind, Behind strict p.position q.position) : Spaced strict (front ++ p :: behind) := by
  have hahead := behind_front hfront hp
  refine List.pairwise_append.mpr ⟨hfront, List.pairwise_cons.mpr ⟨htail, hbehind⟩, fun a ha b hb => ?_⟩
  rcases List.mem_cons.mp hb with rfl | hb
  · exact hahead a ha
  · exact (hahead a ha).trans (htail b hb)

/-- What is behind the first pig of a tail is behind all of them. -/
theorem behind_tail {strict : Prop} {behind : List Pig} {x : Nat} (hbehind : Spaced strict behind)
    (hx : ∀ q ∈ behind.head?, Behind strict x q.position) : ∀ q ∈ behind, Behind strict x q.position := by
  cases behind with
  | nil => simp
  | cons p behind =>
    have hp := hx p (by simp)
    rw [List.forall_mem_cons]
    exact ⟨hp, fun q hq => hp.trans ((List.pairwise_cons.mp hbehind).1 q hq)⟩

theorem spaced_split {strict : Prop} {front behind : List Pig} {p : Pig} (h : Spaced strict (front ++ p :: behind)) :
    Spaced strict front ∧ (∀ a ∈ front, Behind strict a.position p.position) ∧ Spaced strict behind ∧
      ∀ q ∈ behind, Behind strict p.position q.position := by
  obtain ⟨hfront, hrest, hcross⟩ := List.pairwise_append.mp h
  obtain ⟨htail, hbehind⟩ := List.pairwise_cons.mp hrest
  exact ⟨hfront, fun a ha => hcross a ha p (by simp), hbehind, htail⟩

theorem mem_positionAhead {front : List Pig} {a : Nat} (h : a ∈ positionAhead none front) :
    ∃ p ∈ front, p.position = a := by
  unfold positionAhead at h
  cases hl : front.getLast? with
  | none => simp [hl] at h
  | some p => exact ⟨p, List.mem_of_getLast? hl, by simpa [hl] using h⟩

/-! ## Pushing back (R99) -/

/-- The pigs behind a place are pushed back to their distance, where the line behind has the room. -/
theorem pushBack_spaced {strict : Prop} {front : Nat} {l : List Pig} (hl : Spaced strict l)
    (hroom : strict → 1000 * l.length ≤ front ∨ ∀ q ∈ l.head?, q.position + 1000 ≤ front) :
    Spaced strict (pushBack front l) ∧ ∀ q ∈ pushBack front l, Behind strict front q.position := by
  induction l generalizing front with
  | nil => simp [pushBack, Spaced]
  | cons p l ih =>
    obtain ⟨hp, hrest⟩ := List.pairwise_cons.mp hl
    unfold pushBack
    split
    next hpush =>
      have hfront : strict → 1000 * (l.length + 1) ≤ front := by
        intro hs
        rcases hroom hs with h | h
        · exact h
        · have := h p (by simp)
          omega
      have hnew : Behind strict front (front - 1000) :=
        behind_iff.mpr ⟨Nat.le_refl _, fun hs => by have := hfront hs; omega⟩
      obtain ⟨hspaced, hbehind⟩ := ih (front := front - 1000) hrest
        (fun hs => .inl (by have := hfront hs; omega))
      refine ⟨List.pairwise_cons.mpr ⟨hbehind, hspaced⟩, ?_⟩
      rw [List.forall_mem_cons]
      exact ⟨hnew, fun q hq => hnew.trans (hbehind q hq)⟩
    next hstay =>
      have hnew : Behind strict front p.position := by
        refine behind_iff.mpr ⟨by omega, fun hs => ?_⟩
        rcases hroom hs with h | h
        · simp only [List.length_cons] at h
          omega
        · have := h p (by simp)
          omega
      refine ⟨hl, behind_tail hl ?_⟩
      simpa using hnew

/-! ## One update (R46, R52) -/

theorem enterOverdue_position (p : Pig) (now : Nat) (next : Option (Nat × Signaller)) :
    (p.enterOverdue now next).1.position = p.position := by
  unfold Pig.enterOverdue
  split
  · split <;> rfl
  · rfl

theorem enterStalled_position (s : State) (p : Pig) (now : Nat) : (p.enterStalled s now).1.position = p.position := by
  unfold Pig.enterStalled
  split
  · split <;> rfl
  · rfl

theorem treatPig_position (s : State) (now : Nat) (ahead : Option Nat) (p : Pig) :
    ∃ limit d, (treatPig s now ahead p).1.position = advanced s ahead limit p d := by
  refine ⟨(p.next s).map (fun n => n.2.limit), if p.moves ((p.next s).map (fun n => n.2.limit)) then
    travel (pigSpeed (velocityAt s p.position) p.ratio) (p.elapsed now) else 0, ?_⟩
  simp only [treatPig, enterStalled_position, enterOverdue_position]

/-- A pig that an update moves does not move back, and comes no nearer to the pig ahead than 1,000 mm, nor past the line
end, where it was not. -/
theorem treatPig_bounds (s : State) (now : Nat) (ahead : Option Nat) (p : Pig) :
    p.position ≤ (treatPig s now ahead p).1.position ∧
      (∀ a ∈ ahead, (treatPig s now ahead p).1.position ≤ max p.position (a - 1000)) ∧
      (treatPig s now ahead p).1.position ≤ max p.position (s.profile.lineEnd * 1000) := by
  obtain ⟨limit, d, h⟩ := treatPig_position s now ahead p
  rw [h]
  unfold advanced
  refine ⟨by omega, fun a ha => ?_, by omega⟩
  rw [Option.mem_def.mp ha, Option.map_some]
  have := capAt_le_some (capAt (capAt (p.position + d) limit) (valveLimit s p.position)) (a - 1000)
  omega

theorem treatPigs_spaced {strict : Prop} {s : State} {now : Nat} {ahead : Option Nat} {l : List Pig}
    (hl : Spaced strict l) (hahead : ∀ a ∈ ahead, ∀ p ∈ l.head?, Behind strict a p.position) :
    Spaced strict ((treatPigs s now ahead l).map (·.1)) ∧
      ∀ a ∈ ahead, ∀ p ∈ (treatPigs s now ahead l).map (·.1), Behind strict a p.position := by
  induction l generalizing ahead with
  | nil => simp [treatPigs, Spaced]
  | cons p l ih =>
    obtain ⟨hp, hrest⟩ := List.pairwise_cons.mp hl
    obtain ⟨hback, hnear, -⟩ := treatPig_bounds s now ahead p
    have hnew : ∀ a ∈ ahead, Behind strict a (treatPig s now ahead p).1.position := by
      intro a ha
      exact (hahead a ha p (by simp)).le_max (hnear a ha)
    obtain ⟨hspaced, hbehind⟩ := ih (ahead := some (treatPig s now ahead p).1.position) hrest (by
      intro a ha q hq
      cases ha
      exact (hp q (List.mem_of_mem_head? hq)).mono hback)
    have hbehind' := hbehind _ rfl
    rw [treatPigs, List.map_cons]
    refine ⟨List.pairwise_cons.mpr ⟨hbehind', hspaced⟩, fun a ha => ?_⟩
    rw [List.forall_mem_cons]
    exact ⟨hnew a ha, fun q hq => (hnew a ha).trans (hbehind' q hq)⟩

theorem treatPigs_within {s : State} {now : Nat} {ahead : Option Nat} {l : List Pig}
    (hl : ∀ p ∈ l, p.position ≤ s.profile.lineEnd * 1000) :
    ∀ p ∈ (treatPigs s now ahead l).map (·.1), p.position ≤ s.profile.lineEnd * 1000 := by
  induction l generalizing ahead with
  | nil => simp [treatPigs]
  | cons p l ih =>
    rw [treatPigs, List.map_cons, List.forall_mem_cons]
    have hp := hl p (by simp)
    obtain ⟨-, -, hend⟩ := treatPig_bounds s now ahead p
    exact ⟨by omega, ih fun q hq => hl q (by simp [hq])⟩

/-! ## Placing a pig (R97) -/

theorem fixPosition_bounds (s : State) (now : Nat) (g : Signaller) (x : Passage) (ratio : Nat) (ahead : Option Nat) :
    fixPosition s now g x ratio ahead ≤ s.profile.lineEnd * 1000 ∧
      ∀ a ∈ ahead, fixPosition s now g x ratio ahead ≤ a - 1000 := by
  unfold fixPosition
  refine ⟨Nat.min_le_right _ _, fun a ha => ?_⟩
  rw [Option.mem_def.mp ha, Option.map_some]
  exact (Nat.min_le_left _ _).trans (capAt_le_some _ _)

/-- Nothing but the pig ahead holds a placed pig below its signaller. -/
theorem fixPosition_reaches {s : State} {now : Nat} {g : Signaller} {x : Passage} {ratio : Nat} {ahead : Option Nat}
    (hg : g.chainage ≤ s.profile.lineEnd) :
    g.chainage * 1000 ≤ fixPosition s now g x ratio ahead ∨
      ∃ a, ahead = some a ∧ fixPosition s now g x ratio ahead = a - 1000 := by
  rcases (fixPosition_placed s now g x ratio ahead).1 with h | h | ⟨a, ha, h⟩ | ⟨c, n, k, hc, hk, h⟩ |
    ⟨i, st, -, -, -, hplace, h⟩
  · exact .inl (by omega)
  · exact .inl (by omega)
  · exact .inr ⟨a, ha, h⟩
  · obtain ⟨-, -, habove, -⟩ := hk
    cases hc
    exact .inl (by omega)
  · exact .inl (by omega)

theorem fixList_spaced {strict : Prop} {s : State} {now : Nat} {g : Signaller} {x : Passage} {early : Bool}
    {c : Pig → Bool} {l : List Pig} {p : Pig} (hp : l.find? c = some p) (hl : Spaced strict l)
    (hroom : strict → 1000 * l.length ≤ g.chainage * 1000 + 1000 ∧ g.chainage ≤ s.profile.lineEnd) :
    Spaced strict (fixList (fixedPig s now g x early) c none l) := by
  obtain ⟨front, behind, rfl, -, hfix⟩ := fixList_eq (fixedPig s now g x early) hp none
  rw [hfix]
  obtain ⟨hfront, hahead, hbehind, htail⟩ := spaced_split hl
  generalize hq : fixedPig s now g x early (positionAhead none front) p = q
  have hposition : q.position = fixPosition s now g x p.ratio (positionAhead none front) := by rw [← hq]; rfl
  obtain ⟨-, hnear⟩ := fixPosition_bounds s now g x p.ratio (positionAhead none front)
  have hq_behind : ∀ a ∈ positionAhead none front, Behind strict a q.position := by
    intro a ha
    obtain ⟨b, hb, rfl⟩ := mem_positionAhead ha
    exact behind_iff.mpr ⟨hposition ▸ hnear _ ha, (behind_iff.mp (hahead b hb)).2⟩
  obtain ⟨hspaced, hpushed⟩ := pushBack_spaced (front := q.position) hbehind fun hs => by
    obtain ⟨hlength, hend⟩ := hroom hs
    rcases fixPosition_reaches (x := x) (ratio := p.ratio) (ahead := positionAhead none front) (now := now) hend with
      h | ⟨a, ha, h⟩
    · simp only [List.length_append, List.length_cons] at hlength
      exact .inl (by omega)
    · refine .inr fun r hr => ?_
      obtain ⟨b, hb, rfl⟩ := mem_positionAhead ha
      have hold := behind_iff.mp (hahead b hb)
      have hr' := (htail r (List.mem_of_mem_head? hr)).resolve_right fun h => h.2 hs
      omega
  exact spaced_join hfront hq_behind hspaced hpushed

theorem pushBack_within {front bound : Nat} {l : List Pig} (hfront : front ≤ bound) (hl : ∀ p ∈ l, p.position ≤ bound) :
    ∀ p ∈ pushBack front l, p.position ≤ bound := by
  induction l generalizing front with
  | nil => simp [pushBack]
  | cons p l ih =>
    unfold pushBack
    split
    · rw [List.forall_mem_cons]
      exact ⟨(Nat.sub_le _ _).trans hfront, ih ((Nat.sub_le _ _).trans hfront) fun q hq => hl q (by simp [hq])⟩
    · exact hl

theorem fixList_within {s : State} {now : Nat} {g : Signaller} {x : Passage} {early : Bool} {c : Pig → Bool}
    {l : List Pig} {p : Pig} (hp : l.find? c = some p) (hl : ∀ p ∈ l, p.position ≤ s.profile.lineEnd * 1000) :
    ∀ p ∈ fixList (fixedPig s now g x early) c none l, p.position ≤ s.profile.lineEnd * 1000 := by
  obtain ⟨front, behind, rfl, -, hfix⟩ := fixList_eq (fixedPig s now g x early) hp none
  rw [hfix]
  have hq : (fixedPig s now g x early (positionAhead none front) p).position ≤ s.profile.lineEnd * 1000 :=
    (fixPosition_bounds s now g x p.ratio _).1
  intro r hr
  rcases List.mem_append.mp hr with hr | hr
  · exact hl r (by simp [hr])
  · rcases List.mem_cons.mp hr with rfl | hr
    · exact hq
    · exact pushBack_within hq (fun b hb => hl b (by simp [hb])) r hr

/-! ## CONFIRM (R36) -/

theorem neighbours_eq {front behind : List Pig} {p : Pig} (hfront : ∀ q ∈ front, q.tag ≠ p.tag) (ahead : Option Nat) :
    neighbours p.tag ahead (front ++ p :: behind) =
      (positionAhead ahead front, behind.head?.map (·.position)) := by
  induction front generalizing ahead with
  | nil => simp [neighbours, positionAhead]
  | cons q front ih =>
    have hq : q.tag ≠ p.tag := hfront q (by simp)
    rw [List.cons_append, neighbours, if_neg hq, ih fun r hr => hfront r (by simp [hr])]
    congr 1
    cases front <;> simp [positionAhead, List.getLast?_cons]

/-- A confirmed pig stays between its neighbours (R36). -/
theorem confirmedPosition_bounds {strict : Prop} {s : State} {front behind : List Pig} {p : Pig}
    (hl : s.register.inLine = front ++ p :: behind) (htags : ∀ q ∈ front, q.tag ≠ p.tag)
    (hspaced : Spaced strict s.register.inLine) (hp : p.position ≤ s.profile.lineEnd * 1000) (c : Nat) :
    confirmedPosition s p.tag c ≤ s.profile.lineEnd * 1000 ∧
      (∀ a ∈ positionAhead none front, Behind strict a (confirmedPosition s p.tag c)) ∧
      ∀ q ∈ behind.head?, Behind strict (confirmedPosition s p.tag c) q.position := by
  rw [hl] at hspaced
  obtain ⟨-, hahead, -, htail⟩ := spaced_split hspaced
  simp only [confirmedPosition, hl, neighbours_eq htags, upperBound]
  refine ⟨by omega, fun a ha => ?_, fun q hq => ?_⟩
  · obtain ⟨b, hb, rfl⟩ := mem_positionAhead ha
    rw [Option.mem_def.mp ha, Option.map_some, Option.getD_some]
    exact behind_iff.mpr ⟨by omega, (behind_iff.mp (hahead b hb)).2⟩
  · have hqp := htail q (List.mem_of_mem_head? hq)
    rw [Option.mem_def.mp hq, Option.map_some, lowerBound]
    rcases hqp with hqp | hqp
    · refine .inl ?_
      cases hpos : positionAhead none front with
      | none =>
        rw [Option.map_none, Option.getD_none]
        omega
      | some a =>
        obtain ⟨b, hb, rfl⟩ := mem_positionAhead hpos
        have hb' := behind_iff.mp (hahead b hb)
        rw [Option.map_some, Option.getD_some]
        omega
    · exact .inr hqp

theorem map_ite_tag_of_ne {l : List Pig} {tag : Nat} {f : Pig → Pig} (h : ∀ q ∈ l, q.tag ≠ tag) :
    l.map (fun q => if q.tag = tag then f q else q) = l := by
  refine (List.map_congr_left fun q hq => if_neg (h q hq)).trans ?_
  exact List.map_id' l

theorem update_confirm_spaced {strict : Prop} {s : State} (hnodup : (s.register.inLine.map (·.tag)).Nodup)
    (hl : Spaced strict s.register.inLine) (hin : ∀ p ∈ s.register.inLine, p.position ≤ s.profile.lineEnd * 1000)
    (tag c : Nat) (now : Option Nat) :
    Spaced strict (s.register.inLine.map fun q => if q.tag = tag then q.confirm (confirmedPosition s tag c) now else q) ∧
      ∀ p ∈ s.register.inLine.map fun q => if q.tag = tag then q.confirm (confirmedPosition s tag c) now else q,
        p.position ≤ s.profile.lineEnd * 1000 := by
  by_cases hmem : ∃ p ∈ s.register.inLine, p.tag = tag
  · obtain ⟨p, hp, rfl⟩ := hmem
    obtain ⟨front, behind, hsplit⟩ := List.append_of_mem hp
    have htags := hnodup
    rw [hsplit, List.map_append, List.map_cons, List.nodup_append, List.nodup_cons] at htags
    obtain ⟨-, ⟨hbehind, -⟩, hfront⟩ := htags
    have hfront' : ∀ q ∈ front, q.tag ≠ p.tag := fun q hq => hfront _ (List.mem_map_of_mem hq) _ (by simp)
    have hbehind' : ∀ q ∈ behind, q.tag ≠ p.tag := fun q hq htag => hbehind (htag ▸ List.mem_map_of_mem hq)
    obtain ⟨hend, hahead, hback⟩ := confirmedPosition_bounds hsplit hfront' hl (hin p hp) c
    rw [hsplit] at hl hin ⊢
    rw [List.map_append, List.map_cons, map_ite_tag_of_ne hfront', map_ite_tag_of_ne hbehind', if_pos rfl]
    obtain ⟨hspaced, -, htail, -⟩ := spaced_split hl
    refine ⟨spaced_join hspaced hahead htail (behind_tail htail hback), fun q hq => ?_⟩
    rcases List.mem_append.mp hq with hq | hq
    · exact hin q (by simp [hq])
    · rcases List.mem_cons.mp hq with rfl | hq
      · exact hend
      · exact hin q (by simp [hq])
  · push Not at hmem
    rw [map_ite_tag_of_ne hmem]
    exact ⟨hl, hin⟩

/-! ## Every change of the register -/

theorem spaced_map {strict : Prop} {l : List Pig} (hl : Spaced strict l) {f : Pig → Pig}
    (hf : ∀ p, (f p).position = p.position) : Spaced strict (l.map f) := by
  refine List.pairwise_map.mpr (hl.imp fun hab => ?_)
  rw [hf, hf]
  exact hab

theorem within_map {l : List Pig} {bound : Nat} (hl : ∀ p ∈ l, p.position ≤ bound) {f : Pig → Pig}
    (hf : ∀ p, (f p).position = p.position) : ∀ p ∈ l.map f, p.position ≤ bound := by
  intro p hp
  obtain ⟨q, hq, rfl⟩ := List.mem_map.mp hp
  exact (hf q).symm ▸ hl q hq

theorem afterPower_position (p : Pig) : p.afterPower.position = p.position := by
  unfold Pig.afterPower
  cases p.status <;> rfl

theorem inLine_nodup {r : Register} (h : r.tags.Nodup) : (r.inLine.map (·.tag)).Nodup := by
  rw [Register.tags_eq, List.append_assoc] at h
  exact h.sublist ((List.sublist_append_left _ _).trans (List.sublist_append_right _ _))

/-- What a fix needs of the line behind its pig, where the distance is strict: its signaller lies far enough up the line for
as many pigs as the register holds. -/
def FixRoom (s : State) : Prop :=
  ∀ n g, n ≠ 0 → s.profile.signaller? n = some g → s.register.inLine ≠ [] →
    1000 * s.register.inLine.length ≤ g.chainage * 1000 + 1000 ∧ g.chainage ≤ s.profile.lineEnd

theorem launchedPig_joins {s : State} {now : Nat} {g : Signaller} {x : Passage} {p : Pig}
    (hl : Spaced False s.register.inLine) :
    Spaced False (s.register.inLine ++ [launchedPig s now g x (s.register.inLine.getLast?.map (·.position)) p]) := by
  refine spaced_join hl (fun a ha => ?_) List.Pairwise.nil (by simp)
  have ha' : a ∈ s.register.inLine.getLast?.map (·.position) := by simpa [positionAhead] using ha
  exact behind_iff.mpr ⟨(fixPosition_bounds s now g x p.ratio _).2 a ha', False.elim⟩

/-- A register step keeps the line spaced and within its end, strictly where no pig is staged. -/
theorem RegisterStep.keeps_spaced {strict : Prop} {i : Instr} {s : State} {r : Register} (h : RegisterStep i s r)
    (hnodup : s.register.tags.Nodup) (hl : Spaced strict s.register.inLine)
    (hin : ∀ p ∈ s.register.inLine, p.position ≤ s.profile.lineEnd * 1000)
    (hstrict : strict → s.register.launchBarrel = [] ∧ FixRoom s) :
    Spaced strict r.inLine ∧ ∀ p ∈ r.inLine, p.position ≤ s.profile.lineEnd * 1000 := by
  cases h with
  | kept => exact ⟨hl, hin⟩
  | ratio tag n p =>
    have hposition (q : Pig) : (if q.tag = tag then
        { q with ratio := (ratioFrom p.kind n).1, source := (ratioFrom p.kind n).2 } else q).position = q.position := by
      split <;> rfl
    exact ⟨spaced_map hl hposition, within_map hin hposition⟩
  | confirm tag c p => exact update_confirm_spaced (inLine_nodup hnodup) hl hin tag c s.now
  | strike f =>
    have hposition (q : Pig) : (if f q then q.strike else q).position = q.position := by split <;> rfl
    exact ⟨spaced_map hl hposition, within_map hin hposition⟩
  | advance now => exact ⟨(treatPigs_spaced hl (by simp)).1, treatPigs_within hin⟩
  | fix now g x early p h0 hg hp =>
    refine ⟨fixList_spaced hp hl fun hs => ?_, fixList_within hp hin⟩
    exact (hstrict hs).2 x.signaller g h0 hg (List.ne_nil_of_mem (List.mem_of_find?_eq_some hp))
  | arrive t p => exact ⟨hl.sublist List.eraseP_sublist, fun q hq => hin q (List.mem_of_mem_eraseP hq)⟩
  | launch now g x p hp =>
    have hloose : ¬ strict := fun hs => by simp [(hstrict hs).1] at hp
    have hfalse : strict = False := eq_false hloose
    subst hfalse
    refine ⟨launchedPig_joins hl, fun q hq => ?_⟩
    rcases List.mem_append.mp hq with hq | hq
    · exact hin q hq
    · rw [List.mem_singleton.mp hq]
      exact (fixPosition_bounds s now g x p.ratio _).1
  | remove tag => exact ⟨hl.sublist List.filter_sublist, fun q hq => hin q (List.mem_filter.mp hq).1⟩
  | stage m x => exact ⟨hl, hin⟩
  | restamp => exact ⟨spaced_map hl fun _ => rfl, within_map hin fun _ => rfl⟩
  | afterPower => exact ⟨spaced_map hl afterPower_position, within_map hin afterPower_position⟩
  | lost => exact ⟨List.Pairwise.nil, by simp⟩

theorem lineEnd_of_geometry {p q : Profile} (h : geometryOf p = geometryOf q) : p.lineEnd = q.lineEnd := by
  have hline : p.line = q.line := congrArg Geometry.line h
  unfold Profile.lineEnd
  rw [hline]

theorem Move.keeps_inLineLaw {i : Instr} {s t : State} (hmove : Move i s t) (hlaw : RegisterLaw s)
    (hmark : GeometryMarkLaw s) (hs : InLineLaw s) : InLineLaw t := by
  obtain ⟨hl, hin⟩ := (inLineLaw_iff s).mp hs
  obtain ⟨hl', hin'⟩ := hmove.registerStep.keeps_spaced hlaw.1 hl hin False.elim
  refine (inLineLaw_iff t).mpr ⟨hl', ?_⟩
  rcases hmove.geometry_marked hmark with hgeometry | hview
  · rw [lineEnd_of_geometry hgeometry]
    exact hin'
  · have hempty : t.register.inLine = [] := 
      (List.append_eq_nil_iff.mp (List.append_eq_nil_iff.mp hview).1).2
    simp [hempty]

/-! ## The strict distance, while no pig is staged -/

/-- A signaller past the launch signaller of a complete profile lies above 10 m, and no more than 12 pigs lie in the line. -/
theorem fixRoom_of_laws {s : State} (hlaw : RegisterLaw s) (hprofile : ProfileLaw s) (hcomplete : CompleteLaw s) :
    FixRoom s := by
  intro n g hn hg hline
  obtain ⟨-, -, hsize, -⟩ := hlaw
  obtain ⟨-, -, -, -, hsignaller, hrise, -⟩ := hprofile.1
  have hview : s.register.view ≠ [] := fun h => hline ((List.append_eq_nil_iff.mp (List.append_eq_nil_iff.mp h).1).2)
  have hall := hcomplete hview
  simp only [Profile.complete, Bool.and_eq_true] at hall
  obtain ⟨g0, hg0⟩ := Option.isSome_iff_exists.mp hall.1.2
  have hlow := ((hsignaller 0 g0 hg0).2.2.1 rfl).1
  have habove := (hrise 0 n g0 g (Nat.pos_of_ne_zero hn) hg0 hg).1
  have hlength : s.register.inLine.length ≤ s.register.view.length := by
    simp only [Register.view, List.length_append]
    omega
  exact ⟨by omega, (hsignaller n g hg).2.1⟩

/-- All that the strict distance rests on. -/
def StrictLaws (s : State) : Prop :=
  RegisterLaw s ∧ GeometryMarkLaw s ∧ InLineLaw s ∧ ProfileLaw s ∧ CompleteLaw s ∧ s.register.launchBarrel = [] ∧
    Separated s.register.inLine

theorem RegisterStep.keeps_unstaged {i : Instr} {s : State} {r : Register} (h : RegisterStep i s r)
    (hstage : ∀ m x, i ≠ .stagePig m (some x)) (hs : s.register.launchBarrel = []) : r.launchBarrel = [] := by
  rcases h.counter with ⟨-, hle⟩ | ⟨m, x, hi, -, rfl⟩ | rfl
  · rw [hs] at hle
    exact List.length_eq_zero_iff.mp (Nat.le_zero.mp hle)
  · exact absurd hi (hstage m x)
  · rfl

theorem Move.keeps_strictLaws {i : Instr} {s t : State} (hmove : Move i s t)
    (hstage : ∀ m x, i ≠ .stagePig m (some x)) (hs : StrictLaws s) : StrictLaws t := by
  obtain ⟨hlaw, hmark, hin, hprofile, hcomplete, hunstaged, hseparated⟩ := hs
  refine ⟨hmove.keeps_registerLaw hlaw, hmove.keeps_geometryMarkLaw hmark, hmove.keeps_inLineLaw hlaw hmark hin,
    hmove.keeps_profileLaw hprofile, hmove.keeps_completeLaw hmark hcomplete,
    hmove.registerStep.keeps_unstaged hstage hunstaged, ?_⟩
  rw [separated_iff] at *
  exact (hmove.registerStep.keeps_spaced hlaw.1 hseparated ((inLineLaw_iff s).mp hin).2 fun _ =>
    ⟨hunstaged, fixRoom_of_laws hlaw hprofile hcomplete⟩).1

/-- What a reply to a request may change besides what its rule does. -/
theorem respond_only (m : Master) (code : Nat) (r : State × Answer) : OnlyChanges [.port, .reply] r.1 (respond m code r) :=
  ((noteRefusal_only m code r.2 r.1).mono (by simp)).then (sendReply_only m r.2 _) (by simp)

/-- A request does what its rule does, but for the port and the reply, or nothing but that. -/
theorem serve_only {m : Master} {k : Command} {body : State → State × Answer} {s t : State}
    (h : serve m k body s = .next t) :
    OnlyChanges [.port, .reply] (body s).1 t ∨ OnlyChanges [.port, .reply] s t := by
  unfold serve at h
  split at h
  · split at h <;> injection h with h <;> subst h
    · exact .inl (respond_only _ _ _)
    · exact .inr (respond_only m k.code (refuse .cls s))
  · injection h with h
    subst h
    exact .inr ((setReply_only s none).mono (by simp))

/-- A staging leaves the line as it is. -/
theorem stagePig_inLine {m : Master} {a : Carried StageArgs} {s t : State} (h : exec (.stagePig m a) s = .next t) :
    t.register.inLine = s.register.inLine := by
  have hbody : (whenComplete (withParams a stagePig) s).1.register.inLine = s.register.inLine := by
    unfold whenComplete
    split
    · cases a with
      | none => rfl
      | some x =>
        simp only [withParams, stagePig]
        split
        · rfl
        split
        · rfl
        split
        · rfl
        · rfl
    · rfl
  rcases serve_only h with ht | ht
  · exact (congrArg Register.inLine (ht .register (by simp))).trans hbody
  · exact congrArg Register.inLine (ht .register (by simp))

theorem step_keeps_separated {s t : State} (h : step s = .next t) (hs : StrictLaws s) : Separated t.register.inLine := by
  unfold step at h
  split at h
  · injection h with h
    obtain ⟨-, -, -, -, -, -, hseparated⟩ := hs
    exact h ▸ hseparated
  next i rest _ =>
    have hrest : StrictLaws (s.setPending rest) := hs
    by_cases hstage : ∃ m x, i = .stagePig m (some x)
    · obtain ⟨m, x, rfl⟩ := hstage
      obtain ⟨-, -, -, -, -, -, hseparated⟩ := hrest
      exact (stagePig_inLine h).symm ▸ hseparated
    · obtain ⟨-, -, -, -, -, -, hseparated⟩ := (exec_moves h).keep
        (fun _ _ hmove => hmove.keeps_strictLaws fun m x hi => hstage ⟨m, x, hi⟩) hrest
      exact hseparated

/-- Settles O54 (R19 to R25). -/
theorem stepsKeepTheRegister : Obligations.StepsKeepTheRegister := by
  intro s t hlaw h
  refine ⟨step_keeps (fun _ _ _ hmove => hmove.keeps_registerLaw) (fun _ _ hs => hs) h hlaw, fun hs => ?_,
    fun hmark hs => ?_, fun hmark hin hprofile hcomplete hunstaged hseparated => ?_⟩
  · exact (step_keeps (P := fun u => RegisterLaw u ∧ OptionalFieldsLaw u)
      (fun _ _ _ hmove hu => ⟨hmove.keeps_registerLaw hu.1, hmove.keeps_optionalFieldsLaw hu.1 hu.2⟩)
      (fun _ _ hu => hu) h ⟨hlaw, hs⟩).2
  · exact (step_keeps (P := fun u => RegisterLaw u ∧ GeometryMarkLaw u ∧ InLineLaw u)
      (fun _ _ _ hmove hu => ⟨hmove.keeps_registerLaw hu.1, hmove.keeps_geometryMarkLaw hu.2.1,
        hmove.keeps_inLineLaw hu.1 hu.2.1 hu.2.2⟩)
      (fun _ _ hu => hu) h ⟨hlaw, hmark, hs⟩).2.2
  · exact step_keeps_separated h ⟨hlaw, hmark, hin, hprofile, hcomplete, hunstaged, hseparated⟩

end Sys2Proof.Machine


/-! PROOF. The laws right after reset, and the port: steps, frames, refusals and reads. -/

namespace Sys2Proof.Machine

/-! ## Reset -/

theorem reset_view : State.reset.register.view = [] := rfl

/-- Settles O57 (R195): a new part. -/
theorem lawsHoldAtReset : Obligations.LawsHoldAtReset := by
  refine ⟨?_, ?_, ?_, ?_, ?_, ?_, ?_, ?_, ?_, ?_, ?_, fun h => absurd reset_view h⟩
  · unfold AttentionLineLaw
    decide
  · unfold HoldContactLaw
    decide
  · unfold WatchMemberLaw
    decide
  · refine (registerLaw_iff _).mpr ⟨⟨List.nodup_nil, ?_⟩, ?_, ?_, ?_⟩ <;>
      simp [State.reset, Register.tags, Register.view]
  · simp [OptionalFieldsLaw, reset_view]
  · exact listsLaw_of_empty rfl rfl
  · exact trapLaw_of_idle (by decide) rfl rfl
  · exact ⟨by decide, ⟨0, rfl⟩, ⟨0, rfl⟩, ⟨0, rfl⟩⟩
  · unfold GeometryMarkLaw
    decide
  · exact ⟨List.Pairwise.nil, by simp [State.reset]⟩
  · exact ⟨empty_lawful, empty_lawful, empty_lawful⟩

/-! ## Steps -/

/-- Settles O1 (R173). -/
theorem stepTakesTheFront : Obligations.StepTakesTheFront :=
  ⟨fun s c rest h => by rw [step, h], fun s h => by rw [step, h]⟩

theorem restartBase_pending (s : State) : (restartBase s).pending = s.pending := by
  have hchannels (u : State) : (restartChannels u).pending = u.pending := restartChannels_only u .pending (by simp)
  simp only [restartBase, restartPort, restartWatches, setContacts, restartMatching, hchannels, restartIntake,
    restartEstimates, restartTracker, State.setInLine, State.setPort_pending, State.setTraps_pending,
    State.setWatchUnit_pending, State.setValves_pending, State.setFixUnit_pending, State.setIntake_pending,
    State.setRegister_pending, State.setTracker_pending, State.setClock_pending]

theorem Move.keeps_pending {i : Instr} {s t : State} (hmove : Move i s t) : t.pending = s.pending := by
  cases hmove with
  | takeProfile p => exact takeProfile_only p s .pending (by simp)
  | takeMaster k c => exact (setContext_only _ k _ .pending (by simp)).trans (takeProfile_only _ s .pending (by simp))
  | takeLine d => exact (clearLine_only _ .pending (by simp)).trans (takeProfile_only _ s .pending (by simp))
  | takeWatch st c w => exact (applyHold_only st _ .pending (by simp)).trans (takeProfile_only _ s .pending (by simp))
  | hold st h => exact changeHold_only st h s .pending (by simp)
  | watch st w => exact applyHold_only st (s.setWatch st w) .pending (by simp)
  | trap x r => cases x <;> rfl
  | restart => exact restartBase_pending s
  | powerOn a b c =>
    simp only [startUp, loadRetention]
    split <;> rfl
  | _ => rfl

/-- Settles O2: every arm of the meaning answers, and no move touches the queue. -/
theorem everyCommandCompletes : Obligations.EveryCommandCompletes := by
  intro i s
  obtain ⟨t, h⟩ := exec_next i s
  exact ⟨t, h, (exec_moves h).keep (P := fun u => u.pending = s.pending)
    (fun _ _ hmove hu => hmove.keeps_pending.trans hu) rfl⟩

/-! ## Refusals of the port (R176, R178, R179) -/

theorem mayUse_iff (c : MasterClass) (k : Command) : mayUse c k = true ↔ k ∈ openToAll ∨ k ∈ openToClass c := by
  simp [mayUse]

/-- The commands that R15 leaves open while the profile is incomplete, and DECODE CHAINAGE. -/
def openIncomplete : List Command :=
  [Command.defineLine, .defineStation, .defineReach, .defineSignaller, .defineTracking, .defineTrap,
    .defineMaster, .setWatch, .setChannelMode, .readProfile, .decodeChainage, .restart, .setLineTime,
    .readAttention, .acknowledgeAttention, .setEnables]

/-- Every other request begins with the check of R15. -/
theorem exec_whenComplete {i : Instr} {m : Master} {k : Command} (hi : i.request = some (m, k))
    (hk : k ∉ openIncomplete) : ∃ body, ∀ s, exec i s = serve m k (whenComplete body) s := by
  cases i <;> simp only [Instr.request, Option.some.injEq, Prod.mk.injEq, reduceCtorEq] at hi <;>
    obtain ⟨rfl, rfl⟩ := hi <;> first
      | exact ⟨_, fun _ => rfl⟩
      | exact absurd (by decide) hk

/-- Settles O5 (R176, R178, R179, R15). -/
theorem portRefuses : Obligations.PortRefuses := by
  refine ⟨fun i m k s hi hpower hall hclass => ?_, fun i m k s hi hpower hopen hincomplete hk => ?_,
    fun m code s hpower => ?_⟩
  · refine exec_class hi hpower (Bool.eq_false_iff.mpr fun h => ?_)
    exact ((mayUse_iff _ _).mp h).elim hall hclass
  · obtain ⟨body, hbody⟩ := exec_whenComplete hi hk
    apply refuses_of hi
    rw [hbody, serve_open m k _ s hpower ((mayUse_iff _ _).mpr hopen), whenComplete_incomplete _ hincomplete]
  · have h : exec (.unknownCommandCode m code) s = .next (respond m code (refuse .range s)) := by
      simp only [exec, execUnknownCommandCode, hpower, if_true]
    exact ⟨_, h, respond_only m code (refuse .range s), rfl, sendReply_replied m _ _⟩

/-- Settles O8 (R181). -/
theorem postingReachesEveryContext : Obligations.PostingReachesEveryContext := by
  intro k x s
  refine ⟨fun m => ?_, ?_, fun j hj => ?_, rfl, rfl, post_only k x s⟩
  · rw [post_context, attend_eq]
  · rw [post_detail, if_pos rfl]
    rfl
  · rw [post_detail, if_neg hj]

/-! ## Reads (R16, R18, R29, R44, R58, R75, R90, R114, R134, R150, R170, R183) -/

/-- A rule that changes nothing, and refuses without data. -/
def ReadsOnly (body : State → State × Answer) : Prop :=
  ∀ s, (body s).1 = s ∧ ∀ r d, (body s).2 = .refused r d → d = .nothing

theorem ReadsOnly.refuse (r : Reason) : ReadsOnly (refuse r) := fun _ => ⟨rfl, fun _ _ h => by cases h; rfl⟩

theorem ReadsOnly.done (d : State → ReplyData) : ReadsOnly (fun s => done (d s) s) :=
  fun _ => ⟨rfl, fun _ _ h => by cases h⟩

section ReadsOnly

variable {body : State → State × Answer}

theorem ReadsOnly.whenComplete (h : ReadsOnly body) : ReadsOnly (whenComplete body) := by
  intro s
  unfold Machine.whenComplete
  split
  · exact h s
  · exact ReadsOnly.refuse _ s

theorem ReadsOnly.whenIdle (h : ReadsOnly body) : ReadsOnly (whenIdle body) := by
  intro s
  unfold Machine.whenIdle
  split
  · exact ⟨rfl, fun _ _ h => by cases h⟩
  · exact h s

theorem ReadsOnly.withParams {α : Type} {body : α → State → State × Answer} (h : ∀ x, ReadsOnly (body x))
    (a : Carried α) : ReadsOnly (withParams a body) := by
  cases a with
  | none => exact ReadsOnly.refuse _
  | some x => exact h x

/-- A read of a request is answered, or refused without data. -/
theorem ReadsOnly.answers (h : ReadsOnly body) {i : Instr} {m : Master} {k : Command} {s : State}
    (hi : i.request = some (m, k)) (hexec : exec i s = .next (respond m k.code (body s))) :
    ∃ a, (AnswersOnly i a s ∧ ∀ r d, a ≠ .refused r d) ∨ ∃ r, a = .refused r .nothing ∧ Refuses i r s := by
  obtain ⟨hfst, hrefused⟩ := h s
  have hpair : body s = (s, (body s).2) := Prod.ext hfst rfl
  rw [hpair] at hexec
  generalize (body s).2 = a at hexec hrefused
  cases a with
  | refused r d =>
    obtain rfl := hrefused r d rfl
    exact ⟨_, .inr ⟨r, rfl, refuses_of hi hexec⟩⟩
  | _ => exact ⟨_, .inl ⟨⟨m, k, hi, hexec⟩, by simp⟩⟩

end ReadsOnly

theorem withPig_readsOnly {tag : Nat} {body : Pig → State → State × Answer} (h : ∀ p, ReadsOnly (body p)) :
    ReadsOnly (withPig tag body) := by
  intro s
  unfold withPig
  split
  · exact ReadsOnly.refuse _ s
  · split
    · exact ReadsOnly.refuse _ s
    · exact h _ s

theorem withStation_readsOnly {n : Nat} {body : Fin 16 → State → State × Answer} (h : ∀ st, ReadsOnly (body st)) :
    ReadsOnly (withStation n body) := by
  intro s
  unfold withStation
  split
  · exact h _ s
  · exact ReadsOnly.refuse _ s

theorem withWatch_readsOnly {n : Nat} {body : Fin 16 → State → State × Answer} (h : ∀ st, ReadsOnly (body st)) :
    ReadsOnly (withWatch n body) := by
  intro s
  unfold withWatch
  split
  · exact h _ s
  · exact ReadsOnly.refuse _ s

theorem withSignaller_readsOnly {n : Nat} {body : State → State × Answer} (h : ReadsOnly body) :
    ReadsOnly (withSignaller n body) := by
  intro s
  unfold withSignaller
  split
  · exact ReadsOnly.refuse _ s
  · split
    · exact ReadsOnly.refuse _ s
    · exact h s

theorem readPlace_readsOnly {α : Type} (l : State → List α) (limit k : Nat) (f : State → α → ReplyData) :
    ReadsOnly (fun s => readPlace (l s) limit k (f s) s) := by
  intro s
  simp only [readPlace]
  split
  · split
    · exact ReadsOnly.done (fun _ => f s _) s
    · exact ReadsOnly.refuse _ s
  · exact ReadsOnly.refuse _ s

theorem readItem_readsOnly {α : Type} (o : State → Option α) (f : State → α → ReplyData) :
    ReadsOnly (fun s => readItem (o s) (f s) s) := by
  intro s
  simp only [readItem]
  split
  · exact ReadsOnly.done (fun _ => f s _) s
  · exact ReadsOnly.refuse _ s

theorem readLineItem_readsOnly {α : Type} (limit i : Nat) (count : State → Nat) (o : State → Option α)
    (f : State → α → ReplyData) : ReadsOnly (fun s => readLineItem limit (count s) i (o s) (f s) s) := by
  intro s
  simp only [readLineItem]
  split
  · exact ReadsOnly.refuse _ s
  · split
    · exact readItem_readsOnly o f s
    · exact ReadsOnly.refuse _ s

theorem readProfile_readsOnly (sel : ProfileSel) : ReadsOnly (readProfile sel) := by
  cases sel with
  | line => exact readItem_readsOnly (fun s => s.profile.line) (fun _ => .lineItem)
  | station i =>
    exact readLineItem_readsOnly 16 i (fun s => s.profile.count) (fun s => s.profile.station? i)
      (fun s st => .stationItem st i (i + 1 == s.profile.count))
  | reach i =>
    exact readLineItem_readsOnly 15 i (fun s => s.profile.count - 1) (fun s => s.profile.reach? i) (fun _ => .reachItem)
  | signaller n =>
    intro s
    simp only [readProfile]
    split
    · exact readItem_readsOnly (fun s => s.profile.signaller? n)
        (fun s g => .signallerItem g (s.profile.isReceive n)) s
    · exact ReadsOnly.refuse _ s
  | tracking => exact ReadsOnly.done fun s => .trackingItem s.profile.tracking
  | trap t =>
    cases t with
    | launch => exact ReadsOnly.done fun s => .launchItem s.profile.launch
    | receive => exact ReadsOnly.done fun s => .receiveItem s.profile.receive
  | master i =>
    intro s
    simp only [readProfile]
    split
    · exact ReadsOnly.done (fun s => .masterItem s.profile.masters[_]) s
    · exact ReadsOnly.refuse _ s
  | watch i =>
    intro s
    simp only [readProfile]
    split
    · exact ReadsOnly.done (fun s => .watchItem s.profile.watches[_]) s
    · exact ReadsOnly.refuse _ s
  | channel i =>
    intro s
    simp only [readProfile]
    split
    · exact ReadsOnly.done (fun s => .channelItem s.profile.channels[_]) s
    · exact ReadsOnly.refuse _ s
  | summary => exact ReadsOnly.done fun s => .profileSummary (summaryOf s)

theorem placeChainage_readsOnly (c : Nat) : ReadsOnly (placeChainage c) := by
  intro s
  simp only [placeChainage]
  split
  · exact ReadsOnly.done (fun _ => _) s
  · exact ReadsOnly.done (fun _ => _) s
  · exact ReadsOnly.refuse _ s

theorem decodeChainage_readsOnly (c : Nat) : ReadsOnly (decodeChainage c) := by
  intro s
  simp only [decodeChainage]
  split
  · exact (placeChainage_readsOnly c).whenComplete s
  · exact ReadsOnly.refuse _ s

theorem readFlow_readsOnly (x : Option Nat) : ReadsOnly (readFlow x) := by
  intro s
  cases x with
  | none => exact ReadsOnly.done (fun _ => _) s
  | some n =>
    simp only [readFlow]
    split
    · exact ReadsOnly.refuse _ s
    · exact ReadsOnly.done (fun _ => _) s

theorem queryEta_readsOnly (x : TagChainage) : ReadsOnly (queryEta x) := by
  intro s
  simp only [queryEta]
  split
  · exact ReadsOnly.refuse _ s
  · refine withPig_readsOnly (fun p u => ?_) s
    split
    · exact ReadsOnly.refuse _ u
    split
    · exact ReadsOnly.refuse _ u
    · exact ReadsOnly.done (fun _ => _) u

theorem readIntake_readsOnly (sel : IntakeSel) : ReadsOnly (readIntake sel) := by
  cases sel with
  | summary => exact ReadsOnly.done fun s => .intakeSummary _ _ _ _
  | entry k =>
    exact readPlace_readsOnly (fun s => s.intake.entries) 24 k (fun s e => .intakeEntry e (dueTime s.profile e))
  | signaller n =>
    intro s
    simp only [readIntake]
    split
    · exact ReadsOnly.refuse _ s
    split
    · exact ReadsOnly.refuse _ s
    · exact ReadsOnly.done (fun _ => _) s

theorem readChannel_readsOnly (n : Nat) : ReadsOnly (readChannel n) := by
  intro s
  simp only [readChannel]
  split
  · exact ReadsOnly.refuse _ s
  · exact ReadsOnly.done (fun _ => _) s

theorem readMatching_readsOnly (sel : MatchingSel) : ReadsOnly (readMatching sel) := by
  cases sel with
  | summary => exact ReadsOnly.done fun s => .matchingSummary _ _ _
  | unmatched k => exact readPlace_readsOnly (fun s => s.fixUnit.unmatched) 8 k (fun _ => .unmatchedEntry)
  | signaller n => exact withSignaller_readsOnly (ReadsOnly.done fun s => .serviceRecord _ _ _ _)

theorem readValve_readsOnly (x : Option Nat) : ReadsOnly (readValve x) := by
  cases x with
  | none => exact ReadsOnly.done fun s => .valveSummary _
  | some n =>
    refine withStation_readsOnly fun st s => ?_
    split
    · exact ReadsOnly.done (fun _ => _) s
    · exact ReadsOnly.refuse _ s

theorem readTrap_readsOnly (t : TrapId) : ReadsOnly (readTrap t) := by
  cases t with
  | launch => exact ReadsOnly.done fun s => .launchRecord _ _ _
  | receive => exact ReadsOnly.done fun s => .receiveRecord _ _ _ _

theorem readAttention_readsOnly (m : Master) (x : Option AttnKind) : ReadsOnly (readAttention m x) := by
  cases x with
  | none => exact ReadsOnly.done fun s => .attention _ _ _ _ _ _
  | some k => exact ReadsOnly.done fun s => .attentionDetail _ _

/-- The reads. -/
def reads : List Command :=
  [.readProfile, .decodeChainage, .readPig, .readFlow, .queryEta, .readIntake, .readChannel, .readMatching, .readValve,
    .readWatch, .readTrap, .readAttention]

/-- The rule of every read changes nothing. -/
theorem exec_read {i : Instr} {m : Master} {k : Command} (hi : i.request = some (m, k)) (hk : k ∈ reads) :
    ∃ body, ReadsOnly body ∧ ∀ s, exec i s = serve m k body s := by
  cases i <;> simp only [Instr.request, Option.some.injEq, Prod.mk.injEq, reduceCtorEq] at hi <;>
    obtain ⟨rfl, rfl⟩ := hi
  case readProfile a => exact ⟨_, (ReadsOnly.withParams readProfile_readsOnly a).whenIdle, fun _ => rfl⟩
  case decodeChainage a => exact ⟨_, ReadsOnly.withParams decodeChainage_readsOnly a, fun _ => rfl⟩
  case readPig a =>
    exact ⟨_, (ReadsOnly.withParams (body := readPig) (fun tag => withPig_readsOnly fun p =>
      ReadsOnly.done fun s => .pig (pigSummary s.register p)) a).whenComplete, fun _ => rfl⟩
  case readFlow a => exact ⟨_, (ReadsOnly.withParams readFlow_readsOnly a).whenComplete, fun _ => rfl⟩
  case queryEta a => exact ⟨_, (ReadsOnly.withParams queryEta_readsOnly a).whenComplete, fun _ => rfl⟩
  case readIntake a => exact ⟨_, (ReadsOnly.withParams readIntake_readsOnly a).whenComplete, fun _ => rfl⟩
  case readChannel a => exact ⟨_, (ReadsOnly.withParams readChannel_readsOnly a).whenComplete, fun _ => rfl⟩
  case readMatching a => exact ⟨_, (ReadsOnly.withParams readMatching_readsOnly a).whenComplete, fun _ => rfl⟩
  case readValve a => exact ⟨_, (ReadsOnly.withParams readValve_readsOnly a).whenComplete, fun _ => rfl⟩
  case readWatch a =>
    exact ⟨_, (ReadsOnly.withParams (body := readWatch) (fun n => withWatch_readsOnly fun st =>
      ReadsOnly.done fun s => .watchRecord s.watchUnit.watches[st] _) a).whenComplete, fun _ => rfl⟩
  case readTrap a => exact ⟨_, (ReadsOnly.withParams readTrap_readsOnly a).whenComplete, fun _ => rfl⟩
  case readAttention a => exact ⟨_, ReadsOnly.withParams (readAttention_readsOnly _) a, fun _ => rfl⟩
  all_goals exact absurd hk (by decide)

/-- Settles O11. -/
theorem readsChangeNothing : Obligations.ReadsChangeNothing := by
  intro i m k s hi hpower hk
  obtain ⟨body, hreads, hexec⟩ := exec_read hi hk
  have hopen : mayUse (s.context m).cls k = true := by
    have hall : k ∈ openToAll := by
      revert hk
      cases k <;> decide
    exact mayUse_all hall _
  exact hreads.answers hi ((hexec s).trans (serve_open m k body s hpower hopen))

end Sys2Proof.Machine


/-! PROOF. Frames: which are checked, which are dropped, and what a drop leaves (R174 to R176, R187, R189). -/

namespace Sys2Proof.Machine

/-! ## The bytes of a frame -/

/-- The CRC of a frame is the number that its two bytes carry, the high byte first (R187). -/
theorem eq_ofNat_bytes_iff (c : BitVec 16) (hi lo : Byte) :
    c = BitVec.ofNat 16 ((0 * 256 + hi.toNat) * 256 + lo.toNat) ↔ hi = c.extractLsb' 8 8 ∧ lo = c.extractLsb' 0 8 := by
  have hc := c.isLt
  have hhi := hi.isLt
  have hlo := lo.isLt
  simp only [← BitVec.toNat_inj, BitVec.toNat_ofNat, BitVec.extractLsb'_toNat, Nat.shiftRight_eq_div_pow]
  omega

theorem length_byte {n : Nat} (h : n ≤ 32) : (BitVec.ofNat 8 n).toNat = n := by
  rw [BitVec.toNat_ofNat]
  omega

/-- How a complete frame is judged: by its CRC and its master number. -/
theorem dropCause_complete {mb code hi lo : Byte} {params : List Byte} (hlow : mb &&& 0x1F#8 = 0#8)
    (hlength : params.length ≤ 32) :
    let body := mb :: code :: BitVec.ofNat 8 params.length :: params
    let good := hi = (crc16 body).extractLsb' 8 8 ∧ lo = (crc16 body).extractLsb' 0 8
    dropCause (body ++ [hi, lo]) =
      if ¬ good ∧ 192 ≤ mb.toNat then some (if Config.crcCauseFirst then .crc else .masterNumber)
      else if ¬ good then some .crc
      else if 192 ≤ mb.toNat then some .masterNumber
      else none := by
  have hbytes := eq_ofNat_bytes_iff (crc16 (mb :: code :: BitVec.ofNat 8 params.length :: params)) hi lo
  have hmaster : 6 ≤ mb.toNat / 32 ↔ 192 ≤ mb.toNat := by omega
  have hshort : ¬ 32 < params.length := by omega
  simp only [dropCause, List.cons_append, hlow, ne_eq, not_true_eq_false, if_false, length_byte hlength, gt_iff_lt,
    hshort, List.length_append, List.length_cons, List.length_nil, List.take_left, List.drop_left, List.foldl_cons,
    List.foldl_nil, hbytes, hmaster]

theorem master_byte (m : Master) : (BitVec.ofNat 8 (32 * m.val)).toNat = 32 * m.val := by
  rw [BitVec.toNat_ofNat]
  omega

theorem master_byte_low (m : Master) : BitVec.ofNat 8 (32 * m.val) &&& 0x1F#8 = 0#8 := by
  revert m
  decide

/-! ## Checked frames -/

/-- A command or event is the request that master `m` makes with code `n`. -/
def IsRequestOf (m : Master) (n : Nat) (i : Instr) : Prop :=
  match i.request with
  | some r => r.1 = m ∧ r.2.code = n
  | none => i = .unknownCommandCode m n ∧ (n = 0 ∨ 50 < n)

/-- The request of a code is a command of that code, of the master that sent it, or it is an unknown code. -/
theorem decodeRequest_isRequestOf (m : Master) (n : Nat) (bs : List Byte) :
    IsRequestOf m n (decodeRequest m n bs) := by
  unfold decodeRequest
  split
  case h_51 =>
    refine ⟨rfl, ?_⟩
    by_contra hn
    obtain ⟨hlow, hhigh⟩ : 1 ≤ n ∧ n ≤ 50 := by omega
    interval_cases n <;> contradiction
  all_goals exact ⟨rfl, rfl⟩

/-- A frame that no fault drops is the request of its master. -/
theorem decodeFrame_checked {m : Master} {code hi lo : Byte} {params : List Byte} (hlength : params.length ≤ 32)
    (hcause : dropCause (BitVec.ofNat 8 (32 * m.val) :: code :: BitVec.ofNat 8 params.length :: params ++ [hi, lo]) =
      none) :
    decodeFrame (0xC3#8 :: (BitVec.ofNat 8 (32 * m.val) :: code :: BitVec.ofNat 8 params.length :: params ++ [hi, lo])) =
      some (decodeRequest m code.toNat params) := by
  have hm : 32 * m.val / 32 = m.val := by omega
  unfold decodeFrame
  simp only [ne_eq, not_true_eq_false, if_false, hcause]
  simp only [List.cons_append, length_byte hlength, List.length_append, List.length_cons, List.length_nil,
    List.take_left, if_true, master_byte, hm, m.isLt, dif_pos]

/-- Settles O3 (R174, R176, R187, R189). -/
theorem checkedFramesAreRequests : Obligations.CheckedFramesAreRequests := by
  intro m code params hlength
  refine ⟨decodeFrame_checked hlength ?_, decodeRequest_isRequestOf m code.toNat params⟩
  have hm : ¬ 192 ≤ 32 * m.val := by omega
  simp only [dropCause_complete (master_byte_low m) hlength, master_byte, hm, and_true, not_true_eq_false, and_false,
    if_false]

/-! ## Dropped frames -/

theorem exec_frameDropped {frame : List Byte} {c : DropCause} {s : State} (hpower : s.powered = true)
    (hc : dropCause frame = some c) : exec (.frameDropped frame) s = .next ((dropFrame c s).setReply none) := by
  simp only [exec, execFrameDropped, happen, hpower, if_true, hc, dropFor]

theorem exec_byteGapTimeout {s : State} (hpower : s.powered = true) :
    exec .byteGapTimeout s = .next ((dropFrame .malformed s).setReply none) := by
  simp only [exec, execByteGapTimeout, happen, hpower, if_true]

theorem dropFrame_only (c : DropCause) (s : State) : OnlyChanges [.port, .reply] s ((dropFrame c s).setReply none) :=
  ((setPort_only s _).mono (by simp)).then (setReply_only _ _) (by simp)

/-- Settles O4 (R175). -/
theorem framesAreDropped : Obligations.FramesAreDropped := by
  refine ⟨fun mb rest hlow => ?_, fun mb code len rest hlow hlen => ?_, fun mb code hi lo params hlow hlength => ?_,
    fun frame c s hpower hc => ?_, fun s hpower => ?_⟩
  · simp only [dropCause, hlow, ne_eq, not_false_eq_true, if_true]
  · simp only [dropCause, hlow, ne_eq, not_true_eq_false, if_false, gt_iff_lt, hlen, if_true]
  · simp only [dropCause_complete hlow hlength]
    refine ⟨fun h => ?_, fun h => ?_, fun h => ?_, fun h => ?_⟩
    · simp [h.1, Nat.not_le.mpr h.2]
    · simp [h.1, h.2]
    · simp only [h.1, Nat.not_le.mpr h.2, and_false, if_false, not_false_eq_true, if_true]
    · rw [if_pos h]
      cases Config.crcCauseFirst
      · exact .inr rfl
      · exact .inl rfl
  · exact ⟨_, exec_frameDropped hpower hc, dropFrame_only c s, rfl, rfl⟩
  · exact ⟨_, exec_byteGapTimeout hpower, dropFrame_only _ s, rfl, rfl⟩

end Sys2Proof.Machine


/-! PROOF. What the reads answer (R16, R18, R29, R44, R58, R59, R75, R90, R114, R134, R150, R170, R183). -/

namespace Sys2Proof.Machine

/-! ## Reads are open to every class -/

/-- With power a command open to every class answers by its own rule. -/
theorem serve_all {k : Command} (hk : k ∈ openToAll) (m : Master) (body : State → State × Answer) {s : State}
    (hpower : s.powered = true) : serve m k body s = .next (respond m k.code (body s)) :=
  serve_open m k body s hpower (mayUse_all hk _)

theorem serve_all_done {k : Command} (hk : k ∈ openToAll) (m : Master) {body : State → State × Answer} {s : State}
    {d : ReplyData} (hpower : s.powered = true) (hbody : body s = done d s) :
    serve m k body s = .next (sendReply m (.done d) s) := by
  rw [serve_all hk m body hpower, hbody, done, respond_done]

/-- With power and a complete profile such a command answers by its own rule. -/
theorem serve_all_complete {k : Command} (hk : k ∈ openToAll) (m : Master) {body : State → State × Answer} {s : State}
    {d : ReplyData} (hpower : s.powered = true) (hcomplete : s.profile.complete = true) (hbody : body s = done d s) :
    serve m k (whenComplete body) s = .next (sendReply m (.done d) s) :=
  serve_all_done hk m hpower (by rw [whenComplete_complete _ hcomplete, hbody])

/-! ## READ PROFILE (R16) -/

theorem count_of_line_none {p : Profile} (h : p.line = none) : p.count = 0 := by rw [Profile.count, h]

theorem line_ne_none {p : Profile} {i : Nat} (h : i < p.count) : p.line ≠ none :=
  fun hnone => by rw [count_of_line_none hnone] at h; omega

theorem lineEnd_of_line {p : Profile} {d : LineDef} (h : p.line = some d) : p.lineEnd = d.lineEnd := by
  rw [Profile.lineEnd, h]

theorem count_of_line {p : Profile} {d : LineDef} (h : p.line = some d) : p.count = d.count := by
  rw [Profile.count, h]

@[simp] theorem masterIndex_val (k : Master) : masterIndex k.val = some k := dif_pos k.isLt

@[simp] theorem watchIndex_val (k : Fin 16) : watchIndex k.val = some k := dif_pos k.isLt

@[simp] theorem channelIndex_val (k : Fin 8) : channelIndex k.val = some k := dif_pos k.isLt

section

variable {α : Type} {limit count i : Nat} {o : Option α} {x : α} {f : α → ReplyData} {s : State}

theorem readItem_defined (h : o = some x) : readItem o f s = done (f x) s := by
  subst h
  rfl

theorem readItem_undefined (h : o = none) : readItem o f s = refuse .noSuch s := by
  subst h
  rfl

theorem readLineItem_within (hline : s.profile.line ≠ none) (hi : i < count) :
    readLineItem limit count i o f s = readItem o f s := by
  rw [readLineItem, if_neg (fun h => hline (Option.isNone_iff_eq_none.mp h.1)), if_pos hi]

theorem readLineItem_outside (hi : count ≤ i) (hline : s.profile.line ≠ none ∨ limit ≤ i) :
    readLineItem limit count i o f s = refuse .range s := by
  have hdefined : ¬ (s.profile.line.isNone = true ∧ i < limit) := by
    rintro ⟨hnone, hlimit⟩
    exact hline.elim (fun h => h (Option.isNone_iff_eq_none.mp hnone)) (by omega)
  rw [readLineItem, if_neg hdefined, if_neg (by omega)]

theorem readLineItem_noLine (hline : s.profile.line = none) (hi : i < limit) :
    readLineItem limit count i o f s = refuse undefinedLineReason s := by
  rw [readLineItem, if_pos ⟨Option.isNone_iff_eq_none.mpr hline, hi⟩]

end

theorem undefinedLineReason_free : undefinedLineReason = .range ∨ undefinedLineReason = .noSuch := by
  unfold undefinedLineReason
  split <;> simp

/-- While the store is IDLE, READ PROFILE answers by its own rule. -/
theorem exec_readProfile_idle {m : Master} {s : State} (sel : ProfileSel) (hpower : s.powered = true)
    (hidle : s.store.writing = none) :
    exec (.readProfile m (some sel)) s = .next (respond m Command.readProfile.code (readProfile sel s)) :=
  (serve_all (k := .readProfile) (by decide) m (whenIdle (withParams (some sel) readProfile)) hpower).trans
    (by rw [whenIdle_idle _ hidle, withParams_some])

/-- Settles O12 (R16): each selector answers with its item, or is refused for the reason of its range. -/
theorem readProfileAnswers : Obligations.ReadProfileAnswers := by
  intro m s hpower hidle
  dsimp only
  have hdone : ∀ {sel : ProfileSel} {d : ReplyData}, readProfile sel s = done d s →
      exec (.readProfile m (some sel)) s = .next (sendReply m (.done d) s) := by
    intro sel d h
    rw [exec_readProfile_idle sel hpower hidle, h, done, respond_done]
  have hrefused : ∀ {sel : ProfileSel} {r : Reason}, readProfile sel s = refuse r s →
      Refuses (.readProfile m (some sel)) r s := fun {sel r} h =>
    refuses_of rfl ((exec_readProfile_idle sel hpower hidle).trans (by rw [h, refuse]))
  refine ⟨fun d hd => hdone (readItem_defined hd),
    fun i st hi hst => hdone ((readLineItem_within (line_ne_none hi) hi).trans (readItem_defined hst)),
    fun i r hi hr => hdone ((readLineItem_within (line_ne_none hi) (by omega)).trans (readItem_defined hr)),
    fun i g d hi hd hg => hdone ?_, hdone rfl, hdone rfl, hdone rfl, fun k => hdone ?_, fun k => hdone ?_,
    fun k => hdone ?_, hdone rfl, fun hnone => hrefused (readItem_undefined hnone),
    fun i hi hline => hrefused (readLineItem_outside hi hline),
    fun i hi hline => hrefused (readLineItem_outside (by omega) hline),
    fun i hnone hi => ⟨undefinedLineReason, undefinedLineReason_free,
      hrefused (readLineItem_noLine hnone (by omega)), fun hreach => hrefused (readLineItem_noLine hnone (by omega))⟩,
    fun i hi hst hline => hrefused ((readLineItem_within hline hi).trans (readItem_undefined hst)),
    fun i hi hr hline => hrefused ((readLineItem_within hline (by omega)).trans (readItem_undefined hr)),
    fun i hi hg => hrefused ?_, fun i hi => hrefused ?_⟩
  · have hend : s.profile.isReceive i = (g.chainage == d.lineEnd) := by rw [Profile.isReceive, hd, hg]
    simp only [readProfile, if_pos hi, hend]
    exact readItem_defined hg
  · simp only [readProfile, masterIndex_val]
  · simp only [readProfile, watchIndex_val]
  · simp only [readProfile, channelIndex_val]
  · simp only [readProfile, if_pos hi]
    exact readItem_undefined hg
  · simp only [readProfile, if_neg (show ¬ i ≤ 31 by omega)]

/-! ## The tables (R29, R44, R75, R90, R114) -/

theorem flowAt_val (s : State) (r : Fin 15) : s.flowAt r.val = s.tracker.flows[r] := by
  simp [State.flowAt]

theorem input_val (s : State) (c : Fin 8) : s.input c.val = s.inputUnit.inputs[c] := by
  simp [State.input]

section ZeroFlow

variable {s : State} {r : Nat}

theorem zeroCause_eq_none_iff :
    zeroCause s r = none ↔ (s.flowAt r).state ≠ .lapsed ∧ (s.valveClosed r || s.valveClosed (r + 1)) = false := by
  simp only [zeroCause, ne_eq, ← Bool.not_eq_true]
  split
  · next h => simp [h]
  · next h =>
    split
    · next hclosed => simp [hclosed]
    · next hopen => simp [h, hopen]

theorem zeroCause_lapsed (hstate : (s.flowAt r).state = .lapsed)
    (hopen : (s.valveClosed r || s.valveClosed (r + 1)) = false) : zeroCause s r = some .lapsed := by
  simp only [zeroCause, if_pos hstate, hopen, Bool.false_eq_true, if_false]

theorem zeroCause_closed (hstate : (s.flowAt r).state ≠ .lapsed)
    (hclosed : (s.valveClosed r || s.valveClosed (r + 1)) = true) : zeroCause s r = some .valveClosed := by
  simp only [zeroCause, if_neg hstate, hclosed, if_true]

/-- The effective flow of a reach is its flow, or 0 where a cause makes it so (R43). -/
theorem effectiveFlow_eq (s : State) (r : Nat) : effectiveFlow s r =
    if (s.flowAt r).state = .lapsed ∨ (s.valveClosed r || s.valveClosed (r + 1)) = true then 0
    else (s.flowAt r).flow := by
  rw [effectiveFlow]
  split
  · next cause h =>
    rw [if_pos]
    by_contra hcause
    rw [not_or, Bool.not_eq_true] at hcause
    rw [zeroCause_eq_none_iff.mpr hcause] at h
    cases h
  · next h =>
    obtain ⟨hstate, hopen⟩ := zeroCause_eq_none_iff.mp h
    rw [if_neg (by simp [hstate, hopen])]

end ZeroFlow

theorem readPlace_held {α : Type} {l : List α} {limit k : Nat} {f : α → ReplyData} {x : α} {s : State} (hk : k < limit)
    (hx : l[k]? = some x) : readPlace l limit (k + 1) f s = done (f x) s := by
  have hin : within 1 limit (k + 1) = true := within_iff.mpr ⟨by omega, by omega⟩
  simp only [readPlace, hin, if_true, Nat.add_sub_cancel, hx]

theorem withPig_held {tag : Nat} {p : Pig} {s : State} (body : Pig → State → State × Answer) (htag : 1 ≤ tag)
    (hp : s.register.find tag = some p) : withPig tag body s = body p s := by
  simp only [withPig, if_neg (show ¬ tag = 0 by omega), hp]

theorem withPig_absent {tag : Nat} {s : State} (body : Pig → State → State × Answer) (htag : 1 ≤ tag)
    (hp : s.register.find tag = none) : withPig tag body s = refuse .noSuch s := by
  simp only [withPig, if_neg (show ¬ tag = 0 by omega), hp]

/-- Settles O13 (R29, R44, R75, R90, R114): each read answers with what the state holds. -/
theorem tableReadsAnswer : Obligations.TableReadsAnswer := by
  intro m s hpower hcomplete
  dsimp only
  have hserve : ∀ {k : Command} {body : State → State × Answer} {d : ReplyData}, k ∈ openToAll → body s = done d s →
      serve m k (whenComplete body) s = .next (sendReply m (.done d) s) := fun hk hbody =>
    serve_all_complete hk m hpower hcomplete hbody
  refine ⟨fun tag p htag hp => ?_, fun r hr rc hrc => ?_, ?_, ?_, fun k e hk he => ?_, fun n g hn hg => ?_,
    fun c => ?_, ?_, fun k e hk he => ?_, fun n g hn hg => ?_⟩
  · exact hserve (k := .readPig) (body := withParams (some tag) readPig) (by decide) (withPig_held _ htag hp)
  · refine ⟨zeroCause s r.val, hserve (k := .readFlow) (body := withParams (some (some r.val)) readFlow) (by decide) ?_,
      ?_, fun hstate hopen => zeroCause_lapsed ((congrArg FlowEntry.state (flowAt_val s r)).trans hstate) hopen,
      fun hstate hclosed => zeroCause_closed (fun h => hstate ((congrArg FlowEntry.state (flowAt_val s r)).symm.trans h))
        hclosed⟩
    · have hindex := reachIndex_eq_some_iff.mpr ⟨rfl, hr⟩
      simp only [withParams_some, readFlow, hindex, velocityIn, fluidVelocity, hrc, Option.map_some, Option.getD_some,
        effectiveFlow_eq, flowAt_val]
    · rw [zeroCause_eq_none_iff, flowAt_val]
  · exact hserve (k := .readFlow) (body := withParams (some none) readFlow) (by decide) rfl
  · exact hserve (k := .readIntake) (body := withParams (some .summary) readIntake) (by decide) rfl
  · refine hserve (k := .readIntake) (body := withParams (some (.entry (k + 1))) readIntake) (by decide) ?_
    exact readPlace_held hk he
  · refine hserve (k := .readIntake) (body := withParams (some (.signaller n)) readIntake) (by decide) ?_
    simp only [withParams_some, readIntake, if_neg (show ¬ 31 < n by omega), hg, Option.isNone_some,
      Bool.false_eq_true, if_false]
  · refine hserve (k := .readChannel) (body := withParams (some c.val) readChannel) (by decide) ?_
    simp only [withParams_some, readChannel, channelIndex_val, input_val, State.chanCfg, State.channel]
    rfl
  · exact hserve (k := .readMatching) (body := withParams (some .summary) readMatching) (by decide) rfl
  · refine hserve (k := .readMatching) (body := withParams (some (.unmatched (k + 1))) readMatching) (by decide) ?_
    exact readPlace_held hk he
  · refine hserve (k := .readMatching) (body := withParams (some (.signaller n)) readMatching) (by decide) ?_
    have hdefined : s.profile.signaller? (⟨n, by omega⟩ : Fin 32).val ≠ none := by rw [hg]; exact Option.some_ne_none _
    exact withSignaller_defined (k := ⟨n, by omega⟩) _ hdefined

/-! ## The units (R134, R150, R170, R183) -/

/-- WATCH is the seventh member of a hold set. -/
theorem watchMember_eq (h : HoldSet) : (h &&& watchBit != 0#7) = h.getLsbD 6 := by
  revert h
  decide

/-- The stations of the line are the first ones. -/
theorem stations_eq_take (s : State) : s.stations = (List.finRange 16).take s.profile.count := by
  have hsmall : ∀ n : Fin 17, (List.finRange 16).filter (fun st => st.val < n.val) = (List.finRange 16).take n := by
    decide
  rcases Nat.lt_or_ge s.profile.count 17 with h | h
  · exact hsmall ⟨s.profile.count, h⟩
  · rw [State.stations, List.take_of_length_le (by rw [List.length_finRange]; omega), List.filter_eq_self]
    intro st _
    exact decide_eq_true (by omega)

theorem stations_length (s : State) : s.stations.length = min s.profile.count 16 := by
  rw [stations_eq_take, List.length_take, List.length_finRange]

theorem stations_getElem? {s : State} {st : Fin 16} (h : st.val < s.profile.count) : s.stations[st.val]? = some st := by
  rw [stations_eq_take, List.getElem?_take_of_lt h]
  simp

/-- Settles O14 (R134, R150, R170, R183): each read answers with what the state holds. -/
theorem unitReadsAnswer : Obligations.UnitReadsAnswer := by
  intro m s hpower
  refine ⟨fun hcomplete => ?_, serve_all_done (k := .readAttention)
      (body := withParams (some none) (readAttention m)) (by decide) m hpower rfl,
    fun k => serve_all_done (k := .readAttention) (body := withParams (some (some k)) (readAttention m))
      (by decide) m hpower rfl⟩
  have hserve : ∀ {k : Command} {body : State → State × Answer} {d : ReplyData}, k ∈ openToAll → body s = done d s →
      serve m k (whenComplete body) s = .next (sendReply m (.done d) s) := fun hk hbody =>
    serve_all_complete hk m hpower hcomplete hbody
  refine ⟨fun st x hst hx => ?_, ⟨s.stations.map fun st => valveLine s.valves[st], ?_, fun st hst => ?_, ?_⟩,
    fun st => ?_, ?_, ?_⟩
  · refine hserve (k := .readValve) (body := withParams (some (some st.val)) readValve) (by decide) ?_
    simp only [withParams_some, readValve, withStation_inside _ hst, hx, Nat.cast_add]
    rfl
  · rw [List.length_map, stations_length]
  · refine ⟨valveLine s.valves[st], ?_, rfl, rfl, rfl, watchMember_eq _, rfl⟩
    rw [List.getElem?_map, stations_getElem? hst, Option.map_some]
  · exact hserve (k := .readValve) (body := withParams (some none) readValve) (by decide) rfl
  · refine hserve (k := .readWatch) (body := withParams (some st.val) readWatch) (by decide) ?_
    simp only [withParams_some, readWatch, withWatch, watchIndex_val, watchMember_eq]
  · exact hserve (k := .readTrap) (body := withParams (some .launch) readTrap) (by decide) rfl
  · exact hserve (k := .readTrap) (body := withParams (some .receive) readTrap) (by decide) rfl

/-! ## The region of a chainage (R18) -/

theorem find?_range_eq_some {n i : Nat} {f : Nat → Bool} (hi : i < n) (h : f i = true) (hbefore : ∀ j < i, f j = false) :
    (List.range n).find? f = some i := by
  rw [List.find?_range_eq_some]
  exact ⟨h, List.mem_range.mpr hi, fun j hj => by rw [hbefore j hj]; rfl⟩

section Region

variable {p : Profile} {r : Nat} {a b : Station} {c : Nat}

/-- In the line the stations rise, with zones that do not touch (R7). -/
def Profile.ZonesApart (p : Profile) : Prop :=
  ∀ (i j : Nat) a b, i < j → j < p.count → p.station? i = some a → p.station? j = some b →
    a.chainage + a.halfWidth + b.halfWidth < b.chainage

/-- The reach of a chainage between two stations (R48). -/
theorem reachAt_between (hzones : p.ZonesApart) (ha : p.station? r = some a) (hb : p.station? (r + 1) = some b)
    (hr : r + 1 < p.count) (hlow : a.chainage ≤ c) (hhigh : c < b.chainage) : p.reachAt (c * 1000) = some r := by
  refine find?_range_eq_some (by omega) ?_ fun j hj => ?_
  · simp only [Profile.reachHolds, ha, hb, Bool.and_eq_true, Bool.or_eq_true, decide_eq_true_iff]
    omega
  · unfold Profile.reachHolds
    split
    · next x y hx hy =>
      have hbelow : y.chainage ≤ a.chainage := by
        rcases Nat.lt_or_eq_of_le (show j + 1 ≤ r by omega) with h | rfl
        · have := hzones (j + 1) r y a h (by omega) hy ha
          omega
        · rw [ha] at hy
          cases hy
          exact le_rfl
      have hlast : (j + 2 == p.count) = false := beq_eq_false_iff_ne.mpr (by omega)
      simp only [hlast, Bool.false_and, Bool.or_false, Bool.and_eq_false_iff, decide_eq_false_iff_not]
      omega
    · rfl

theorem zoneHolds_iff {i : Nat} {x : Station} (hx : p.station? i = some x) :
    p.zoneHolds c i = true ↔ x.chainage ≤ c + x.halfWidth ∧ c ≤ x.chainage + x.halfWidth := by
  simp only [Profile.zoneHolds, hx, Bool.and_eq_true, decide_eq_true_iff]

/-- A chainage at or past a station's zone start lies past the zones of the stations before it. -/
theorem zoneHolds_before {i : Nat} (hzones : p.ZonesApart) {k : Nat} {x : Station} (hx : p.station? k = some x)
    (hk : k < p.count) (hlow : x.chainage ≤ c + x.halfWidth) (hi : i < k) : p.zoneHolds c i = false := by
  unfold Profile.zoneHolds
  split
  · next y hy =>
    have := hzones i k y x hi hk hy hx
    simp only [Bool.and_eq_false_iff, decide_eq_false_iff_not]
    omega
  · rfl

theorem zoneAt_within (hzones : p.ZonesApart) {k : Nat} {x : Station} (hx : p.station? k = some x) (hk : k < p.count)
    (hlow : x.chainage ≤ c + x.halfWidth) (hhigh : c ≤ x.chainage + x.halfWidth) : p.zoneAt c = some k :=
  find?_range_eq_some hk ((zoneHolds_iff hx).mpr ⟨hlow, hhigh⟩) fun _ => zoneHolds_before hzones hx hk hlow

/-- Between the zones of two stations lies no zone. -/
theorem zoneAt_between (hzones : p.ZonesApart) (ha : p.station? r = some a) (hb : p.station? (r + 1) = some b)
    (hr : r + 1 < p.count) (hlow : a.chainage + a.halfWidth < c) (hhigh : c + b.halfWidth < b.chainage) :
    p.zoneAt c = none := by
  refine List.find?_eq_none.mpr fun i hi => ?_
  rw [List.mem_range] at hi
  rw [Bool.not_eq_true]
  rcases Nat.lt_trichotomy i r with h | rfl | h
  · exact zoneHolds_before hzones ha (by omega) (by omega) h
  · rw [Bool.eq_false_iff, ne_eq, zoneHolds_iff ha]
    omega
  · unfold Profile.zoneHolds
    split
    · next y hy =>
      rcases Nat.lt_or_eq_of_le (show r + 1 ≤ i by omega) with hlt | rfl
      · have := hzones (r + 1) i b y hlt hi hb hy
        simp only [Bool.and_eq_false_iff, decide_eq_false_iff_not]
        omega
      · rw [hb] at hy
        cases hy
        simp only [Bool.and_eq_false_iff, decide_eq_false_iff_not]
        omega
    · rfl

end Region

@[simp] theorem chainageOk_iff {c : Nat} : chainageOk c = true ↔ c ≤ 999999 := decide_eq_true_iff

/-- DECODE CHAINAGE of a chainage in range, with the profile complete, answers by the region. -/
theorem exec_decodeChainage {m : Master} {c : Nat} {s : State} {d : ReplyData} (hpower : s.powered = true)
    (hcomplete : s.profile.complete = true) (hc : c ≤ 999999) (hplace : placeChainage c s = done d s) :
    exec (.decodeChainage m (some c)) s = .next (sendReply m (.done d) s) := by
  refine serve_all_done (k := .decodeChainage) (body := withParams (some c) decodeChainage) (by decide) m hpower ?_
  rw [withParams_some, decodeChainage, if_pos (chainageOk_iff.mpr hc), whenComplete_complete _ hcomplete, hplace]

/-- A region other than the receive trap is answered with the chainage and its reach. -/
theorem placeChainage_region {c r : Nat} {s : State} {x : Region} (hend : c ≤ s.profile.lineEnd)
    (hx : s.profile.regionOf c = some x) (hreceive : x ≠ .receiveTrap) (hr : s.profile.reachAt (c * 1000) = some r) :
    placeChainage c s = done (.region x c false (some r)) s := by
  simp only [placeChainage, hx, hr, Nat.min_eq_left hend]

/-- Settles O15 (R18): the two refusals in their order, and the region by the fixed priority. -/
theorem decodeChainageAnswers : Obligations.DecodeChainageAnswers := by
  refine ⟨fun m c s hpower => ⟨fun hc => ?_, fun hc hincomplete => ?_⟩,
    fun m c s g d hpower hcomplete hg hd hapart hgd => ?_⟩
  · refine refuses_of rfl ((serve_all (k := .decodeChainage) (by decide) m (withParams (some c) decodeChainage)
      hpower).trans ?_)
    rw [withParams_some, decodeChainage, if_neg (by rw [chainageOk_iff]; omega), refuse]
  · refine refuses_of rfl ((serve_all (k := .decodeChainage) (by decide) m (withParams (some c) decodeChainage)
      hpower).trans ?_)
    rw [withParams_some, decodeChainage, if_pos (chainageOk_iff.mpr hc), whenComplete_incomplete _ hincomplete, refuse]
  have hend : s.profile.lineEnd = d.lineEnd := lineEnd_of_line hd
  have hzones : s.profile.ZonesApart := by
    rw [Profile.ZonesApart, count_of_line hd]
    exact hapart
  have hregion : ∀ x, s.profile.regionOf x =
      if x < g.chainage then some .launchTrap
      else if d.lineEnd ≤ x then some .receiveTrap
      else match s.profile.zoneAt x with
        | some i => some (.valveZone i)
        | none => (s.profile.reachAt (x * 1000)).map .reach := by
    intro x
    rw [Profile.regionOf, hg, hend]
    rfl
  refine fun hc => ⟨fun hpast => exec_decodeChainage hpower hcomplete hc ?_, fun r a b hin ha hb hr hlow hhigh => ?_⟩
  · simp only [placeChainage, hregion, if_neg (show ¬ c < g.chainage by omega), if_pos hpast, hend,
      Nat.min_eq_right hpast]
  rw [← count_of_line hd] at hr
  have hreach := reachAt_between hzones ha hb hr hlow hhigh
  have hplace : ∀ {x}, s.profile.regionOf c = some x → x ≠ .receiveTrap →
      exec (.decodeChainage m (some c)) s = .next (sendReply m (.done (.region x c false (some r))) s) :=
    fun hx hne => exec_decodeChainage hpower hcomplete hc (placeChainage_region (by omega) hx hne hreach)
  have hwithin : g.chainage ≤ c → s.profile.regionOf c =
      match s.profile.zoneAt c with
      | some i => some (.valveZone i)
      | none => some (.reach r) := by
    intro hg
    rw [hregion, if_neg (by omega), if_neg (by omega), hreach]
    rfl
  refine ⟨fun hbelow => hplace (by rw [hregion, if_pos hbelow]) (by simp),
    fun hg hzone => hplace ((hwithin hg).trans (by rw [zoneAt_within hzones ha (by omega) (by omega) hzone])) (by simp),
    fun hg hzone => hplace ((hwithin hg).trans (by rw [zoneAt_within hzones hb hr hzone (by omega)])) (by simp),
    fun hg hafter hbefore =>
      hplace ((hwithin hg).trans (by rw [zoneAt_between hzones ha hb hr hafter hbefore])) (by simp)⟩

/-! ## The time of arrival (R58, R59) -/

/-- The time of arrival is the least number of seconds in which the speed covers the distance (R59). -/
theorem etaOver_least (dist speed : Nat) (h : speed ≠ 0) :
    ∃ n, etaOver dist speed = some n ∧ dist ≤ n * speed ∧ ∀ k, dist ≤ k * speed → n ≤ k := by
  have hpos : 0 < speed := Nat.pos_of_ne_zero h
  refine ⟨(dist + speed - 1) / speed, if_neg h, ?_, fun k hk => ?_⟩
  · have hdiv := Nat.div_add_mod (dist + speed - 1) speed
    have hmod := Nat.mod_lt (dist + speed - 1) hpos
    rw [Nat.mul_comm]
    omega
  · refine Nat.lt_succ_iff.mp ((Nat.div_lt_iff_lt_mul hpos).mpr ?_)
    rw [Nat.succ_mul]
    omega

theorem inLine_eq_false_iff {x : PigStatus} : x.inLine = false ↔ x = .staged ∨ x = .arrived := by
  cases x <;> decide

/-- With a complete profile QUERY ETA answers by its own rule. -/
theorem exec_queryEta {m : Master} {x : TagChainage} {s : State} (hpower : s.powered = true)
    (hcomplete : s.profile.complete = true) :
    exec (.queryEta m (some x)) s = .next (respond m Command.queryEta.code (queryEta x s)) :=
  (serve_all (k := .queryEta) (by decide) m (whenComplete (withParams (some x) queryEta)) hpower).trans
    (by rw [whenComplete_complete _ hcomplete, withParams_some])

/-- Settles O16 (R58, R59). -/
theorem queryEtaAnswers : Obligations.QueryEtaAnswers := by
  intro m tag c p s hpower hcomplete htag hp
  have hexec := exec_queryEta (m := m) (x := ⟨tag, c⟩) hpower hcomplete
  have hrefused : ∀ {r : Reason}, queryEta ⟨tag, c⟩ s = refuse r s → Refuses (.queryEta m (some ⟨tag, c⟩)) r s :=
    fun h => refuses_of rfl (hexec.trans (by rw [h, refuse]))
  have hok : c ≤ 999999 → (!chainageOk c) = false := fun hc => by simp [hc]
  refine ⟨fun hc => hrefused ?_, fun hc hstatus => hrefused ?_, fun hc hstaged harrived => ?_⟩
  · rw [queryEta, if_pos (by rw [Bool.not_eq_true', Bool.eq_false_iff, ne_eq, chainageOk_iff]; exact Nat.not_le.mpr hc)]
  · simp only [queryEta, hok hc, Bool.false_eq_true, if_false, withPig_held _ htag hp,
      inLine_eq_false_iff.mpr hstatus, Bool.not_false, if_true]
  have hinLine : (!p.status.inLine) = false := by
    rw [Bool.not_eq_false', ← Bool.not_eq_false, inLine_eq_false_iff]
    simp [hstaged, harrived]
  refine ⟨fun hbelow => hrefused ?_, fun hbelow => ⟨etaOver (min c s.profile.lineEnd * 1000 - p.position) p.speed, ?_,
    fun hspeed => if_pos hspeed, etaOver_least _ _⟩⟩
  · simp only [queryEta, hok hc, Bool.false_eq_true, if_false, withPig_held _ htag hp, hinLine, if_pos hbelow]
  · rw [hexec]
    simp only [queryEta, hok hc, Bool.false_eq_true, if_false, withPig_held _ htag hp, hinLine,
      if_neg (Nat.not_lt.mpr hbelow), done, respond_done]

end Sys2Proof.Machine


/-! PROOF. The register's commands: the cursor, SET RATIO, CONFIRM and STAGE PIG (R20 to R24, R30 to R36, R164). -/

namespace Sys2Proof.Machine

/-! ## Answers of a rule behind the checks of the port (R15, R178) -/

section Able

variable {i : Instr} {m : Master} {k : Command} {l : List MasterClass} {body : State → State × Answer} {s t : State}

/-- A refusal of a command's own rule, with the profile complete and the class open. -/
theorem refuses_able {r : Reason} (hi : i.request = some (m, k)) (hexec : exec i s = serve m k (whenComplete body) s)
    (hk : ∀ c, mayUse c k = true ↔ c ∈ l) (h : s.able m l) (hbody : body s = refuse r s) : Refuses i r s :=
  refuses_of hi (hexec.trans ((serve_able body hk h).trans (by rw [hbody, refuse])))

/-- A command that its own rule answers DONE, with the profile complete and the class open. -/
theorem done_able {d : ReplyData} (hexec : exec i s = serve m k (whenComplete body) s)
    (hk : ∀ c, mayUse c k = true ↔ c ∈ l) (h : s.able m l) (hbody : body s = done d t) :
    exec i s = .next (sendReply m (.done d) t) :=
  hexec.trans ((serve_able body hk h).trans (by rw [hbody, done, respond_done]))

/-- A block of the reply alone is written after a rule that keeps it. -/
theorem OnlyChanges.replied {l : List Block} (h : OnlyChanges l s t) (m : Master) (a : Answer) :
    OnlyChanges (l ++ [.reply]) s (sendReply m a t) :=
  (h.mono fun _ hb => List.mem_append_left _ hb).trans ((sendReply_only m a t).mono (by simp))

end Able

/-! ## The view (R24) -/

section View

variable {r : Register} {p : Pig}

theorem find_of_mem (hnodup : r.tags.Nodup) (hp : p ∈ r.view) : r.find p.tag = some p := by
  obtain ⟨q, hq⟩ : ∃ q, r.find p.tag = some q :=
    Option.isSome_iff_exists.mp ((find_isSome_iff r p.tag).mpr (List.mem_map_of_mem hp))
  rw [hq, eq_of_find hnodup hq hp rfl]

theorem find_split {ahead behind : List Pig} (hview : r.view = ahead ++ p :: behind)
    (hahead : ∀ q ∈ ahead, q.tag ≠ p.tag) : r.find p.tag = some p := by
  rw [Register.find, hview, List.find?_append, List.find?_eq_none.mpr (by simpa using hahead)]
  simp

theorem ordinal_split {ahead behind : List Pig} (hview : r.view = ahead ++ p :: behind)
    (hahead : ∀ q ∈ ahead, q.tag ≠ p.tag) : r.ordinal p.tag = ahead.length + 1 := by
  rw [Register.ordinal, hview, List.findIdx_append, List.findIdx_eq_length.mpr (by simpa using hahead)]
  simp [List.findIdx_cons]

end View

/-! ## The cursor (R31 to R33) -/

/-- Where a read moves the cursor from a pig of the view (R32). -/
theorem stepCursor_split {r : Register} {p : Pig} {ahead behind : List Pig} (hview : r.view = ahead ++ p :: behind)
    (hahead : ∀ q ∈ ahead, q.tag ≠ p.tag) (mode : CursorMode) : r.stepCursor p.tag mode =
      match mode with
      | .towardLaunch => behind.head?.map (·.tag)
      | .towardReceive => ahead.getLast?.map (·.tag)
      | .hold => some p.tag := by
  have hordinal := ordinal_split hview hahead
  cases mode with
  | hold => rfl
  | towardLaunch =>
    simp only [Register.stepCursor, hordinal, hview]
    rw [List.getElem?_append_right (by omega)]
    simp [List.head?_eq_getElem?]
  | towardReceive =>
    simp only [Register.stepCursor, hordinal, hview]
    cases hlast : ahead.getLast? with
    | none => simp [List.getLast?_eq_none_iff.mp hlast]
    | some q =>
      have hpos : 0 < ahead.length := by
        cases ahead <;> simp at hlast ⊢
      rw [if_neg (by omega), show ahead.length + 1 - 2 = ahead.length - 1 by omega,
        List.getElem?_append_left (by omega), ← List.getLast?_eq_getElem?, hlast]

theorem cursorSet_tag (m : Master) (mode : CursorMode) (tag : Nat) (s : State) : cursorSet m ⟨mode, some tag⟩ s =
    withPig tag (fun _ s => done (.cursorTag (some tag)) (setCursor m (some tag) mode s)) s := rfl

/-- Settles O17 (R31 to R33). -/
theorem cursorCommands : Obligations.CursorCommands := by
  intro m s hpower hcomplete
  have hset : ∀ x, exec (.cursorSet m (some x)) s = .next (respond m Command.cursorSet.code (cursorSet m x s)) := fun x =>
    (serve_all (k := .cursorSet) (by decide) m (whenComplete (withParams (some x) (cursorSet m))) hpower).trans
      (by rw [whenComplete_complete _ hcomplete, withParams_some])
  have hread : exec (.cursorRead m (some ())) s = .next (respond m Command.cursorRead.code (cursorRead m () s)) :=
    (serve_all (k := .cursorRead) (by decide) m (whenComplete (withParams (some ()) (cursorRead m))) hpower).trans
      (by rw [whenComplete_complete _ hcomplete, withParams_some])
  refine ⟨fun mode tag p htag hp => ?_, fun mode tag hp => refuses_of rfl ((hset _).trans ?_), fun mode => ?_,
    fun hempty => ?_, fun ahead p behind hview hahead hcursor => ?_⟩
  · rw [hset, cursorSet_tag, withPig_held _ htag hp, done, respond_done]
    rfl
  · rcases Nat.eq_zero_or_pos tag with rfl | htag
    · rfl
    · rw [cursorSet_tag, withPig_absent _ htag hp, if_neg (by omega), refuse]
  · rw [hset, cursorSet, respond_done]
    cases mode <;> rfl
  · rw [hread, cursorRead, hempty, Option.bind_none, respond_end]
  · rw [hread, cursorRead, hcursor, Option.bind_some, find_split hview hahead, respond_done,
      stepCursor_split hview hahead]
    rfl

/-! ## SET RATIO and CONFIRM (R34, R36) -/

theorem mayUse_setRatio_iff (c : MasterClass) : mayUse c .setRatio = true ↔ c ∈ [MasterClass.dispatch] := by
  cases c <;> decide

theorem mayUse_confirm_iff (c : MasterClass) : mayUse c .confirm = true ↔ c ∈ [MasterClass.dispatch] := by
  cases c <;> decide

/-- The default ratio of a kind lies within the bounds of R20. -/
theorem ratioFrom_zero (k : PigKind) : ratioFrom k 0 = (k.defaultRatio, .learnt) := by
  cases k <;> decide

theorem ratioFrom_pos (k : PigKind) {r : Nat} (hr : 1 ≤ r) : ratioFrom k r = (max 100 (min r 1000), .manual) :=
  if_neg (by omega)

section Update

variable {r : Register} {p : Pig}

/-- A write to a pig of the line leaves every other record. -/
theorem update_inLine (hnodup : r.tags.Nodup) {ahead behind : List Pig} (hline : r.inLine = ahead ++ p :: behind)
    (f : Pig → Pig) : r.update p.tag f = { r with inLine := ahead ++ f p :: behind } := by
  rw [Register.tags_eq, hline, List.nodup_append, List.nodup_append] at hnodup
  simp only [List.map_append, List.map_cons] at hnodup
  obtain ⟨⟨-, hlist, hreceive⟩, -, hlaunch⟩ := hnodup
  rw [List.nodup_append, List.nodup_cons] at hlist
  obtain ⟨-, ⟨hbehind, -⟩, hahead⟩ := hlist
  have h1 : ∀ q ∈ r.receiveBarrel, q.tag ≠ p.tag := fun q hq =>
    hreceive _ (List.mem_map_of_mem hq) _ (by simp)
  have h2 : ∀ q ∈ r.launchBarrel, q.tag ≠ p.tag := fun q hq htag =>
    hlaunch p.tag (by simp) _ (List.mem_map_of_mem hq) htag.symm
  have h3 : ∀ q ∈ ahead, q.tag ≠ p.tag := fun q hq => hahead _ (List.mem_map_of_mem hq) _ (by simp)
  have h4 : ∀ q ∈ behind, q.tag ≠ p.tag := fun q hq htag => hbehind (htag ▸ List.mem_map_of_mem hq)
  simp only [Register.update, hline, List.map_append, List.map_cons, map_ite_tag_of_ne h1, map_ite_tag_of_ne h2,
    map_ite_tag_of_ne h3, map_ite_tag_of_ne h4, if_true]

/-- A write to a pig of a barrel leaves the line. -/
theorem update_barrel (hnodup : r.tags.Nodup) (hp : p ∈ r.launchBarrel ∨ p ∈ r.receiveBarrel) (f : Pig → Pig) :
    r.update p.tag f = { r with
      launchBarrel := r.launchBarrel.map fun x => if x.tag = p.tag then f p else x
      receiveBarrel := r.receiveBarrel.map fun x => if x.tag = p.tag then f p else x } := by
  have hview : p ∈ r.view := mem_view.mpr (hp.elim (fun h => .inr (.inr h)) .inl)
  have hfind := find_of_mem hnodup hview
  have hsame : ∀ q ∈ r.view, (if q.tag = p.tag then f q else q) = if q.tag = p.tag then f p else q := by
    intro q hq
    split
    · next htag => rw [eq_of_find hnodup hfind hq htag]
    · rfl
  have hline : ∀ q ∈ r.inLine, q.tag ≠ p.tag := by
    rw [Register.tags_eq, List.nodup_append, List.nodup_append] at hnodup
    obtain ⟨⟨-, -, hreceive⟩, -, hlaunch⟩ := hnodup
    intro q hq htag
    rcases hp with hp | hp
    · exact hlaunch q.tag (by simp [List.mem_map_of_mem hq]) _ (List.mem_map_of_mem hp) htag
    · exact hreceive _ (List.mem_map_of_mem hp) _ (List.mem_map_of_mem hq) htag.symm
  simp only [Register.update, map_ite_tag_of_ne hline,
    List.map_congr_left fun q hq => hsame q (mem_view.mpr (.inl hq)),
    List.map_congr_left fun q hq => hsame q (mem_view.mpr (.inr (.inr hq)))]

end Update

/-- SET RATIO of a tag writes the ratio that its kind and the value carried give. -/
theorem exec_setRatio {m : Master} {s : State} {p : Pig} (h : s.able m [.dispatch]) (htag : 1 ≤ p.tag)
    (hfind : s.register.find p.tag = some p) (ratio : Nat) :
    exec (.setRatio m (some ⟨p.tag, ratio⟩)) s =
      .next (sendReply m (.done (.ratioHeld (ratioFrom p.kind ratio).1 (ratioFrom p.kind ratio).2))
        (s.setRegister (s.register.update p.tag fun q =>
          { q with ratio := (ratioFrom p.kind ratio).1, source := (ratioFrom p.kind ratio).2 }))) :=
  done_able (body := withParams (some ⟨p.tag, ratio⟩) setRatio) rfl mayUse_setRatio_iff h
    (by rw [withParams_some, setRatio, withPig_held _ htag hfind]; rfl)

/-- The place that CONFIRM gives a pig, between the pigs beside it (R36). -/
theorem confirmedPosition_eq {s : State} {ahead behind : List Pig} {p : Pig}
    (hline : s.register.inLine = ahead ++ p :: behind) (hahead : ∀ q ∈ ahead, q.tag ≠ p.tag) (c : Nat) :
    confirmedPosition s p.tag c =
      min (match ahead.getLast? with
        | some q => min (q.position - 1000) (s.profile.lineEnd * 1000)
        | none => s.profile.lineEnd * 1000)
      (max (match behind.head? with | some q => q.position + 1000 | none => 0) (c * 1000)) := by
  have hfront : upperBound s (positionAhead none ahead) = match ahead.getLast? with
      | some q => min (q.position - 1000) (s.profile.lineEnd * 1000)
      | none => s.profile.lineEnd * 1000 := by
    unfold upperBound positionAhead
    cases ahead.getLast? with
    | none => exact Nat.min_self _
    | some q => rfl
  have hback : lowerBound (behind.head?.map (·.position)) = match behind.head? with
      | some q => q.position + 1000
      | none => 0 := by
    cases behind.head? <;> rfl
  simp only [confirmedPosition, hline, neighbours_eq hahead, hfront, hback]

/-- Settles O18 (R34, R36): a pig of the line by SET RATIO and CONFIRM, and a pig of a barrel by SET RATIO. -/
theorem ratioAndConfirm : Obligations.RatioAndConfirm := by
  refine ⟨fun m s ahead behind p hable htag hnodup hline => ?_, fun m s p ratio hable htag hnodup hp => ?_⟩
  · have hview : p ∈ s.register.view := mem_view.mpr (.inr (.inl (by simp [hline])))
    have hfind := find_of_mem hnodup hview
    have hahead : ∀ q ∈ ahead, q.tag ≠ p.tag := by
      intro q hq heq
      have hlist := inLine_nodup hnodup
      rw [hline, List.map_append, List.nodup_append] at hlist
      exact hlist.2.2 _ (List.mem_map_of_mem hq) p.tag (by simp) heq
    have hconfirm : ∀ {c}, c ≤ 999999 → (!chainageOk c) = false := fun hc => by simp [hc]
    refine ⟨fun ratio => ⟨_, (ratioFrom p.kind ratio).1, (ratioFrom p.kind ratio).2,
        exec_setRatio hable htag hfind ratio, (setRegister_only s _).replied m _, ?_, sendReply_replied m _ _,
        fun hzero => ?_, fun hpos => ?_⟩, fun hstalled hunverified c hc => ?_, fun hstatus c hc => ?_⟩
    · exact update_inLine hnodup hline _
    · rw [hzero, ratioFrom_zero]
      exact ⟨rfl, rfl⟩
    · rw [ratioFrom_pos _ hpos]
      exact ⟨rfl, rfl⟩
    · refine refuses_able (body := withParams (some ⟨p.tag, c⟩) confirm) rfl rfl mayUse_confirm_iff hable ?_
      simp only [withParams_some, confirm, hconfirm hc, Bool.false_eq_true, if_false, withPig_held _ htag hfind,
        hstalled, hunverified, or_self]
    · refine ⟨_, done_able (body := withParams (some ⟨p.tag, c⟩) confirm)
        (t := s.setRegister (s.register.update p.tag fun q => q.confirm (confirmedPosition s p.tag c) s.now))
        (d := .placed (confirmedPosition s p.tag c / 1000) (confirmedPosition s p.tag c != c * 1000)) rfl
        mayUse_confirm_iff hable ?_, (setRegister_only s _).replied m _, ?_, ?_⟩
      · simp only [withParams_some, confirm, hconfirm hc, Bool.false_eq_true, if_false, withPig_held _ htag hfind,
          if_pos hstatus]
        rfl
      · exact (update_inLine hnodup hline _).trans (by rw [confirmedPosition_eq hline hahead]; rfl)
      · rw [confirmedPosition_eq hline hahead]
        exact sendReply_replied m _ _
  · have hview : p ∈ s.register.view := mem_view.mpr (hp.elim (fun h => .inr (.inr h)) .inl)
    have hheld : ratioFrom p.kind ratio = (if ratio = 0 then p.kind.defaultRatio else max 100 (min ratio 1000),
        if ratio = 0 then RatioSource.learnt else .manual) := by
      rcases Nat.eq_zero_or_pos ratio with rfl | hpos
      · exact ratioFrom_zero _
      · rw [ratioFrom_pos _ hpos, if_neg (by omega), if_neg (by omega)]
    refine ⟨_, exec_setRatio hable htag (find_of_mem hnodup hview) ratio, (setRegister_only s _).replied m _, ?_, ?_⟩
    · rw [hheld]
      exact update_barrel hnodup hp _
    · rw [hheld]
      exact sendReply_replied m _ _

/-! ## STAGE PIG (R21 to R24, R164) -/

theorem mayUse_stagePig_iff (c : MasterClass) : mayUse c .stagePig = true ↔ c ∈ [MasterClass.trap, .link] := by
  cases c <;> decide

theorem tagAfter_eq {t : Nat} (hlow : 1 ≤ t) (hhigh : t ≤ 255) : tagAfter t = t % 255 + 1 := by
  unfold tagAfter
  split <;> omega

theorem size_eq_view (r : Register) : r.size = r.view.length := by
  simp [Register.size, Register.view, Nat.add_assoc]

/-- Settles O20 (R21 to R24, R164): the refusals in their order, and the record that the command makes. -/
theorem stagingMakesTheRecord : Obligations.StagingMakesTheRecord := by
  intro m x s hlaw hable
  have hrefused : ∀ {r}, stagePig x s = refuse r s → Refuses (.stagePig m (some x)) r s := fun h =>
    refuses_able (body := withParams (some x) stagePig) rfl rfl mayUse_stagePig_iff hable h
  refine ⟨fun hstate => hrefused (if_pos hstate), fun hstate => ⟨fun hstep => hrefused ?_, fun hstep => ⟨fun hfull =>
    hrefused ?_, fun hview hbarrel => ?_⟩⟩⟩
  · rw [stagePig, if_neg (not_not_intro hstate), if_pos (Option.isSome_iff_ne_none.mpr hstep)]
  · have hroom : (!s.register.hasRoom) = true := by
      simp only [Register.hasRoom, size_eq_view, Bool.not_eq_true', Bool.and_eq_false_iff, decide_eq_false_iff_not]
      omega
    rw [stagePig, if_neg (not_not_intro hstate), hstep, if_neg (by simp), if_pos hroom]
  · have hroom : (!s.register.hasRoom) = false := by
      simp only [Register.hasRoom, size_eq_view, Bool.not_eq_false', Bool.and_eq_true, decide_eq_true_iff]
      exact ⟨hview, hbarrel⟩
    obtain ⟨-, -, -, -, hlow, hhigh, -⟩ := hlaw
    obtain ⟨skipped, htag, hfree, htaken⟩ := newTag_free (r := s.register)
      (by rw [tags_length, size_eq_view]; omega) hlow hhigh
    have hrange : 1 ≤ s.register.newTag ∧ s.register.newTag ≤ 255 := by
      rw [htag, tagFrom]
      omega
    refine ⟨_, s.register.newTag, skipped, (ratioFrom x.kind (x.ratio.getD 0)).1, (ratioFrom x.kind (x.ratio.getD 0)).2,
      done_able (body := withParams (some x) stagePig) (t := s.setRegister (s.register.stage x))
        (d := .staged s.register.newTag (ratioFrom x.kind (x.ratio.getD 0)).1 (ratioFrom x.kind (x.ratio.getD 0)).2
          (s.register.launchBarrel.length + 1)) rfl mayUse_stagePig_iff hable ?_,
      (setRegister_only s _).replied m _, htag, fun p hp heq => hfree (heq ▸ List.mem_map_of_mem hp), fun k hk => ?_,
      ?_, fun hdefault => ?_, fun r hr hpos => ?_, sendReply_replied m _ _⟩
    · rw [withParams_some, stagePig, if_neg (not_not_intro hstate), hstep, if_neg (by simp), hroom,
        if_neg (by simp)]
      simp only [Register.stage, List.length_append, List.length_singleton, stagedPig, done]
    · obtain ⟨p, hp, heq⟩ := List.mem_map.mp (htaken k hk)
      exact ⟨p, hp, heq⟩
    · rw [← tagAfter_eq hrange.1 hrange.2]
      rfl
    · have hzero : x.ratio.getD 0 = 0 := by rcases hdefault with h | h <;> rw [h] <;> rfl
      rw [hzero, ratioFrom_zero]
      exact ⟨rfl, rfl⟩
    · rw [hr, Option.getD_some, ratioFrom_pos _ hpos]
      exact ⟨rfl, rfl⟩

end Sys2Proof.Machine


/-! PROOF. What a row of postings leaves, kind by kind (R181). -/

namespace Sys2Proof.Machine

/-! ## One kind -/

section Posted

variable {k : AttnKind} {a b : List Subject} {s t u : State}

theorem Posted.of_port (hport : t.port = s.port) : Posted k [] s t :=
  ⟨by rw [hport]; rfl, fun m => by rw [State.context, hport]; simp [State.context]⟩

/-- The count of a detail entry rises by the number of subjects posted, up to 65,535. -/
theorem Posted.count (h : Posted k a s t) : t.port.detail[k.bit].count =
    if a = [] then s.port.detail[k.bit].count else min (s.port.detail[k.bit].count + a.length) 65535 := by
  rw [h.1]
  cases hlast : a.getLast? with
  | none => rw [if_pos (List.getLast?_eq_none_iff.mp hlast)]
  | some x =>
    rw [if_neg]
    rintro rfl
    cases hlast

theorem Posted.trans (h : Posted k a s t) (h' : Posted k b t u) (hnow : u.now = t.now) : Posted k (a ++ b) s u := by
  refine ⟨?_, fun m => ?_⟩
  · rw [h'.1, List.getLast?_append]
    cases hlast : b.getLast? with
    | none =>
      obtain rfl := List.getLast?_eq_none_iff.mp hlast
      simp only [List.append_nil, Option.none_or, hnow]
      exact h.1
    | some x =>
      have hcount := h.count
      have hb : 0 < b.length := List.length_pos_of_mem (List.mem_of_getLast? hlast)
      simp only [Option.some_or, hcount, List.length_append, Detail.mk.injEq, true_and]
      split
      · next ha => simp [ha]
      · omega
  · rw [h'.2 m, h.2 m]
    cases a <;> cases b <;> simp

end Posted

/-! ## Every kind -/

/-- Between two states of one line time each kind was posted once for each of its subjects, and nothing else of the
contexts and the drop record changed. -/
def Posts (e : AttnKind → List Subject) (s t : State) : Prop :=
  t.now = s.now ∧ ContextsKept s t ∧ ∀ k, Posted k (e k) s t

/-- One subject for one kind. -/
def once (k : AttnKind) (x : Subject) (j : AttnKind) : List Subject := if j = k then [x] else []

theorem Posts.of_port {s t : State} (hnow : t.now = s.now) (hport : t.port = s.port) : Posts (fun _ => []) s t :=
  ⟨hnow, ContextsKept.of_port ⟨fun _ => rfl, rfl, rfl⟩ hport, fun _ => Posted.of_port hport⟩

theorem Posts.refl (s : State) : Posts (fun _ => []) s s := .of_port rfl rfl

theorem Posts.trans {e e' : AttnKind → List Subject} {s t u : State} (h : Posts e s t) (h' : Posts e' t u) :
    Posts (fun k => e k ++ e' k) s u :=
  ⟨h'.1.trans h.1, h.2.1.trans h'.2.1, fun k => (h.2.2 k).trans (h'.2.2 k) h'.1⟩

theorem Posts.congr {e e' : AttnKind → List Subject} {s t : State} (h : Posts e s t) (he : ∀ k, e' k = e k) :
    Posts e' s t := by
  rw [show e' = e from funext he]
  exact h

theorem bit_injective : Function.Injective AttnKind.bit := by
  intro j k
  cases j <;> cases k <;> decide

theorem attend_bit (c : Context) (k j : AttnKind) :
    (c.attend (c.attention ||| k.mask)).attention.getLsbD j.bit.val =
      (c.attention.getLsbD j.bit.val || decide (j = k)) := by
  have hbit : decide (j.bit.val = k.bit.val) = decide (j = k) := by
    rw [decide_eq_decide, ← Fin.ext_iff, bit_injective.eq_iff]
  simp [Context.attend, AttnKind.mask, hbit]

theorem post_posts (k : AttnKind) (x : Subject) (s : State) : Posts (once k x) s (post k (some x) s) := by
  refine ⟨rfl, (post_effects k (some x) s).contexts, fun j => ⟨?_, fun m => ?_⟩⟩
  · rw [post_detail]
    by_cases hj : j = k
    · subst hj
      simp [once, bump]
      rfl
    · rw [if_neg (fun h => hj (bit_injective h)), once, if_neg hj]
      rfl
  · rw [post_context, attend_bit]
    by_cases hj : j = k <;> simp [once, hj]

/-- Without a posting the port's blocks may be another's. -/
theorem Posts.then_port {e : AttnKind → List Subject} {s t u : State} (h : Posts e s t) (hnow : u.now = t.now)
    (hport : u.port = t.port) : Posts e s u :=
  (h.trans (.of_port hnow hport)).congr fun _ => (List.append_nil _).symm

theorem Posts.of_port_then {e : AttnKind → List Subject} {s t u : State} (hnow : t.now = s.now) (hport : t.port = s.port)
    (h : Posts e t u) : Posts e s u :=
  ((Posts.of_port hnow hport).trans h).congr fun _ => rfl

theorem Posts.only {e : AttnKind → List Subject} {s t : State} {kinds : List AttnKind} (h : Posts e s t)
    (he : ∀ k, k ∉ kinds → e k = []) : PostsOnly kinds s t :=
  ⟨h.2.1, fun k hk => he k hk ▸ h.2.2 k⟩

theorem Posts.unposted {e : AttnKind → List Subject} {s t : State} (h : Posts e s t) {k : AttnKind} (hk : e k = []) :
    t.port.detail[k.bit] = s.port.detail[k.bit] := by
  have hposted := (h.2.2 k).1
  rwa [hk] at hposted

/-! ## Rows over the stations -/

/-- Postings for one station alone, in a row over all. -/
theorem flatMap_alone (st : Fin 16) (n : Nat) (f : Fin 16 → Subject) :
    ((List.finRange 16).flatMap fun k => List.replicate (if k = st then n else 0) (f k)) = List.replicate n (f st) := by
  have hsplit : ∀ l : List (Fin 16), l.Nodup → (l.flatMap fun k => List.replicate (if k = st then n else 0) (f k)) =
      if st ∈ l then List.replicate n (f st) else [] := by
    intro l hl
    induction l with
    | nil => rfl
    | cons k l ih =>
      obtain ⟨hk, hl⟩ := List.nodup_cons.mp hl
      rw [List.flatMap_cons, ih hl]
      by_cases hst : k = st
      · subst hst
        simp [hk]
      · simp [hst, Ne.symm hst]
  rw [hsplit _ (List.nodup_finRange 16), if_pos (List.mem_finRange st)]

theorem postedAt_alone {k : AttnKind} {st : Fin 16} {n : Nat} {f : Fin 16 → Subject} {s t : State}
    (h : Posted k (List.replicate n (f st)) s t) : PostedAt k (fun j => if j = st then n else 0) f s t := by
  rw [PostedAt, flatMap_alone]
  exact h

end Sys2Proof.Machine


/-! PROOF. What a judgement of the watches leaves, station by station (R133, R139 to R148). -/

namespace Sys2Proof.Machine

/-! ## The HOLD action at one station (R147) -/

theorem heldBy_eq (c : WatchCfg) (w : Watch) (h : HoldSet) :
    heldBy c w h = if watchHolds c w.state then h ||| watchBit else manualHolds h := by
  simp only [heldBy, watchHolds_eq, Bool.and_eq_true, decide_eq_true_iff]
  rfl

theorem crossing_of_iff {old new : HoldSet} (h : old = 0#7 ↔ new = 0#7) : crossing old new = 0 := if_pos h

theorem crossing_of_not_iff {old new : HoldSet} (h : ¬ (old = 0#7 ↔ new = 0#7)) : crossing old new = 1 := if_neg h

/-- A change of a hold set posts HOLD_CHANGE as often as the set passes between empty and non-empty. -/
theorem changeHold_posts (st : Fin 16) (h : HoldSet) (s : State) :
    Posts (fun k => if k = .holdChange then List.replicate (crossing s.valves[st].hold h) (.station st) else []) s
      (changeHold st h s) := by
  have hnow : (changeHold st h s).now = s.now := congrArg LineClock.lineTime (changeHold_only st h s .clock (by simp))
  have hport := changeHold_port st h s
  by_cases hstays : h = 0#7 ↔ s.valves[st].hold = 0#7
  · rw [if_pos hstays] at hport
    refine (Posts.of_port hnow hport).congr fun k => ?_
    rw [crossing_of_iff hstays.symm, List.replicate_zero, ite_self]
  · rw [if_neg hstays] at hport
    refine ((post_posts .holdChange (.station st) s).then_port hnow hport).congr fun k => ?_
    rw [crossing_of_not_iff fun hsame => hstays hsame.symm]
    rfl

/-- The record of a valve whose watch is to be `w`: WATCH by HOLD and the state, and the contact of a set that
changes. -/
def settledValve (s : State) (st : Fin 16) (w : Watch) : Valve :=
  let h := heldBy (s.watchCfg st) w s.valves[st].hold
  { s.valves[st] with
    hold := h
    contact := if h = s.valves[st].hold then s.valves[st].contact else contactFor s st h }

/-! ## The actions of one watch (R147, R148) -/

/-- What a watch that enters MADE `entries` times posts, and what its hold set posts on a change. -/
def watchPostings (s : State) (st : Fin 16) (entries : Nat) (old new : HoldSet) : AttnKind → List Subject
  | .approach => List.replicate (if (s.watchCfg st).actions.notify then entries else 0) (.station st)
  | .trapEvent =>
    List.replicate (if (s.watchCfg st).actions.armCheck ∧ s.traps.receive.state ≠ .linedUp then entries else 0)
      (.trap .receive)
  | .holdChange => List.replicate (crossing old new) (.station st)
  | _ => []

theorem watchPostings_other (s : State) (st : Fin 16) (entries : Nat) (old new : HoldSet) {k : AttnKind}
    (hk : k ∉ watchKinds) : watchPostings s st entries old new k = [] := by
  cases k <;> simp [watchKinds] at hk <;> rfl

theorem madeActions_only (st : Fin 16) (s : State) : OnlyChanges [.port] s (madeActions st s) := by
  unfold madeActions
  extract_lets a s1
  have h1 : OnlyChanges [.port] s s1 := by
    simp only [s1]
    split
    · exact post_only _ _ s
    · exact OnlyChanges.refl _ s
  split
  · exact h1.trans (post_only _ _ s1)
  · exact h1

theorem madeActions_posts (st : Fin 16) (s : State) :
    Posts (watchPostings s st 1 0#7 0#7) s (madeActions st s) := by
  have hnotify : Posts (fun k => if k = .approach then
      List.replicate (if (s.watchCfg st).actions.notify then 1 else 0) (.station st) else []) s
      (if (s.watchCfg st).actions.notify then post .approach (some (.station st)) s else s) := by
    split
    · exact post_posts _ _ s
    · exact (Posts.refl s).congr fun k => ite_self _
  have htraps : (if (s.watchCfg st).actions.notify then post .approach (some (.station st)) s else s).traps =
      s.traps := by
    split <;> rfl
  simp only [madeActions, htraps]
  split
  · next harm =>
    refine (hnotify.trans (post_posts _ _ _)).congr fun k => ?_
    cases k <;> simp only [watchPostings, once, reduceCtorEq, if_true, if_false, List.append_nil, List.nil_append]
    · rw [crossing_of_iff Iff.rfl]
      rfl
    · rw [if_pos harm]
      rfl
  · next harm =>
    refine hnotify.congr fun k => ?_
    cases k <;> simp only [watchPostings, reduceCtorEq, if_true, if_false]
    · rw [crossing_of_iff Iff.rfl]
      rfl
    · rw [if_neg harm]
      rfl

section Settle

variable (st : Fin 16) (made : Bool) (s : State)

theorem settleWatch_watchUnit : (settleWatch st made s).watchUnit = s.watchUnit := by
  simp only [settleWatch]
  split
  · exact (madeActions_only st _ .watchUnit (by simp)).trans (changeHold_watchUnit st _ s)
  · exact changeHold_watchUnit st _ s

theorem settleWatch_valves (k : Fin 16) : (settleWatch st made s).valves[k] =
    if k = st then settledValve s st s.watchUnit.watches[st] else s.valves[k] := by
  have hvalves : (settleWatch st made s).valves = (applyHold st s).valves := by
    simp only [settleWatch]
    split
    · exact madeActions_only st _ .valves (by simp)
    · rfl
  rw [hvalves, applyHold, changeHold_valves]
  simp only [settledValve, heldBy_eq]

theorem settleWatch_posts :
    Posts (watchPostings s st (if made then 1 else 0) s.valves[st].hold (settleWatch st made s).valves[st].hold) s
      (settleWatch st made s) := by
  have hhold := congrArg Valve.hold (settleWatch_valves st made s st)
  rw [if_pos rfl] at hhold
  rw [hhold]
  have happly : Posts (fun k => if k = .holdChange then List.replicate
      (crossing s.valves[st].hold (heldBy (s.watchCfg st) s.watchUnit.watches[st] s.valves[st].hold))
      (.station st) else []) s (applyHold st s) := by
    rw [heldBy_eq]
    exact changeHold_posts st _ s
  simp only [settleWatch]
  split
  · refine (happly.trans (madeActions_posts st (applyHold st s))).congr fun k => ?_
    have hcfg : (applyHold st s).watchCfg st = s.watchCfg st := changeHold_watchCfg st st _ s
    have htraps : (applyHold st s).traps = s.traps := changeHold_only st _ s .traps (by simp)
    cases k <;> simp only [watchPostings, hcfg, htraps, reduceCtorEq, if_true, if_false, List.nil_append,
      crossing_of_iff Iff.rfl, List.replicate_zero, List.append_nil, settledValve]
  · refine happly.congr fun k => ?_
    cases k <;> simp only [watchPostings, reduceCtorEq, if_true, if_false, ite_self, List.replicate_zero, settledValve]

end Settle

/-! ## The judgement of one watch (R139 to R146) -/

/-- The record that a judgement gives the watch of a station. -/
def judgedWatch (s : State) (first : Bool) (now : Nat) (st : Fin 16) (w : Watch) : Watch :=
  match s.watchStation st with
  | some x =>
    if (s.watchCfg st).enabled then
      let v := watchValue (s.watchCfg st).source x s.register.inLine
      let verdict := (s.watchCfg st).judge first now w v
      ⟨verdict.state, (watchedPig x s.register.inLine).map (·.tag), some v, verdict.delay, some now⟩
    else ⟨.off, none, none, none, some now⟩
  | none => ⟨.off, none, none, none, some now⟩

theorem entersMade_eq (old new : Watch) :
    entersMade old new = if decide (new.state = .made ∧ old.state ≠ .made) then 1 else 0 := by
  simp only [entersMade, decide_eq_true_iff]

/-- A judgement writes the watch, and settles it by its state before and after. -/
theorem judgeWatch_eq (first : Bool) (now : Nat) (s : State) (st : Fin 16) :
    let w := judgedWatch s first now st s.watchUnit.watches[st]
    judgeWatch first now s st =
      settleWatch st (decide (w.state = .made ∧ s.watchUnit.watches[st].state ≠ .made)) (s.setWatch st w) := by
  cases hx : s.watchStation st with
  | none => simp [judgeWatch, judgedWatch, hx]
  | some x =>
    by_cases henabled : (s.watchCfg st).enabled = true
    · simp only [judgeWatch, judgedWatch, hx, henabled, if_true, judge_made]
    · simp [judgeWatch, judgedWatch, hx, henabled]

theorem watchStation_eq_some {s : State} {st : Fin 16} {x : Station} (hst : st.val < s.profile.count)
    (hx : s.profile.station? st = some x) : s.watchStation st = some x := (if_pos hst).trans hx

theorem judgedWatch_judged (s : State) (first : Bool) (now : Nat) (st : Fin 16) (w : Watch) :
    WatchJudged s first now st w (judgedWatch s first now st w) := by
  refine ⟨?_, fun hoff => ?_, fun x henabled hst hx => ?_⟩
  · unfold judgedWatch
    split
    · split <;> rfl
    · rfl
  · unfold judgedWatch
    split
    · next x hx =>
      rcases hoff with hdisabled | hoff
      · rw [if_neg (by rw [State.watchCfg, hdisabled]; simp)]
      · have hnone : s.watchStation st = none := by
          rcases hoff with hcount | hnone
          · exact if_neg (by omega)
          · exact (ite_eq_right_iff.mpr fun _ => hnone)
        rw [hnone] at hx
        cases hx
    · rfl
  · have hgoes := judge_goes (s.watchCfg st) first now w (watchValue (s.watchCfg st).source x s.register.inLine)
    simp only [judgedWatch, watchStation_eq_some hst hx, State.watchCfg, henabled, if_true]
    exact ⟨rfl, _, rfl, watchValue_reads _ _ _, hgoes⟩

theorem judgedWatch_congr {s t : State} (hprofile : t.profile = s.profile) (hregister : t.register = s.register)
    (first : Bool) (now : Nat) (st : Fin 16) (w : Watch) : judgedWatch t first now st w = judgedWatch s first now st w := by
  simp only [judgedWatch, State.watchStation, State.watchCfg, hprofile, hregister]
  rfl

theorem watchJudged_congr {s t : State} (hprofile : t.profile = s.profile) (hregister : t.register = s.register)
    {first : Bool} {now : Nat} {st : Fin 16} {old new : Watch} (h : WatchJudged s first now st old new) :
    WatchJudged t first now st old new := by
  simpa only [WatchJudged, hprofile, hregister] using h

/-- What does not change while watches are judged. -/
theorem WatchEffects.frame {s t : State} (h : WatchEffects s t) :
    t.profile = s.profile ∧ t.register = s.register ∧ t.now = s.now ∧ t.traps = s.traps ∧ t.powered = s.powered := by
  obtain ⟨honly, -⟩ := h
  exact ⟨congrArg ProfileStore.running (honly .store (by simp)), honly .register (by simp),
    congrArg LineClock.lineTime (honly .clock (by simp)), honly .traps (by simp), honly .powered (by simp)⟩

theorem settledValve_congr {s t : State} (h : WatchEffects s t) {st : Fin 16} (hvalve : t.valves[st] = s.valves[st])
    (w : Watch) : settledValve t st w = settledValve s st w := by
  obtain ⟨hprofile, -, hnow, -, hpower⟩ := h.frame
  simp only [settledValve, State.watchCfg, contactFor, hvalve, hprofile, hnow, hpower]
  rfl

theorem watchPostings_congr {s t : State} (h : WatchEffects s t) (st : Fin 16) (n : Nat) (a b : HoldSet) :
    watchPostings t st n a b = watchPostings s st n a b := by
  obtain ⟨hprofile, -, -, htraps, -⟩ := h.frame
  funext k
  simp only [watchPostings, State.watchCfg, hprofile, htraps]
  rfl

section JudgeWatch

variable (first : Bool) (now : Nat) (s : State) (st : Fin 16)

theorem judgeWatch_watches (k : Fin 16) : (judgeWatch first now s st).watchUnit.watches[k] =
    if k = st then judgedWatch s first now st s.watchUnit.watches[st] else s.watchUnit.watches[k] := by
  rw [judgeWatch_eq, settleWatch_watchUnit, setWatch_watches]

theorem judgeWatch_firstPending : (judgeWatch first now s st).watchUnit.firstPending = s.watchUnit.firstPending := by
  rw [judgeWatch_eq, settleWatch_watchUnit]
  rfl

theorem judgeWatch_valves (k : Fin 16) : (judgeWatch first now s st).valves[k] =
    if k = st then settledValve s st (judgedWatch s first now st s.watchUnit.watches[st]) else s.valves[k] := by
  rw [judgeWatch_eq, settleWatch_valves, setWatch_watches, if_pos rfl]
  rfl

theorem judgeWatch_posts :
    Posts (watchPostings s st
      (entersMade s.watchUnit.watches[st] (judgedWatch s first now st s.watchUnit.watches[st]))
      s.valves[st].hold (settledValve s st (judgedWatch s first now st s.watchUnit.watches[st])).hold) s
      (judgeWatch first now s st) := by
  have hvalve := judgeWatch_valves first now s st st
  rw [if_pos rfl] at hvalve
  rw [← hvalve, judgeWatch_eq, entersMade_eq]
  exact Posts.of_port_then rfl rfl (settleWatch_posts st _ (s.setWatch st _))

end JudgeWatch

/-! ## The judgement of every watch (R142) -/

/-- Watches judged one after another are each judged from where they stood. -/
theorem foldl_judgeWatch (first : Bool) (now : Nat) {l : List (Fin 16)} (hl : l.Nodup) (s : State) :
    let t := l.foldl (judgeWatch first now) s
    let new := fun k : Fin 16 => judgedWatch s first now k s.watchUnit.watches[k]
    (∀ k : Fin 16, t.watchUnit.watches[k] = if k ∈ l then new k else s.watchUnit.watches[k]) ∧
      (∀ k : Fin 16, t.valves[k] = if k ∈ l then settledValve s k (new k) else s.valves[k]) ∧
      t.watchUnit.firstPending = s.watchUnit.firstPending ∧
      Posts (fun j => l.flatMap fun k => watchPostings s k (entersMade s.watchUnit.watches[k] (new k))
        s.valves[k].hold (settledValve s k (new k)).hold j) s t := by
  induction l generalizing s with
  | nil => exact ⟨fun k => (if_neg List.not_mem_nil).symm, fun k => (if_neg List.not_mem_nil).symm, rfl, Posts.refl s⟩
  | cons st l ih =>
    obtain ⟨hst, hl⟩ := List.nodup_cons.mp hl
    have heffects := judgeWatch_effects first now s st
    obtain ⟨hprofile, hregister, -⟩ := heffects.frame
    obtain ⟨hwatches, hvalves, hpending, hposts⟩ := ih hl (judgeWatch first now s st)
    dsimp only at hwatches hvalves hposts ⊢
    have hwatch : ∀ k : Fin 16, k ≠ st →
        (judgeWatch first now s st).watchUnit.watches[k] = s.watchUnit.watches[k] := fun k hk => by
      rw [judgeWatch_watches, if_neg hk]
    have hvalve : ∀ k : Fin 16, k ≠ st → (judgeWatch first now s st).valves[k] = s.valves[k] := fun k hk => by
      rw [judgeWatch_valves, if_neg hk]
    have hne : ∀ k ∈ l, k ≠ st := fun k hk heq => hst (heq ▸ hk)
    have hnew : ∀ k ∈ l, judgedWatch (judgeWatch first now s st) first now k
        (judgeWatch first now s st).watchUnit.watches[k] = judgedWatch s first now k s.watchUnit.watches[k] :=
      fun k hk => by rw [hwatch k (hne k hk), judgedWatch_congr hprofile hregister]
    refine ⟨fun k => ?_, fun k => ?_, hpending.trans (judgeWatch_firstPending first now s st), ?_⟩
    · rw [List.foldl_cons, hwatches]
      by_cases hk : k ∈ l
      · rw [if_pos hk, if_pos (List.mem_cons_of_mem st hk), hnew k hk]
      · rw [if_neg hk, judgeWatch_watches]
        by_cases heq : k = st
        · subst heq
          rw [if_pos rfl, if_pos List.mem_cons_self]
        · rw [if_neg heq, if_neg (by simp [heq, hk])]
    · rw [List.foldl_cons, hvalves]
      by_cases hk : k ∈ l
      · rw [if_pos hk, if_pos (List.mem_cons_of_mem st hk), hnew k hk, settledValve_congr heffects (hvalve k (hne k hk))]
      · rw [if_neg hk, judgeWatch_valves]
        by_cases heq : k = st
        · subst heq
          rw [if_pos rfl, if_pos List.mem_cons_self]
        · rw [if_neg heq, if_neg (by simp [heq, hk])]
    · refine ((judgeWatch_posts first now s st).trans hposts).congr fun j => ?_
      rw [List.flatMap_cons]
      congr 1
      refine List.flatMap_congr fun k hk => ?_
      rw [hnew k hk, settledValve_congr heffects (hvalve k (hne k hk)), hwatch k (hne k hk), hvalve k (hne k hk),
        watchPostings_congr heffects]

section JudgeAll

variable {s : State} {now : Nat}

theorem judgeAll_unset (h : s.now = none) : judgeAll s = s := by rw [judgeAll, h]

/-- With line time set every watch is judged from where it stood, and the first judgement is made. -/
theorem judgeAll_set (h : s.now = some now) :
    let new := fun k : Fin 16 => judgedWatch s s.watchUnit.firstPending now k s.watchUnit.watches[k]
    ∃ t, judgeAll s = t.setWatchUnit { t.watchUnit with firstPending := false } ∧
      (∀ k : Fin 16, t.watchUnit.watches[k] = new k) ∧ (∀ k : Fin 16, t.valves[k] = settledValve s k (new k)) ∧
      Posts (fun j => (List.finRange 16).flatMap fun k => watchPostings s k (entersMade s.watchUnit.watches[k] (new k))
        s.valves[k].hold (settledValve s k (new k)).hold j) s t := by
  obtain ⟨hwatches, hvalves, -, hposts⟩ := foldl_judgeWatch s.watchUnit.firstPending now (List.nodup_finRange 16) s
  simp only [List.mem_finRange, if_true] at hwatches hvalves
  exact ⟨_, by rw [judgeAll, h], hwatches, hvalves, hposts⟩

theorem judgeAll_watches (h : s.now = some now) (k : Fin 16) : (judgeAll s).watchUnit.watches[k] =
    judgedWatch s s.watchUnit.firstPending now k s.watchUnit.watches[k] := by
  obtain ⟨t, ht, hwatches, -⟩ := judgeAll_set h
  rw [ht]
  exact hwatches k

theorem judgeAll_valves (h : s.now = some now) (k : Fin 16) : (judgeAll s).valves[k] =
    settledValve s k ((judgeAll s).watchUnit.watches[k]) := by
  rw [judgeAll_watches h]
  obtain ⟨t, ht, -, hvalves, -⟩ := judgeAll_set h
  rw [ht]
  exact hvalves k

theorem judgeAll_firstPending (h : s.now = some now) : (judgeAll s).watchUnit.firstPending = false := by
  obtain ⟨t, ht, -⟩ := judgeAll_set h
  rw [ht]
  rfl

theorem judgeAll_posts (h : s.now = some now) :
    Posts (fun j => (List.finRange 16).flatMap fun k => watchPostings s k
      (entersMade s.watchUnit.watches[k] (judgeAll s).watchUnit.watches[k]) s.valves[k].hold
      (judgeAll s).valves[k].hold j) s (judgeAll s) := by
  simp only [judgeAll_valves h, judgeAll_watches h]
  obtain ⟨t, ht, -, -, hposts⟩ := judgeAll_set h
  rw [ht]
  exact hposts.then_port rfl rfl

/-- A judgement of every watch, whole (R142). -/
theorem judgeAll_judged (s : State) : WatchesJudged s (judgeAll s) := by
  obtain ⟨hprofile, hregister, hnow, htraps, -⟩ := (judgeAll_effects s).frame
  intro now ht
  have h : s.now = some now := hnow ▸ ht
  have hposts := judgeAll_posts h
  have hcfg : (judgeAll s).watchCfg = s.watchCfg := by
    funext k
    rw [State.watchCfg, hprofile, State.watchCfg]
  refine ⟨judgeAll_firstPending h, fun st => ⟨watchJudged_congr hprofile hregister ?_, ?_⟩, ⟨?_, ?_⟩, hposts.2.2 .holdChange⟩
  · dsimp only
    rw [judgeAll_watches h]
    exact judgedWatch_judged s _ now st _
  · dsimp only
    rw [judgeAll_valves h, hcfg]
    rfl
  · rw [hcfg]
    exact hposts.2.2 .approach
  · rw [hcfg, htraps]
    exact hposts.2.2 .trapEvent

/-- A judgement of every watch posts the watches' kinds alone. -/
theorem judgeAll_postsOnly (s : State) : PostsOnly watchKinds s (judgeAll s) := by
  cases h : s.now with
  | none => rw [judgeAll_unset h]; exact (Posts.refl s).only fun _ _ => rfl
  | some now =>
    refine (judgeAll_posts h).only fun k hk => List.flatMap_eq_nil_iff.mpr fun st _ => ?_
    exact watchPostings_other _ _ _ _ _ hk

end JudgeAll

end Sys2Proof.Machine


/-! PROOF. Every judgement of the watches (R133, R139 to R148), a watch judged alone (R138, R149), and the removals that
hand the register to the watches (R27, R33, R35, R165). -/

namespace Sys2Proof.Machine

/-! ## A state after a judgement fits the value (R141, R143, R144) -/

theorem makes_exists_iff (c : WatchCfg) (v : WatchValue) :
    c.Makes v ↔ ∃ n, v = .value n ∧ n ≤ c.threshold * (match c.source with | .distance => 1000 | .eta => 1) := by
  cases v with
  | noValue => simp [WatchCfg.Makes]
  | value n =>
    simp only [WatchCfg.Makes, WatchValue.value.injEq, exists_eq_left'] <;> rfl

theorem breaks_exists_iff (c : WatchCfg) (v : WatchValue) :
    c.Breaks v ↔ v = .noValue ∨ ∃ n, v = .value n ∧
      (c.threshold + c.hysteresis) * (match c.source with | .distance => 1000 | .eta => 1) < n := by
  cases v with
  | noValue => simp [WatchCfg.Breaks]
  | value n =>
    simp only [WatchCfg.Breaks, WatchValue.value.injEq, exists_eq_left', reduceCtorEq, false_or] <;> rfl

theorem not_makes_of_breaks {c : WatchCfg} {v : WatchValue} (h : c.Breaks v) : ¬ c.Makes v := by
  cases v with
  | noValue => exact id
  | value n =>
    unfold WatchCfg.Breaks at h
    unfold WatchCfg.Makes
    rw [Nat.add_mul] at h
    omega

/-- The state that a judgement gives fits the value just computed. -/
def WatchCfg.Fits (c : WatchCfg) (v : WatchValue) (held : Option Delay) (new : WatchState × Option Delay) : Prop :=
  new.1 ≠ .off ∧ (new.1 = .clear → ¬ c.Makes v) ∧
    (new.1 = .making → c.Makes v ∧ 0 < c.makeDelay ∨ c.Makes v ∧ new.2 = held) ∧
    (new.1 = .made → ¬ c.Breaks v) ∧ (new.1 = .breaking → c.Breaks v) ∧ (new.1 = .latched → ¬ c.Makes v) ∧
    (new.1 = .inhibited → ¬ c.Breaks v)

theorem fits_broken {c : WatchCfg} {v : WatchValue} {held d : Option Delay} (h : c.Breaks v) :
    c.Fits v held (c.broken, d) := by
  have hmakes := not_makes_of_breaks h
  unfold WatchCfg.broken
  split <;> simp [WatchCfg.Fits, hmakes]

theorem judge_fits (c : WatchCfg) (first : Bool) (now : Nat) (w : Watch) (v : WatchValue) :
    c.Fits v w.delay ((c.judge first now w v).state, (c.judge first now w v).delay) := by
  have hbreaks : c.Makes v → ¬ c.Breaks v := fun hm hb => not_makes_of_breaks hb hm
  have hmakes : ∀ {a b : Verdict} {P : Verdict → Prop}, (c.Makes v → P a) → (¬ c.Makes v → P b) →
      P (if c.makes v then a else b) := by
    intro a b P ha hb
    split
    · next h => exact ha ((makes_iff c v).mp h)
    · next h => exact hb fun h' => h ((makes_iff c v).mpr h')
  have hbroken : ∀ {a b : Verdict} {P : Verdict → Prop}, (c.Breaks v → P a) → (¬ c.Breaks v → P b) →
      P (if c.breaks v then a else b) := by
    intro a b P ha hb
    split
    · next h => exact ha ((breaks_iff c v).mp h)
    · next h => exact hb fun h' => h ((breaks_iff c v).mpr h')
  cases hstate : w.state
  all_goals simp only [WatchCfg.judge, hstate]
  case off | clear =>
    refine hmakes (P := fun x => c.Fits v w.delay (x.state, x.delay)) (fun hm => ?_) fun hm => ?_
    · split
      · simp [WatchCfg.Fits, hbreaks hm]
      · split
        · simp [WatchCfg.Fits, hbreaks hm]
        · next hdelay => simp [WatchCfg.Fits, hm, Nat.pos_of_ne_zero hdelay]
    · simp [WatchCfg.Fits, hm]
  case making =>
    refine hmakes (P := fun x => c.Fits v w.delay (x.state, x.delay)) (fun hm => ?_) fun hm => ?_ <;>
      simp [WatchCfg.Fits, hm]
  case made =>
    refine hbroken (P := fun x => c.Fits v w.delay (x.state, x.delay)) (fun hb => ?_) fun hb => ?_
    · split
      · exact fits_broken hb
      · simp [WatchCfg.Fits, hb]
    · simp [WatchCfg.Fits, hb]
  case breaking =>
    refine hbroken (P := fun x => c.Fits v w.delay (x.state, x.delay)) (fun hb => ?_) fun hb => ?_ <;>
      simp [WatchCfg.Fits, hb]
  case latched =>
    refine hmakes (P := fun x => c.Fits v w.delay (x.state, x.delay)) (fun hm => ?_) fun hm => ?_
    · simp [WatchCfg.Fits, hbreaks hm]
    · simp [WatchCfg.Fits, hm]
  case inhibited =>
    refine hbroken (P := fun x => c.Fits v w.delay (x.state, x.delay)) (fun hb => ?_) fun hb => ?_
    · simp [WatchCfg.Fits, not_makes_of_breaks hb]
    · simp [WatchCfg.Fits, hb]

/-- The record that a judgement gives an enabled watch at a station of the line. -/
theorem judgedWatch_enabled {s : State} {first : Bool} {now : Nat} {st : Fin 16} {w : Watch} {x : Station}
    (henabled : (s.watchCfg st).enabled = true) (hst : st.val < s.profile.count)
    (hx : s.profile.station? st = some x) :
    ∃ v, Reads (s.watchCfg st).source x (watchedPig x s.register.inLine) v ∧
      (judgedWatch s first now st w).value = some v ∧
      (judgedWatch s first now st w).tag = (watchedPig x s.register.inLine).map (·.tag) ∧
      (s.watchCfg st).Fits v w.delay
        ((judgedWatch s first now st w).state, (judgedWatch s first now st w).delay) := by
  refine ⟨watchValue (s.watchCfg st).source x s.register.inLine, watchValue_reads _ _ _, ?_⟩
  simp only [judgedWatch, watchStation_eq_some hst hx, henabled, if_true]
  exact ⟨trivial, trivial, judge_fits _ _ _ _ _⟩

theorem judgedWatch_off {s : State} {first : Bool} {now : Nat} {st : Fin 16} {w : Watch}
    (h : (s.watchCfg st).enabled = false ∨ s.profile.count ≤ st.val) :
    judgedWatch s first now st w = ⟨.off, none, none, none, some now⟩ :=
  (judgedWatch_judged s first now st w).2.1 (h.imp_right .inl)

/-- Settles O46 (R133, R139 to R148). -/
theorem judgementsFitTheValue : Obligations.JudgementsFitTheValue := by
  intro s
  refine ⟨judgeAll_effects s, judgeAll_unset, fun now hnow => ⟨judgeAll_judged s, judgeAll_postsOnly s, fun st => ?_,
    judgeAll_firstPending hnow, fun st => ?_⟩⟩
  · have hvalve := judgeAll_valves hnow st
    rw [hvalve]
    simp only [settledValve, contactFor, hnow, Option.isSome_some, Bool.and_true]
  dsimp only
  rw [judgeAll_watches hnow]
  refine ⟨(judgedWatch_judged s _ now st _).1, fun hoff => ?_, fun x henabled hst hx => ?_⟩
  · rw [judgedWatch_off hoff]
    exact ⟨rfl, rfl⟩
  · obtain ⟨v, hreads, hvalue, htag, hoff, hclear, hmaking, hmade, hbreaking, hlatched, hinhibited⟩ :=
      judgedWatch_enabled (first := s.watchUnit.firstPending) (now := now) (w := s.watchUnit.watches[st]) henabled hst hx
    refine ⟨htag, hoff, v, hvalue, fun hnone => ?_, fun p hp hsource => ?_, fun p hp hsource hpast => ?_,
      fun p hp hsource hbelow => ?_, ?_⟩
    · rw [show watchedPig x s.register.inLine = none from hnone] at hreads
      exact hreads
    · rw [show watchedPig x s.register.inLine = some p from hp] at hreads
      exact hreads.1 hsource
    · rw [show watchedPig x s.register.inLine = some p from hp] at hreads
      exact hreads.2.1 hsource hpast
    · rw [show watchedPig x s.register.inLine = some p from hp] at hreads
      exact ⟨hreads.2.2.1 hsource hbelow, hreads.2.2.2 hsource hbelow⟩
    · simp only [makes_exists_iff, breaks_exists_iff] at hclear hmaking hmade hbreaking hlatched hinhibited
      exact ⟨hclear, hmaking, hmade, hbreaking, hlatched, hinhibited⟩

/-! ## A removal (R27, R33, R35, R165) -/

theorem mayUse_writeOff_iff (c : MasterClass) : mayUse c .writeOff = true ↔ c ∈ [MasterClass.dispatch] := by
  cases c <;> decide

theorem mayUse_removePig_iff (c : MasterClass) : mayUse c .removePig = true ↔ c ∈ [MasterClass.trap, .link] := by
  cases c <;> decide

/-- A state whose watches, valves, contexts' attention, line and detail table are those of another is judged as it is. -/
theorem WatchesJudged.of_eq {s s' t : State} (h : WatchesJudged s' t) (hwatch : s'.watchUnit = s.watchUnit)
    (hvalves : ∀ st : Fin 16, s'.valves[st].hold = s.valves[st].hold)
    (hattention : ∀ m : Master, (s'.context m).attention = (s.context m).attention)
    (hdetail : s'.port.detail = s.port.detail) : WatchesJudged s t := by
  simpa only [WatchesJudged, ActionsPosted, PostedAt, Posted, hwatch, hvalves, hattention, hdetail] using h

theorem Posted.of_eq {k : AttnKind} {l : List Subject} {s s' t : State} (h : Posted k l s' t)
    (hattention : ∀ m : Master, (s'.context m).attention = (s.context m).attention)
    (hdetail : s'.port.detail = s.port.detail) : Posted k l s t := by
  simpa only [Posted, hattention, hdetail] using h

/-- The register without a tag, and every cursor off it. -/
def dropRecord (tag : Nat) (s : State) : State :=
  (s.setRegister (s.register.remove tag)).setPort
    { s.port with contexts := s.port.contexts.mapIdx (fun _ c => c.dropTag tag) }

theorem removePig_eq (tag : Nat) (s : State) : removePig tag s = judgeAll (dropRecord tag s) := rfl

theorem dropRecord_context (tag : Nat) (s : State) (m : Master) :
    (dropRecord tag s).context m = (s.context m).dropTag tag := by
  simp [dropRecord, State.context]

theorem dropTag_other (c : Context) (tag : Nat) : (c.dropTag tag).attention = c.attention ∧
    (c.dropTag tag).cursorTag = (if c.cursorTag = some tag then none else c.cursorTag) ∧
    (c.dropTag tag).cursorMode = c.cursorMode ∧ (c.dropTag tag).cls = c.cls ∧
    (c.dropTag tag).enables = c.enables ∧ (c.dropTag tag).lastRefusal = c.lastRefusal := by
  unfold Context.dropTag
  split <;> simp

theorem removePig_register (tag : Nat) (s : State) : (removePig tag s).register = s.register.remove tag := by
  rw [removePig_eq]
  exact (judgeAll_effects _).frame.2.1

/-- What a removal leaves (R27, R33). -/
def RemovalLeaves (tag : Nat) (s u : State) : Prop :=
  u.register = { s.register with
      receiveBarrel := s.register.receiveBarrel.filter (fun p => p.tag != tag)
      inLine := s.register.inLine.filter (fun p => p.tag != tag)
      launchBarrel := s.register.launchBarrel.filter (fun p => p.tag != tag) } ∧
    (∀ k : Master, (u.context k).cursorTag =
        (if (s.context k).cursorTag = some tag then none else (s.context k).cursorTag) ∧
      (u.context k).cursorMode = (s.context k).cursorMode ∧ (u.context k).cls = (s.context k).cls ∧
      (u.context k).enables = (s.context k).enables ∧ (u.context k).lastRefusal = (s.context k).lastRefusal) ∧
    (∀ st : Fin 16, u.valves[st].own = s.valves[st].own) ∧
    OnlyChanges [.register, .port, .valves, .watchUnit] s u ∧
    (s.now = none → u.valves = s.valves ∧ u.watchUnit = s.watchUnit ∧ u.port.detail = s.port.detail) ∧
    u.port.dropCount = s.port.dropCount ∧ u.port.lastDrop = s.port.lastDrop ∧
    (∀ k : AttnKind, k ∉ watchKinds → Posted k [] s u) ∧ WatchesJudged s u

theorem removePig_leaves (tag : Nat) (s : State) : RemovalLeaves tag s (removePig tag s) := by
  have hcontext := dropRecord_context tag s
  have hattention : ∀ m : Master, ((dropRecord tag s).context m).attention = (s.context m).attention := fun m => by
    rw [hcontext]
    exact (dropTag_other _ tag).1
  rw [removePig_eq]
  obtain ⟨-, hown, hvalves, hcount, hcause⟩ := judgeAll_effects (dropRecord tag s)
  refine ⟨removePig_register tag s, fun k => ?_, hvalves, removePig_only tag s, fun hnow => ?_, hcount, hcause,
    fun k hk => ((judgeAll_postsOnly _).2 k hk).of_eq hattention rfl,
    (judgeAll_judged _).of_eq rfl (fun _ => rfl) hattention rfl⟩
  · obtain ⟨-, htag, hmode, hcls, henables, hlast⟩ := dropTag_other (s.context k) tag
    have hk := hown k
    rw [hcontext] at hk
    simp only [Context.own, Prod.mk.injEq] at hk
    obtain ⟨hcls', henables', htag', hmode', hlast'⟩ := hk
    exact ⟨htag'.trans htag, hmode'.trans hmode, hcls'.trans hcls, henables'.trans henables, hlast'.trans hlast⟩
  · rw [judgeAll_unset (s := dropRecord tag s) hnow]
    exact ⟨rfl, rfl, rfl⟩

/-- Settles O19 (R27, R33, R35, R142, R165). -/
theorem removalsTakeTheRecord : Obligations.RemovalsTakeTheRecord := by
  intro m tag s htag gone
  refine ⟨fun p hable hp => ⟨fun hstatus => ?_, fun hstaged harrived => ?_⟩, fun trap hable => ⟨fun hstate => ?_,
    fun hstate hstep => ?_, fun hstate hstep => ⟨fun habsent => ?_, fun hheld => ?_⟩⟩⟩
  · refine refuses_able (body := withParams (some tag) writeOff) rfl rfl mayUse_writeOff_iff hable ?_
    rw [withParams_some, writeOff, withPig_held _ htag hp, if_neg]
    rw [inLine_eq_false_iff.mpr hstatus]
    exact Bool.false_ne_true
  · refine ⟨removePig tag s, done_able (body := withParams (some tag) writeOff) rfl mayUse_writeOff_iff hable ?_,
      removePig_leaves tag s⟩
    rw [withParams_some, writeOff, withPig_held _ htag hp, if_pos]
    · rfl
    · rw [← Bool.not_eq_false, inLine_eq_false_iff]
      simp [hstaged, harrived]
  all_goals
    have hzero : ¬ (⟨trap, tag⟩ : RemoveArgs).tag = 0 := Nat.ne_of_gt htag
  · refine refuses_able (body := withParams (some ⟨trap, tag⟩) removePigFrom) rfl rfl mayUse_removePig_iff hable ?_
    rw [withParams_some, removePigFrom, if_neg hzero, if_pos hstate]
  · refine refuses_able (body := withParams (some ⟨trap, tag⟩) removePigFrom) rfl rfl mayUse_removePig_iff hable ?_
    rw [withParams_some, removePigFrom, if_neg hzero, if_neg (not_not_intro hstate),
      if_pos (Option.isSome_iff_ne_none.mpr hstep)]
  · refine refuses_able (body := withParams (some ⟨trap, tag⟩) removePigFrom) rfl rfl mayUse_removePig_iff hable ?_
    rw [withParams_some, removePigFrom, if_neg hzero, if_neg (not_not_intro hstate), hstep, if_neg (by simp), if_neg]
    simpa using habsent
  · refine ⟨removePig tag s, done_able (body := withParams (some ⟨trap, tag⟩) removePigFrom)
      (d := .removed ((removePig tag s).barrel trap).length (removePig tag s).register.view.length) rfl
      mayUse_removePig_iff hable ?_, removePig_leaves tag s⟩
    have hany : (s.barrel trap).any (fun p => p.tag == tag) = true := by simpa using hheld
    rw [withParams_some, removePigFrom, if_neg hzero, if_neg (not_not_intro hstate), hstep, if_neg (by simp),
      if_pos hany, ← size_eq_view]
    rfl

end Sys2Proof.Machine


/-! PROOF. One watch settled and judged alone, ACKNOWLEDGE WATCH and the end of a delay (R138, R145, R147 to R149). -/

namespace Sys2Proof.Machine

/-! ## A watch set up, with its HOLD applied (R147) -/

theorem heldBy_idem (c : WatchCfg) (w : Watch) (h : HoldSet) : heldBy c w (heldBy c w h) = heldBy c w h := by
  simp only [heldBy]
  split
  · rw [BitVec.or_assoc, BitVec.or_self]
  · exact manualHolds_idem h

theorem crossing_self (h : HoldSet) : crossing h h = 0 := crossing_of_iff Iff.rfl

theorem heldBy_member (c : WatchCfg) (w : Watch) (h : HoldSet) : (heldBy c w h).getLsbD 6 =
    (c.actions.hold && decide (w.state ∈ [WatchState.made, .breaking, .latched, .inhibited])) := by
  rw [heldBy_eq, getLsbD_watch_member, watchHolds_eq]

/-- All that differs between two states is one watch, which stands as `w` and had entered MADE `n` times, with its HOLD
applied, and what that posts. -/
def SetUp (st : Fin 16) (w : Watch) (n : Nat) (s v : State) : Prop :=
  v.watchUnit.watches[st] = w ∧ v.valves[st].hold = heldBy (v.watchCfg st) w s.valves[st].hold ∧
    Posts (watchPostings v st n s.valves[st].hold v.valves[st].hold) s v ∧
    (∀ k : Fin 16, k ≠ st → v.valves[k] = s.valves[k] ∧ v.watchUnit.watches[k] = s.watchUnit.watches[k]) ∧
    v.valves[st].own = s.valves[st].own ∧ v.watchUnit.firstPending = s.watchUnit.firstPending

section SetUp

variable {st : Fin 16} {w : Watch} {n : Nat} {s v : State}

theorem settleWatch_frame (made : Bool) (s : State) : (settleWatch st made s).profile = s.profile ∧
    (settleWatch st made s).traps = s.traps ∧ (settleWatch st made s).now = s.now := by
  obtain ⟨hprofile, -, hnow, htraps, -⟩ := (settleWatch_effects st made s).frame
  exact ⟨hprofile, htraps, hnow⟩

theorem settleWatch_setUp (made : Bool) (s : State) (w : Watch) :
    SetUp st w (if made then 1 else 0) s (settleWatch st made (s.setWatch st w)) := by
  obtain ⟨hprofile, htraps, -⟩ := settleWatch_frame (st := st) made (s.setWatch st w)
  have hwatches := settleWatch_watchUnit st made (s.setWatch st w)
  have hvalve := settleWatch_valves st made (s.setWatch st w) st
  rw [if_pos rfl, setWatch_watches, if_pos rfl] at hvalve
  have hcfg : (settleWatch st made (s.setWatch st w)).watchCfg st = s.watchCfg st := by
    rw [State.watchCfg, hprofile]
    rfl
  refine ⟨?_, ?_, ?_, fun k hk => ⟨?_, ?_⟩, ?_, ?_⟩
  · rw [hwatches, setWatch_watches, if_pos rfl]
  · rw [hvalve, hcfg]
    rfl
  · refine (Posts.of_port_then rfl rfl (settleWatch_posts st made (s.setWatch st w))).congr fun k => ?_
    rw [watchPostings_congr (settleWatch_effects st made (s.setWatch st w))]
    rfl
  · rw [settleWatch_valves, if_neg hk]
    rfl
  · rw [hwatches, setWatch_watches_ne hk]
  · exact (settleWatch_effects st made (s.setWatch st w)).2.2.1 st
  · rw [hwatches]
    rfl

theorem applyHold_setUp (s : State) (w : Watch) : SetUp st w 0 s (applyHold st (s.setWatch st w)) :=
  settleWatch_setUp false s w

/-- The HOLD action does nothing where it has been applied. -/
theorem SetUp.applyHold_eq (h : SetUp st w n s v) : applyHold st v = v := by
  obtain ⟨hwatch, hhold, -⟩ := h
  have hsame : heldBy (v.watchCfg st) w v.valves[st].hold = v.valves[st].hold := by
    rw [hhold, heldBy_idem]
  rw [heldBy_eq, ← hwatch] at hsame
  simp only [applyHold, hsame, changeHold, if_true]

/-- The start may be any state with the same line time, port, valves and watches. -/
theorem SetUp.of_eq {s' : State} (h : SetUp st w n s' v) (hnow : s'.now = s.now) (hport : s'.port = s.port)
    (hvalves : s'.valves = s.valves) (hwatch : s'.watchUnit = s.watchUnit) : SetUp st w n s v := by
  obtain ⟨hw, hhold, hposts, hother, hown, hpending⟩ := h
  rw [hvalves] at hhold hposts hown
  rw [hwatch] at hpending
  refine ⟨hw, hhold, Posts.of_port_then hnow hport hposts, fun k hk => ?_, hown, hpending⟩
  rw [← hvalves, ← hwatch]
  exact hother k hk

/-- The watch is OFF, CLEAR, MAKING or MADE after a judgement that found it CLEAR, without start inhibit. -/
theorem judgedWatch_from_clear (s : State) (now : Nat) (st : Fin 16) {w : Watch} (hw : w.state = .clear) :
    (judgedWatch s false now st w).state ∈ [WatchState.off, .clear, .making, .made] := by
  unfold judgedWatch
  split
  · split
    · simp only [WatchCfg.judge, hw, Bool.false_and, Bool.false_eq_true, if_false]
      split
      · split <;> simp
      · simp
    · simp
  · simp

/-- What stands after a watch has been judged alone: the rest as it was, its WATCH member right, and the watches' postings. -/
def JudgedAlone (st : Fin 16) (s u : State) : Prop :=
  (∀ k : Fin 16, k ≠ st → u.valves[k] = s.valves[k] ∧ u.watchUnit.watches[k] = s.watchUnit.watches[k]) ∧
    u.valves[st].own = s.valves[st].own ∧ u.watchUnit.firstPending = s.watchUnit.firstPending ∧
    PostsOnly watchKinds s u ∧
    u.valves[st].hold.getLsbD 6 = ((u.watchCfg st).actions.hold && decide (u.watchUnit.watches[st].state ∈
      [WatchState.made, .breaking, .latched, .inhibited]))

theorem SetUp.judgedAlone (h : SetUp st w n s v) : JudgedAlone st s v := by
  obtain ⟨hw, hhold, hposts, hother, hown, hpending⟩ := h
  refine ⟨hother, hown, hpending, hposts.only fun k hk => watchPostings_other _ _ _ _ _ hk, ?_⟩
  rw [hhold, heldBy_member, hw]

/-- Postings of a watch in two rows are postings in one. -/
theorem watchPostings_append (v : State) (st : Fin 16) (a b : Nat) (h h' h'' : HoldSet) (k : AttnKind) :
    watchPostings v st a h h' k ++ watchPostings v st b h' h'' k =
      match k with
      | .approach => List.replicate (if (v.watchCfg st).actions.notify then a + b else 0) (.station st)
      | .trapEvent =>
        List.replicate (if (v.watchCfg st).actions.armCheck ∧ v.traps.receive.state ≠ .linedUp then a + b else 0)
          (.trap .receive)
      | .holdChange => List.replicate (crossing h h' + crossing h' h'') (.station st)
      | _ => [] := by
  cases k <;> simp only [watchPostings, List.replicate_append_replicate, List.append_nil]
  all_goals
    congr 1
    split <;> rfl

theorem entersMade_self (w : Watch) : entersMade w w = 0 := if_neg fun h => h.2 h.1

/-- A set-up watch is judged alone (R138, R149). -/
theorem SetUp.judgeOne (h : SetUp st w n s v) :
    OneWatchJudged st w n s (judgeOne st v) ∧ JudgedAlone st s (judgeOne st v) := by
  have halone := h.judgedAlone
  obtain ⟨hw, hhold, hposts, hother, hown, hpending⟩ := h
  cases hnow : v.now with
  | none =>
    have hsame : Machine.judgeOne st v = v := by rw [Machine.judgeOne, hnow]
    rw [hsame]
    have hadd := watchPostings_append v st n 0 s.valves[st].hold v.valves[st].hold v.valves[st].hold
    have hrow : ∀ k, watchPostings v st 0 v.valves[st].hold v.valves[st].hold k = [] := by
      intro k
      cases k <;> simp only [watchPostings, crossing_self, ite_self, List.replicate_zero]
    simp only [hrow, List.append_nil] at hadd
    have hposted := (hposts.congr (e' := _) fun k => (hadd k).symm).2.2
    refine ⟨⟨fun now ht => absurd (hnow.symm.trans ht) (by simp), fun _ => hw, ?_, postedAt_alone ?_, postedAt_alone ?_,
      postedAt_alone ?_⟩, halone⟩
    · rw [hw, heldBy_idem]
      exact hhold
    · rw [hw, entersMade_self]
      exact hposted .approach
    · rw [hw, entersMade_self]
      exact hposted .trapEvent
    · rw [← hhold]
      exact hposted .holdChange
  | some now =>
    have hjudge : Machine.judgeOne st v = judgeWatch false now v st := by rw [Machine.judgeOne, hnow]
    have heffects := judgeWatch_effects false now v st
    obtain ⟨hprofile, hregister, htime, htraps, -⟩ := heffects.frame
    have hcfg : (judgeWatch false now v st).watchCfg st = v.watchCfg st := by
      rw [State.watchCfg, hprofile, State.watchCfg]
    have hwatch := judgeWatch_watches false now v st st
    rw [if_pos rfl, hw] at hwatch
    have hvalve := judgeWatch_valves false now v st st
    rw [if_pos rfl, hw] at hvalve
    have hnewHold : (judgeWatch false now v st).valves[st].hold =
        heldBy (v.watchCfg st) (judgedWatch v false now st w) v.valves[st].hold := by
      rw [hvalve]
      rfl
    have hrow := judgeWatch_posts false now v st
    rw [hw, ← hvalve, ← hwatch] at hrow
    have hposted := ((hposts.trans hrow).congr (e' := _) fun k => (watchPostings_append v st n _ _ _ _ k).symm)
    rw [hjudge]
    refine ⟨⟨fun now' ht => ?_, fun ht => absurd (ht.symm.trans (htime.trans hnow)) (by simp), ?_, postedAt_alone ?_,
      postedAt_alone ?_, postedAt_alone ?_⟩, fun k hk => ?_, ?_, ?_, ?_, ?_⟩
    · obtain rfl : now = now' := Option.some_inj.mp (hnow.symm.trans (htime.symm.trans ht))
      rw [hwatch]
      exact watchJudged_congr hprofile hregister (judgedWatch_judged v false now st w)
    · rw [hcfg, hwatch, hnewHold, ← hhold]
    · rw [hcfg]
      exact hposted.2.2 .approach
    · rw [hcfg, htraps]
      exact hposted.2.2 .trapEvent
    · rw [hcfg, ← hhold]
      exact hposted.2.2 .holdChange
    · rw [judgeWatch_valves, if_neg hk, judgeWatch_watches, if_neg hk]
      exact hother k hk
    · exact (heffects.2.2.1 st).trans hown
    · rw [judgeWatch_firstPending, hpending]
    · exact (hposts.trans hrow).only fun k hk => by
        rw [watchPostings_other _ _ _ _ _ hk, watchPostings_other _ _ _ _ _ hk, List.append_nil]
    · rw [hnewHold, heldBy_member, hcfg, hwatch]

end SetUp

/-! ## ACKNOWLEDGE WATCH and the end of a delay (R145, R149) -/

theorem mayUse_acknowledgeWatch_iff (c : MasterClass) :
    mayUse c .acknowledgeWatch = true ↔ c ∈ [MasterClass.dispatch] := by
  cases c <;> decide

theorem judgeOne_effects_only {st : Fin 16} {s v : State} (h : OnlyChanges [.valves, .port, .watchUnit] s v) :
    OnlyChanges [.valves, .port, .watchUnit] s (judgeOne st v) :=
  h.trans ((judgeOne_effects st v).1.mono (by simp))

theorem settleWatch_set_only (st : Fin 16) (made : Bool) (s : State) (w : Watch) :
    OnlyChanges [.valves, .port, .watchUnit] s (settleWatch st made (s.setWatch st w)) :=
  ((setWatch_effects s st w).trans (settleWatch_effects st made _)).1.mono (by simp)

/-- A delay that runs out with power and line time at its deadline. -/
theorem exec_watchDelayExpiry {st : Fin 16} {s : State} {d : Delay} {now : Nat} (hpower : s.powered = true)
    (hnow : s.now = some now) (hd : s.watchUnit.watches[st].delay = some d) (hdue : d.deadline ≤ now) :
    exec (.watchDelayExpiry st) s = .next ((expireDelay st s).setReply none) := by
  have hwatchDue : watchDue now st s = true := by
    rw [watchDue, Watch.delayDue, hd]
    exact decide_eq_true hdue
  simp only [exec, execWatchDelayExpiry, happen, hpower, if_true, timed, hnow, hwatchDue]

theorem once_of_alone (st : Fin 16) (p : Prop) [Decidable p] (b : Fin 16 → Prop) [∀ k, Decidable (b k)]
    (hb : b st ↔ p) (n : Nat) : (fun k => if b k then (if k = st then n else 0) else 0) =
      fun k => if k = st then (if p then n else 0) else 0 := by
  funext k
  by_cases hk : k = st
  · subst hk
    simp [hb]
  · simp [hk]

section Settled

variable {st : Fin 16} {w : Watch} {n : Nat} {s v : State}

/-- The actions of one watch are those of the row over all. -/
theorem SetUp.actionsPosted (h : SetUp st w n s v) : ActionsPosted (fun k => if k = st then n else 0) s v := by
  obtain ⟨-, -, hposts, -⟩ := h
  refine ⟨?_, ?_⟩
  · rw [once_of_alone st ((v.watchCfg st).actions.notify = true) _ Iff.rfl]
    exact postedAt_alone (hposts.2.2 .approach)
  · rw [once_of_alone st ((v.watchCfg st).actions.armCheck = true ∧ v.traps.receive.state ≠ .linedUp) _ Iff.rfl]
    exact postedAt_alone (hposts.2.2 .trapEvent)

theorem SetUp.crossings (h : SetUp st w n s v) :
    PostedAt .holdChange (fun k => crossing s.valves[k].hold v.valves[k].hold) (fun k => .station k) s v := by
  obtain ⟨-, -, hposts, hother, -⟩ := h
  have halone : (fun k : Fin 16 => crossing s.valves[k].hold v.valves[k].hold) =
      fun k => if k = st then crossing s.valves[st].hold v.valves[st].hold else 0 := by
    funext k
    by_cases hk : k = st
    · subst hk
      rw [if_pos rfl]
    · rw [if_neg hk, (hother k hk).1, crossing_self]
  rw [halone]
  exact postedAt_alone (hposts.2.2 .holdChange)

end Settled

theorem expireDelay_making {st : Fin 16} {s : State} (h : s.watchUnit.watches[st].state = .making) :
    expireDelay st s = settleWatch st true
      (s.setWatch st { s.watchUnit.watches[st] with state := .made, delay := none }) := by
  simp only [expireDelay, h]

theorem expireDelay_breaking {st : Fin 16} {s : State} (h : s.watchUnit.watches[st].state = .breaking) :
    expireDelay st s = settleWatch st false
      (s.setWatch st { s.watchUnit.watches[st] with state := (s.watchCfg st).broken, delay := none }) := by
  simp only [expireDelay, h]

theorem acknowledgeWatch_latched {st : Fin 16} {s : State} (h : s.watchUnit.watches[st].state = .latched) :
    let t := judgeOne st (applyHold st (s.setWatch st { s.watchUnit.watches[st] with state := .clear }))
    acknowledgeWatch st.val s = done (.watchState t.watchUnit.watches[st].state) t := by
  rw [acknowledgeWatch, withWatch, watchIndex_val]
  exact if_pos h

theorem acknowledgeWatch_other {st : Fin 16} {s : State} (h : s.watchUnit.watches[st].state ≠ .latched) :
    acknowledgeWatch st.val s = refuseWith .state (.watchState s.watchUnit.watches[st].state) s := by
  rw [acknowledgeWatch, withWatch, watchIndex_val]
  exact if_neg h

theorem Posted.one {k : AttnKind} {x : Subject} {s t : State} (h : Posted k [x] s t) :
    t.port.detail[k.bit] = ⟨some x, t.now, min (s.port.detail[k.bit].count + 1) 65535⟩ := h.1

/-- Settles O45 (R145, R147 to R149). -/
theorem watchesAreAcknowledged : Obligations.WatchesAreAcknowledged := by
  intro st s hpower
  dsimp only
  refine ⟨fun m hable => ⟨fun hstate => ⟨m, .acknowledgeWatch, rfl, ?_⟩, fun hstate => ?_⟩, fun d now hnow hd hdue =>
    ⟨fun hstate => ?_, fun hstate => ?_⟩⟩
  · refine (serve_able (withParams (some st.val) acknowledgeWatch) mayUse_acknowledgeWatch_iff hable).trans ?_
    rw [withParams_some, acknowledgeWatch_other hstate, refuseWith, respond_refused]
  · have hset := applyHold_setUp (st := st) s { s.watchUnit.watches[st] with state := .clear }
    have hv := (settleWatch_frame (st := st) false (s.setWatch st { s.watchUnit.watches[st] with state := .clear })).2.2
    have hcfg : (judgeOne st (applyHold st (s.setWatch st { s.watchUnit.watches[st] with state := .clear }))).watchCfg st =
        s.watchCfg st := by
      rw [State.watchCfg, (judgeOne_effects st _).frame.1, (applyHold_effects st _).frame.1]
      rfl
    have hexec := done_able (i := .acknowledgeWatch m (some st.val))
      (body := withParams (some st.val) acknowledgeWatch) rfl mayUse_acknowledgeWatch_iff hable
      (acknowledgeWatch_latched hstate)
    have honly := judgeOne_effects_only (st := st) (settleWatch_set_only st false s
      { s.watchUnit.watches[st] with state := .clear })
    rw [show settleWatch st false (s.setWatch st { s.watchUnit.watches[st] with state := .clear }) =
      applyHold st (s.setWatch st { s.watchUnit.watches[st] with state := .clear }) from rfl] at hv honly
    generalize applyHold st (s.setWatch st { s.watchUnit.watches[st] with state := .clear }) = v at *
    obtain ⟨hjudged, hother, hown, hpending, hposts, hmember⟩ := hset.judgeOne
    have htime : (judgeOne st v).now = s.now := (judgeOne_effects st v).frame.2.2.1.trans hv
    rw [hcfg] at hmember
    refine ⟨judgeOne st v, hexec, honly, ⟨hother, hown, hpending, hposts, hmember⟩, hjudged,
      fun hnone => hjudged.2.1 (htime.trans hnone), ?_⟩
    cases hnow : s.now with
    | none =>
      rw [hjudged.2.1 (htime.trans hnow)]
      simp
    | some now =>
      rw [judgeOne, show v.now = some now from hv.trans hnow]
      dsimp only
      rw [judgeWatch_watches, if_pos rfl]
      exact judgedWatch_from_clear _ _ _ (congrArg Watch.state hset.1)
  · have hset := settleWatch_setUp (st := st) true s { s.watchUnit.watches[st] with state := .made, delay := none }
    have honly := settleWatch_set_only st true s { s.watchUnit.watches[st] with state := .made, delay := none }
    obtain ⟨hprofile, htraps, htime⟩ := settleWatch_frame (st := st) true
      (s.setWatch st { s.watchUnit.watches[st] with state := .made, delay := none })
    rw [← expireDelay_making hstate] at hset honly hprofile htraps htime
    have hexec := exec_watchDelayExpiry hpower hnow hd hdue
    generalize expireDelay st s = t at *
    obtain ⟨hother, hown, hpending, hposts, hmember⟩ := hset.judgedAlone
    have hactions := hset.actionsPosted
    have hcrossings := hset.crossings
    obtain ⟨hwatch, hhold, hrow, -⟩ := hset
    have hcfg : t.watchCfg st = s.watchCfg st := by
      rw [State.watchCfg, hprofile]
      rfl
    have happroach := hrow.2.2 .approach
    have htrapEvent := hrow.2.2 .trapEvent
    rw [hcfg] at hmember hhold
    simp only [watchPostings, hcfg, htraps, State.setWatch, State.setWatchUnit_traps, if_true] at happroach htrapEvent
    refine ⟨t.setReply none, hexec, rfl, (honly.mono (by simp)).then (setReply_only t none) (by simp),
      ⟨hother, hown, hpending, hposts, hmember⟩, hwatch, hhold, hactions, hcrossings, fun hnotify => ?_,
      fun harm htrap => ?_, fun hquiet => ?_⟩
    · rw [if_pos hnotify] at happroach
      exact happroach.one.trans (by rw [htime]; exact congrArg (fun x => Detail.mk _ x _) hnow)
    · rw [if_pos ⟨harm, htrap⟩] at htrapEvent
      exact htrapEvent.one.trans (by rw [htime]; exact congrArg (fun x => Detail.mk _ x _) hnow)
    · rw [if_neg fun h => hquiet.elim (fun hoff => absurd (hoff.symm.trans h.1) Bool.false_ne_true) h.2] at htrapEvent
      exact htrapEvent.1
  · have hset := settleWatch_setUp (st := st) false s
      { s.watchUnit.watches[st] with state := (s.watchCfg st).broken, delay := none }
    have honly := settleWatch_set_only st false s
      { s.watchUnit.watches[st] with state := (s.watchCfg st).broken, delay := none }
    obtain ⟨hprofile, htraps, htime⟩ := settleWatch_frame (st := st) false
      (s.setWatch st { s.watchUnit.watches[st] with state := (s.watchCfg st).broken, delay := none })
    rw [← expireDelay_breaking hstate] at hset honly hprofile htraps htime
    have hexec := exec_watchDelayExpiry hpower hnow hd hdue
    generalize expireDelay st s = t at *
    obtain ⟨hother, hown, hpending, hposts, hmember⟩ := hset.judgedAlone
    have hactions := hset.actionsPosted
    simp only [Bool.false_eq_true, if_false, ite_self] at hactions
    have hcrossings := hset.crossings
    obtain ⟨hwatch, hhold, hrow, -⟩ := hset
    have hcfg : t.watchCfg st = s.watchCfg st := by
      rw [State.watchCfg, hprofile]
      rfl
    rw [hcfg] at hmember hhold
    refine ⟨t.setReply none, hexec, rfl, (honly.mono (by simp)).then (setReply_only t none) (by simp),
      ⟨hother, hown, hpending, hposts, hmember⟩, hwatch, ?_, hactions, hcrossings,
      hrow.unposted (k := .approach) ?_⟩
    · exact (congrArg (fun x => heldBy (s.watchCfg st) x s.valves[st].hold) hwatch).symm ▸ hhold
    · simp [watchPostings]

end Sys2Proof.Machine


/-! PROOF. The valves: what is handed to the watches, REPORT VALVE, NOTIFY FORCED STROKE, STROKE DONE, REQUEST STROKE, and
the deadlines that run out (R118, R119, R125 to R132, R142, R161, R168). -/

namespace Sys2Proof.Machine

/-! ## A judgement after postings of other kinds -/

theorem judgeAll_now (s : State) : (judgeAll s).now = s.now := (judgeAll_effects s).frame.2.2.1

section JudgedFrom

variable {s v : State}

/-- A judgement of every watch counts from an earlier state with the same watches and hold sets, where nothing posted a
kind of theirs in between. -/
theorem judgeAll_judged_from (hwatch : v.watchUnit = s.watchUnit)
    (hhold : ∀ st : Fin 16, v.valves[st].hold = s.valves[st].hold) (hposted : ∀ k ∈ watchKinds, Posted k [] s v) :
    WatchesJudged s (judgeAll v) := by
  intro now hnow
  obtain ⟨hpending, hwatches, ⟨happroach, htrapEvent⟩, hcrossings⟩ := judgeAll_judged v now hnow
  have hjoin : ∀ {k l}, k ∈ watchKinds → Posted k l v (judgeAll v) → Posted k l s (judgeAll v) :=
    fun hk h => (hposted _ hk).trans h (judgeAll_now v)
  simp only [hwatch, hhold] at hwatches happroach htrapEvent hcrossings
  exact ⟨hpending, hwatches, ⟨hjoin (by simp [watchKinds]) happroach, hjoin (by simp [watchKinds]) htrapEvent⟩,
    hjoin (by simp [watchKinds]) hcrossings⟩

/-- Another kind is posted by a judgement no further. -/
theorem judgeAll_posted_from {k : AttnKind} {l : List Subject} (hk : k ∉ watchKinds) (h : Posted k l s v) :
    Posted k l s (judgeAll v) := by
  have hjoin := h.trans ((judgeAll_postsOnly v).2 k hk) (judgeAll_now v)
  rwa [List.append_nil] at hjoin

theorem Posted.bit_true {k : AttnKind} {x : Subject} (h : Posted k [x] s v) (m : Master) :
    (v.context m).attention.getLsbD k.bit.val = true := by
  rw [h.2 m]
  simp

end JudgedFrom

/-! ## A position handed to the watches (R118, R142) -/

section Handed

variable {old new : ValvePos} {e : AttnKind → List Subject} {s v : State}

theorem handPosition_same (h : old = new) (v : State) : handPosition old new v = v := if_pos h

theorem handPosition_other (h : old ≠ new) (v : State) : handPosition old new v = judgeAll v := if_neg h

theorem handPosition_effects (old new : ValvePos) (v : State) : WatchEffects v (handPosition old new v) := by
  unfold handPosition
  split
  · exact WatchEffects.refl v
  · exact judgeAll_effects v

theorem handPosition_now (old new : ValvePos) (v : State) : (handPosition old new v).now = v.now :=
  (handPosition_effects old new v).frame.2.2.1

theorem handPosition_unset (h : v.now = none) : handPosition old new v = v := by
  unfold handPosition
  split
  · rfl
  · exact judgeAll_unset h

theorem handPosition_posted {k : AttnKind} {l : List Subject} (hk : k ∉ watchKinds) (h : Posted k l s v) :
    Posted k l s (handPosition old new v) := by
  unfold handPosition
  split
  · exact h
  · exact judgeAll_posted_from hk h

theorem handPosition_postsOnly {kinds : List AttnKind} (h : PostsOnly kinds s v) :
    PostsOnly (kinds ++ watchKinds) s (handPosition old new v) := by
  refine ⟨h.1.trans (handPosition_effects old new v).contexts, fun k hk => ?_⟩
  rw [List.mem_append, not_or] at hk
  exact handPosition_posted hk.2 (h.2 k hk.1)

theorem handPosition_judged (hwatch : v.watchUnit = s.watchUnit)
    (hhold : ∀ st : Fin 16, v.valves[st].hold = s.valves[st].hold) (hposted : ∀ k ∈ watchKinds, Posted k [] s v)
    (h : old ≠ new) : WatchesJudged s (handPosition old new v) := by
  rw [handPosition_other h]
  exact judgeAll_judged_from hwatch hhold hposted

end Handed

@[simp] theorem setValve_setValve (s : State) (st : Fin 16) (v w : Valve) :
    (s.setValve st v).setValve st w = s.setValve st w := by
  simp [State.setValve, State.setValves]

theorem setValve_self (s : State) (st : Fin 16) : s.setValve st s.valves[st] = s := by
  simp only [State.setValve, Fin.getElem_fin, Vector.set_getElem_self]
  rfl

theorem writePosition_eq (st : Fin 16) (pos : ValvePos) (s : State) : writePosition st pos s =
    handPosition s.valves[st].position pos (s.setValve st { s.valves[st] with position := pos }) := by
  simp only [writePosition, handPosition]
  split
  · next h =>
    rw [← h]
    exact (setValve_self s st).symm
  · rfl

/-- One valve written, with its hold set kept, posts nothing and leaves the other hold sets. -/
theorem setValve_hold {s : State} {st : Fin 16} {v : Valve} (hv : v.hold = s.valves[st].hold) (k : Fin 16) :
    (s.setValve st v).valves[k].hold = s.valves[k].hold := by
  rw [setValve_valves]
  split
  · next hk => rw [hk, hv]
  · rfl

theorem setValve_valves_ne {s : State} {st k : Fin 16} (hk : k ≠ st) (v : Valve) :
    (s.setValve st v).valves[k] = s.valves[k] := by rw [setValve_valves, if_neg hk]

theorem setValve_valves_self (s : State) (st : Fin 16) (v : Valve) : (s.setValve st v).valves[st] = v := by
  rw [setValve_valves, if_pos rfl]

theorem setValve_only (s : State) (st : Fin 16) (v : Valve) : OnlyChanges [.valves] s (s.setValve st v) :=
  setValves_only s _

theorem Posts.quiet_posted {s v : State} (hport : v.port = s.port) (k : AttnKind) : Posted k [] s v := .of_port hport

/-! ## REPORT VALVE and NOTIFY FORCED STROKE (R118, R119, R132) -/

theorem mayUse_reportValve_iff (c : MasterClass) :
    mayUse c .reportValve = true ↔ c ∈ [MasterClass.link, .trap] := by
  cases c <;> decide

theorem mayUse_notifyForcedStroke_iff (c : MasterClass) :
    mayUse c .notifyForcedStroke = true ↔ c ∈ [MasterClass.dispatch, .link] := by
  cases c <;> decide

theorem own_eq_iff {v w : Valve} : v.own = w.own ↔ v.position = w.position ∧
    manualHolds v.hold = manualHolds w.hold ∧ v.permit = w.permit ∧ v.lapsed = w.lapsed ∧ v.forced = w.forced := by
  simp [Valve.own]

/-- The state in which a valve's position has been reported. -/
theorem writePosition_leaves (st : Fin 16) (pos : ValvePos) (s : State) :
    OnlyChanges [.valves, .port, .watchUnit] s (writePosition st pos s) ∧
      (∀ k : Fin 16, k ≠ st → (writePosition st pos s).valves[k].own = s.valves[k].own) ∧
      (writePosition st pos s).valves[st].own = { s.valves[st] with position := pos }.own ∧
      PostsOnly watchKinds s (writePosition st pos s) ∧
      (s.valves[st].position ≠ pos → WatchesJudged s (writePosition st pos s)) := by
  rw [writePosition_eq]
  obtain ⟨honly, -, hown, -⟩ := handPosition_effects s.valves[st].position pos
    (s.setValve st { s.valves[st] with position := pos })
  refine ⟨((setValve_only s st _).mono (by simp)).trans (honly.mono (by simp)), fun k hk => ?_, ?_,
    handPosition_postsOnly (kinds := []) ⟨ContextsKept.of_port ⟨fun _ => rfl, rfl, rfl⟩ rfl, fun k _ => .of_port rfl⟩,
    handPosition_judged rfl (setValve_hold rfl) fun k _ => .of_port rfl⟩
  · rw [hown, setValve_valves_ne hk]
  · rw [hown, setValve_valves_self]

/-- The zone of a station in millimetres. -/
theorem inZone_eq {s : State} {st : Fin 16} {x : Station} (hx : s.profile.station? st = some x) :
    s.inZone st = fun p : Pig =>
      decide (((x.chainage : Int) - x.halfWidth) * 1000 ≤ p.position ∧ p.position ≤ (x.chainage + x.halfWidth) * 1000) := by
  funext p
  simp only [State.inZone, hx, Station.inZone]
  rw [Bool.eq_iff_iff, Bool.and_eq_true, decide_eq_true_iff, decide_eq_true_iff, decide_eq_true_iff]
  rfl

/-- The state that a forced stroke writes, before the watches are judged. -/
def strokeForced (st : Fin 16) (d : Direction) (s : State) : State :=
  post .forcedStroke (some (.station st)) ((s.setValve st { s.valves[st] with
    permit := none
    lapsed := none
    position := .moving
    forced := some ⟨d, s.now⟩ }).setInLine (s.register.inLine.map (fun p => if s.inZone st p then p.strike else p)))

/-- Settles O41 (R118, R119, R132, R142). -/
theorem valvesAreReported : Obligations.ValvesAreReported := by
  intro m st s hst
  refine ⟨fun pos hable => ?_, fun x d hable hx => ?_⟩
  · dsimp only
    obtain ⟨honly, hother, hown, hposts, hjudged⟩ := writePosition_leaves st pos s
    obtain ⟨hposition, -, hpermit, -⟩ := own_eq_iff.mp hown
    refine ⟨?_, hposition, hpermit, hother, hown, hposts, hjudged, honly⟩
    refine done_able (body := withParams (some ⟨st.val, pos⟩) reportValve) rfl mayUse_reportValve_iff hable ?_
    rw [withParams_some, reportValve, withStation_inside _ hst]
    rfl
  · dsimp only
    obtain ⟨honly, -, hown, -⟩ := handPosition_effects s.valves[st].position .moving (strokeForced st d s)
    have hposts : Posts (once .forcedStroke (.station st)) s (strokeForced st d s) :=
      Posts.of_port_then rfl rfl (post_posts _ _ _)
    have hforced := handPosition_posted (old := s.valves[st].position) (new := .moving) (k := .forcedStroke)
      (by simp [watchKinds]) (hposts.2.2 .forcedStroke)
    have hvalve : (strokeForced st d s).valves[st] =
        { s.valves[st] with permit := none, lapsed := none, position := .moving, forced := some ⟨d, s.now⟩ } :=
      setValve_valves_self s st _
    have hvalve_ne : ∀ k : Fin 16, k ≠ st → (strokeForced st d s).valves[k] = s.valves[k] :=
      fun k hk => setValve_valves_ne hk _
    have hhold : ∀ k : Fin 16, (strokeForced st d s).valves[k].hold = s.valves[k].hold := by
      intro k
      by_cases hk : k = st
      · subst hk
        rw [hvalve]
      · rw [hvalve_ne k hk]
    have hchanged : OnlyChanges [.valves, .port, .register] s (strokeForced st d s) :=
      (((setValve_only s st _).mono (by simp)).trans ((setInLine_only _ _).mono (by simp))).trans
        ((post_only _ _ _).mono (by simp))
    have htime : (handPosition s.valves[st].position .moving (strokeForced st d s)).now = s.now :=
      (handPosition_now _ _ _).trans hposts.1
    have howned := hown st
    rw [hvalve] at howned
    obtain ⟨hposition, -, hpermit, hlapsed, hforce⟩ := own_eq_iff.mp howned
    refine ⟨handPosition s.valves[st].position .moving (strokeForced st d s),
      done_able (body := withParams (some ⟨st.val, d⟩) notifyForcedStroke) rfl mayUse_notifyForcedStroke_iff hable ?_,
      (hchanged.mono (by simp)).trans (honly.mono (by simp)), ?_, hposition, hpermit, hlapsed, hforce,
      fun k hk => by rw [hown, hvalve_ne k hk], ?_, hforced.bit_true, fun hquiet => ?_, howned,
      handPosition_postsOnly (kinds := [.forcedStroke]) (hposts.only fun k hk => if_neg (by simpa using hk)),
      handPosition_judged rfl hhold fun k hk => ?_⟩
    · rw [withParams_some, notifyForcedStroke, withStation_inside _ hst, ← inZone_eq hx]
      rfl
    · rw [(handPosition_effects _ _ _).frame.2.1]
      exact congrArg (fun f : Pig → Bool => ({ s.register with
        inLine := s.register.inLine.map fun p => if f p then p.strike else p } : Register)) (inZone_eq hx)
    · rw [← htime]
      exact hforced.one
    · have hsame : handPosition s.valves[st].position .moving (strokeForced st d s) = strokeForced st d s :=
        hquiet.elim (fun hnone => handPosition_unset (hposts.1.trans hnone)) fun hmoving => handPosition_same hmoving _
      rw [hsame, hvalve]
      exact ⟨rfl, rfl, rfl⟩
    · have hquiet := hposts.2.2 k
      rwa [once, if_neg] at hquiet
      rintro rfl
      simp [watchKinds] at hk

end Sys2Proof.Machine


/-! PROOF. REQUEST STROKE, STROKE DONE, and the deadlines that run out (R125 to R130, R161, R168). -/

namespace Sys2Proof.Machine

/-! ## Refusals with data -/

/-- A refusal with data of a command's own rule. -/
theorem refusesWith_able {i : Instr} {m : Master} {k : Command} {l : List MasterClass}
    {body : State → State × Answer} {s : State} {r : Reason} {d : ReplyData} (hi : i.request = some (m, k))
    (hexec : exec i s = serve m k (whenComplete body) s) (hk : ∀ c, mayUse c k = true ↔ c ∈ l) (h : s.able m l)
    (hbody : body s = refuseWith r d s) : RefusesWith i r d s :=
  ⟨m, k, hi, hexec.trans ((serve_able body hk h).trans (by rw [hbody, refuseWith, respond_refused]))⟩

/-! ## What each check of a stroke finds (R126, R127) -/

section Finds

variable {s : State} {st : Fin 16} {x : Station} {d : Direction} {p : Pig}

theorem zoneFinds_iff : zoneFinds x d p = true ↔ x.zoneStart ≤ p.position ∧
    p.position ≤ (x.chainage + x.halfWidth) * 1000 ∧ ¬ (d = .toOpen ∧ (p.position : Int) = x.zoneStart) := by
  have hin : x.inZone p.position = true ↔
      x.zoneStart ≤ p.position ∧ p.position ≤ (x.chainage + x.halfWidth) * 1000 := by
    rw [Station.inZone, Bool.and_eq_true, decide_eq_true_iff, decide_eq_true_iff]
    rfl
  have hedge : (!(d = .toOpen && (p.position : Int) == x.zoneStart)) = true ↔
      ¬ (d = .toOpen ∧ (p.position : Int) = x.zoneStart) := by
    rw [Bool.not_eq_true', Bool.eq_false_iff, ne_eq, Bool.and_eq_true, decide_eq_true_iff, beq_iff_eq]
  rw [zoneFinds, Bool.and_eq_true, hin, hedge, and_assoc]

theorem unverifiedFinds_iff : unverifiedFinds s st p = true ↔ p.status = .unverified ∧
    ∃ r, s.profile.reachAt p.position = some r ∧ (r = st.val ∨ r + 1 = st.val) := by
  rw [unverifiedFinds, Bool.and_eq_true, decide_eq_true_iff]
  refine and_congr_right fun _ => ?_
  cases s.profile.reachAt p.position with
  | none => simp
  | some r => simp [or_comm]

/-- A pig below the zone start that moves reaches it in the least number of seconds that cover the distance (R127). -/
theorem zoneEta_least (hbelow : (p.position : Int) < x.zoneStart) (hspeed : p.speed ≠ 0) :
    ∃ n, zoneEta x p = some n ∧ x.zoneStart - p.position ≤ (n * p.speed : Nat) ∧
      ∀ k : Nat, x.zoneStart - p.position ≤ (k * p.speed : Nat) → n ≤ k := by
  obtain ⟨n, hn, hcovers, hleast⟩ := etaOver_least (x.zoneStart - p.position).toNat p.speed hspeed
  exact ⟨n, (if_pos hbelow).trans hn, by omega, fun k hk => hleast k (by omega)⟩

theorem approachFinds_iff : approachFinds x p = true ↔ (p.position : Int) < x.zoneStart ∧ p.speed ≠ 0 ∧
    x.zoneStart - p.position ≤ ((x.strokeTime + 30) * p.speed : Nat) := by
  by_cases hbelow : (p.position : Int) < x.zoneStart
  · by_cases hspeed : p.speed = 0
    · have hnone : zoneEta x p = none := by rw [zoneEta, if_pos hbelow, etaOver, if_pos hspeed]
      simp [approachFinds, hnone, hspeed]
    · obtain ⟨n, hn, hcovers, hleast⟩ := zoneEta_least hbelow hspeed
      have hcheck : approachFinds x p = decide (n ≤ x.strokeTime + 30) := by
        rw [approachFinds, hn]
        rfl
      rw [hcheck, decide_eq_true_iff]
      refine ⟨fun hlimit => ⟨hbelow, hspeed, ?_⟩, fun h => hleast _ h.2.2⟩
      have := Nat.mul_le_mul_right p.speed hlimit
      omega
  · have hnone : zoneEta x p = none := by rw [zoneEta, if_neg hbelow]
    simp [approachFinds, hnone, hbelow]

/-- The first pig from the head that a check finds. -/
theorem find?_first {l ahead behind : List Pig} {f : Pig → Bool} (hl : l = ahead ++ p :: behind) (hp : f p = true)
    (hahead : ∀ a ∈ ahead, ¬ f a = true) : l.find? f = some p := by
  rw [List.find?_eq_some_iff_append]
  exact ⟨hp, ahead, behind, hl, fun a ha => by rw [Bool.not_eq_true', Bool.eq_false_iff]; exact hahead a ha⟩

end Finds

theorem mayUse_requestStroke_iff (c : MasterClass) :
    mayUse c .requestStroke = true ↔ c ∈ [MasterClass.link, .trap] := by
  cases c <;> decide

/-- With line time set, a request at a station of the line is judged by the checks from the permit on. -/
theorem requestStroke_judged {m : Master} {st : Fin 16} {d : Direction} {s : State} {now : Nat} {x : Station}
    (hnow : s.now = some now) (hst : st.val < s.profile.count) (hx : s.profile.station? st = some x) :
    whenTime (fun now => withParams (some ⟨st.val, d⟩) fun a => requestStroke m a now) s =
      judgeStroke m now d st x s := by
  rw [whenTime_set _ hnow, withParams_some, requestStroke, withStation_inside _ hst, hx]

/-- Past the first checks the pigs of the line decide. -/
theorem judgeStroke_pigs {m : Master} {now : Nat} {d : Direction} {st : Fin 16} {x : Station} {s : State}
    (hpermit : s.valves[st].permit = none) (hposition : s.valves[st].position ≠ targetPosition d)
    (hhold : s.valves[st].hold = 0#7) : judgeStroke m now d st x s =
      match strokeFinds s st x d with
      | some found => refuseWith .interlock found s
      | none => done (.expiry (permitExpiry x now)) (s.setValve st
          { s.valves[st] with permit := some ⟨m, d, permitExpiry x now⟩, lapsed := none }) := by
  simp only [judgeStroke, hpermit, Option.isSome_none, Bool.false_eq_true, if_false, if_neg hposition, hhold, ne_eq,
    not_true_eq_false]
  cases strokeFinds s st x d <;> rfl

/-- Settles O42 (R125 to R128). -/
theorem strokesArePermitted : Obligations.StrokesArePermitted := by
  intro m st d s now x hable hnow hst hx
  dsimp only
  have htarget : (match d with | .toOpen => ValvePos.opened | .toClose => .closed) = targetPosition d := by
    cases d <;> rfl
  have hrefused : ∀ {r}, judgeStroke m now d st x s = refuse r s →
      Refuses (.requestStroke m (some ⟨st.val, d⟩)) r s := fun h =>
    refuses_able (body := whenTime fun now => withParams (some ⟨st.val, d⟩) fun a => requestStroke m a now) rfl rfl
      mayUse_requestStroke_iff hable ((requestStroke_judged hnow hst hx).trans h)
  have hrefusedWith : ∀ {r data}, judgeStroke m now d st x s = refuseWith r data s →
      RefusesWith (.requestStroke m (some ⟨st.val, d⟩)) r data s := fun h =>
    refusesWith_able (body := whenTime fun now => withParams (some ⟨st.val, d⟩) fun a => requestStroke m a now) rfl rfl
      mayUse_requestStroke_iff hable ((requestStroke_judged hnow hst hx).trans h)
  refine ⟨fun hpermit => hrefused (if_pos (Option.isSome_iff_ne_none.mpr hpermit)), fun hpermit hposition => hrefused ?_,
    fun hpermit hposition hhold => hrefusedWith ?_, fun hpermit hposition hhold => ?_⟩
  · rw [judgeStroke, hpermit, if_neg (by simp), if_pos (hposition.trans htarget)]
  · rw [judgeStroke, hpermit, if_neg (by simp), if_neg (fun h => hposition (h.trans htarget.symm)), if_pos hhold,
      refuseWith]
  have hjudged := judgeStroke_pigs (m := m) (now := now) (x := x) hpermit
    (fun h => hposition (h.trans htarget.symm)) hhold
  refine ⟨fun p ⟨ahead, behind, hl, hp, hahead⟩ => hrefusedWith (hjudged.trans ?_), fun hzone => ?_⟩
  · rw [strokeFinds, find?_first hl (zoneFinds_iff.mpr hp) fun a ha h => hahead a ha (zoneFinds_iff.mp h)]
  have hzoneFree : s.register.inLine.find? (zoneFinds x d) = none :=
    List.find?_eq_none.mpr fun q hq h => hzone q hq (zoneFinds_iff.mp h)
  refine ⟨fun p ⟨ahead, behind, hl, hp, hahead⟩ => hrefusedWith (hjudged.trans ?_), fun hunverified => ?_⟩
  · rw [strokeFinds, hzoneFree,
      find?_first hl (unverifiedFinds_iff.mpr hp) fun a ha h => hahead a ha (unverifiedFinds_iff.mp h)]
  have hreachFree : s.register.inLine.find? (unverifiedFinds s st) = none :=
    List.find?_eq_none.mpr fun q hq h => hunverified q hq (unverifiedFinds_iff.mp h)
  refine ⟨fun p ⟨ahead, behind, hl, hp, hahead⟩ => ?_, fun hclear => ?_⟩
  · obtain ⟨n, hn, hcovers, hleast⟩ := zoneEta_least hp.1 hp.2.1
    refine ⟨n, hrefusedWith (hjudged.trans ?_), hcovers, hleast⟩
    rw [strokeFinds, hzoneFree, hreachFree,
      find?_first hl (approachFinds_iff.mpr hp) fun a ha h => hahead a ha (approachFinds_iff.mp h)]
    dsimp only
    rw [hn]
  · have hfree : strokeFinds s st x d = none := by
      rw [strokeFinds, hzoneFree, hreachFree,
        List.find?_eq_none.mpr fun q hq h => hclear q hq (approachFinds_iff.mp h)]
    rw [hfree] at hjudged
    exact ⟨_, done_able (body := whenTime fun now => withParams (some ⟨st.val, d⟩) fun a => requestStroke m a now) rfl
      mayUse_requestStroke_iff hable ((requestStroke_judged hnow hst hx).trans hjudged),
      (setValve_only s st _).replied m _, rfl, sendReply_replied m _ _⟩

/-! ## STROKE DONE (R129) -/

theorem mayUse_strokeDone_iff (c : MasterClass) : mayUse c .strokeDone = true ↔ c ∈ [MasterClass.link, .trap] := by
  cases c <;> decide

/-- What a stroke that ends leaves, with the valve's permit or lapsed permit gone. -/
theorem strokeEnded_leaves {st : Fin 16} {s : State} {v : Valve} {pos : ValvePos}
    (hposition : v.position = s.valves[st].position) (hhold : v.hold = s.valves[st].hold)
    (hforced : v.forced = s.valves[st].forced) :
    let u := writePosition st pos (s.setValve st v)
    OnlyChanges [.valves, .port, .watchUnit] s u ∧
      u.valves[st].own = (pos, manualHolds s.valves[st].hold, v.permit, v.lapsed, s.valves[st].forced) ∧
      (∀ k : Fin 16, k ≠ st → u.valves[k].own = s.valves[k].own) ∧
      (s.valves[st].position = pos ∨ s.now = none → u = s.setValves (s.valves.set st { v with position := pos })) ∧
      PostsOnly watchKinds s u ∧ (s.valves[st].position ≠ pos → WatchesJudged s u) := by
  dsimp only
  rw [writePosition_eq, setValve_valves_self, setValve_setValve, hposition]
  obtain ⟨honly, -, hown, -⟩ := handPosition_effects s.valves[st].position pos
    (s.setValve st { v with position := pos })
  refine ⟨((setValve_only s st _).mono (by simp)).trans (honly.mono (by simp)), ?_, fun k hk => ?_, fun hquiet => ?_,
    handPosition_postsOnly (kinds := []) ⟨ContextsKept.of_port ⟨fun _ => rfl, rfl, rfl⟩ rfl, fun k _ => .of_port rfl⟩,
    handPosition_judged rfl (setValve_hold hhold) fun k _ => .of_port rfl⟩
  · rw [hown, setValve_valves_self, Valve.own, hhold, hforced]
  · rw [hown, setValve_valves_ne hk]
  · exact hquiet.elim (fun hsame => handPosition_same hsame _) fun hnone => handPosition_unset hnone

/-- Settles O43 (R129, R142). -/
theorem strokesEnd : Obligations.StrokesEnd := by
  intro m st pos s hable hst
  dsimp only
  have hbody : pos ≠ .moving → strokeDone m ⟨st.val, pos⟩ s =
      match s.valves[st].permit with
      | some p =>
        if p.owner = m then
          done .nothing (writePosition st pos (s.setValve st { s.valves[st] with permit := none }))
        else refuse .notOwner s
      | none =>
        if s.valves[st].lapsed.map (·.owner) = some m then
          (writePosition st pos (s.setValve st { s.valves[st] with lapsed := none }), .late .nothing)
        else refuse .state s := by
    intro hpos
    rw [strokeDone, if_neg hpos, withStation_inside _ hst]
    rfl
  have hrefused : ∀ {r}, strokeDone m ⟨st.val, pos⟩ s = refuse r s →
      Refuses (.strokeDone m (some ⟨st.val, pos⟩)) r s := fun h =>
    refuses_able (body := withParams (some (⟨st.val, pos⟩ : ValveArgs)) (strokeDone m)) rfl rfl mayUse_strokeDone_iff hable h
  refine ⟨fun hpos => hrefused (if_pos hpos), fun hpos => ⟨fun p hp howner => ?_, fun p hp howner => hrefused ?_,
    fun l hp hl howner => ?_, fun hp hl => hrefused ?_⟩⟩
  · refine ⟨_, done_able (i := .strokeDone m (some ⟨st.val, pos⟩)) (body := withParams (some (⟨st.val, pos⟩ : ValveArgs)) (strokeDone m))
      rfl mayUse_strokeDone_iff hable ?_, strokeEnded_leaves (v := { s.valves[st] with permit := none }) rfl rfl rfl⟩
    rw [withParams_some, hbody hpos, hp]
    exact if_pos howner
  · rw [hbody hpos, hp]
    exact if_neg howner
  · refine ⟨writePosition st pos (s.setValve st { s.valves[st] with lapsed := none }),
      (serve_able (withParams (some (⟨st.val, pos⟩ : ValveArgs)) (strokeDone m)) mayUse_strokeDone_iff hable).trans ?_,
      strokeEnded_leaves (v := { s.valves[st] with lapsed := none }) rfl rfl rfl⟩
    have howned : s.valves[st].lapsed.map (·.owner) = some m := by rw [hl, Option.map_some, howner]
    rw [withParams_some, hbody hpos, hp]
    dsimp only
    rw [if_pos howned, respond_late]
  · have hother : ¬ s.valves[st].lapsed.map (·.owner) = some m := by
      intro howned
      obtain ⟨l, hlapsed, howner⟩ := Option.map_eq_some_iff.mp howned
      exact hl l hlapsed howner
    rw [hbody hpos, hp]
    exact if_neg hother

/-! ## Deadlines (R130, R161, R168) -/

/-- An event that a timer brings, with power and line time set. -/
theorem happen_timed {f : Nat → State → State} {s : State} {now : Nat} (hpower : s.powered = true)
    (hnow : s.now = some now) : happen (timed f) s = .next ((f now s).setReply none) := by
  simp only [happen, hpower, if_true, timed, hnow]

theorem reached_some {now d : Nat} (h : d ≤ now) : reached now (some d) = true := decide_eq_true h

/-- The state in which a permit has expired, before the watches are judged. -/
def permitExpired (st : Fin 16) (p : Permit) (s : State) : State :=
  post .permitExpired (some (.station st))
    (s.setValve st { s.valves[st] with position := .unknown, permit := none, lapsed := some ⟨p.owner, p.direction⟩ })

theorem expirePermit_eq {st : Fin 16} {p : Permit} {s : State} (hp : s.valves[st].permit = some p) :
    expirePermit st s = handPosition s.valves[st].position .unknown (permitExpired st p s) := by
  simp only [expirePermit, hp]
  rfl

theorem permitExpired_posts (st : Fin 16) (p : Permit) (s : State) :
    Posts (once .permitExpired (.station st)) s (permitExpired st p s) :=
  Posts.of_port_then rfl rfl (post_posts _ _ _)

theorem permitExpired_valves (st k : Fin 16) (p : Permit) (s : State) : (permitExpired st p s).valves[k] =
    if k = st then
      { s.valves[st] with position := .unknown, permit := none, lapsed := some ⟨p.owner, p.direction⟩ }
    else s.valves[k] := setValve_valves _ _ _ _

theorem permitExpired_hold (st k : Fin 16) (p : Permit) (s : State) :
    (permitExpired st p s).valves[k].hold = s.valves[k].hold := by
  rw [permitExpired_valves]
  split
  · next hk => rw [hk]
  · rfl

theorem once_watchKinds {k : AttnKind} {x : Subject} (hk : k ∉ watchKinds) : ∀ j ∈ watchKinds, once k x j = [] := by
  intro j hj
  refine if_neg ?_
  rintro rfl
  exact hk hj

/-- What a permit that expires leaves (R130). -/
theorem permitRunsOut {s : State} {now : Nat} {st : Fin 16} {p : Permit} (hnow : s.now = some now)
    (hp : s.valves[st].permit = some p) :
    let t := expirePermit st s
    OnlyChanges [.valves, .port, .watchUnit] s t ∧ t.valves[st].position = .unknown ∧ t.valves[st].permit = none ∧
      t.valves[st].lapsed = some ⟨p.owner, p.direction⟩ ∧ t.valves[st].forced = s.valves[st].forced ∧
      manualHolds t.valves[st].hold = manualHolds s.valves[st].hold ∧
      (∀ k : Fin 16, k ≠ st → t.valves[k].own = s.valves[k].own) ∧
      t.port.detail[(8 : Fin 16)] =
        ⟨some (.station st), some now, min (s.port.detail[(8 : Fin 16)].count + 1) 65535⟩ ∧
      (∀ k : Master, (t.context k).attention.getLsbD 8 = true) ∧ PostsOnly (.permitExpired :: watchKinds) s t ∧
      (s.valves[st].position = .unknown → t.watchUnit = s.watchUnit ∧ t.valves[st].hold = s.valves[st].hold) ∧
      (s.valves[st].position ≠ .unknown → WatchesJudged s t) := by
  dsimp only
  rw [expirePermit_eq hp]
  obtain ⟨honly, -, hown, -⟩ := handPosition_effects s.valves[st].position .unknown (permitExpired st p s)
  have hposts := permitExpired_posts st p s
  have hexpired := handPosition_posted (old := s.valves[st].position) (new := .unknown) (k := .permitExpired)
    (by simp [watchKinds]) (hposts.2.2 .permitExpired)
  have htime : (handPosition s.valves[st].position .unknown (permitExpired st p s)).now = s.now :=
    (handPosition_now _ _ _).trans hposts.1
  have howned := hown st
  rw [permitExpired_valves, if_pos rfl] at howned
  obtain ⟨hposition, hmanual, hpermit, hlapsed, hforced⟩ := own_eq_iff.mp howned
  have hchanged : OnlyChanges [.valves, .port] s (permitExpired st p s) :=
    ((setValve_only s st _).mono (by simp)).trans ((post_only _ _ _).mono (by simp))
  refine ⟨(hchanged.mono (by simp)).trans (honly.mono (by simp)), hposition, hpermit, hlapsed, hforced, hmanual,
    fun k hk => by rw [hown, permitExpired_valves, if_neg hk], ?_, hexpired.bit_true,
    handPosition_postsOnly (kinds := [.permitExpired]) (hposts.only fun k hk => if_neg (by simpa using hk)),
    fun hsame => ?_, handPosition_judged rfl (permitExpired_hold st · p s) fun k hk => ?_⟩
  · rw [← hnow, ← htime]
    exact hexpired.one
  · rw [handPosition_same hsame]
    exact ⟨rfl, permitExpired_hold st st p s⟩
  · have hquiet := hposts.2.2 k
    rwa [once_watchKinds (by simp [watchKinds]) k hk] at hquiet

theorem leaveDriving_launchOverdue (t : TrapId) (old new : TrapState) (s : State) :
    (leaveDriving t old new s).traps.launchOverdue =
      if t = .launch ∧ old = .driving ∧ new ≠ .driving then none else s.traps.launchOverdue := by
  unfold leaveDriving
  split <;> rfl

theorem leaveDriving_port (t : TrapId) (old new : TrapState) (s : State) :
    (leaveDriving t old new s).port = s.port := leaveDriving_only t old new s .port (by simp)

/-- A trap step that runs out (R161). -/
theorem expireStep_eq {x : TrapId} {h : StepInHand} {s : State} (hstep : (s.trap x).step = some h) :
    expireStep x s = leaveDriving x (s.trap x).state .unknown (trapEvent x (s.setTrap x
      { s.trap x with state := .unknown, step := none, lapsed := some ⟨h.step, h.owner⟩ })) := by
  simp only [expireStep, hstep]

/-- Settles O44 (R130, R161, R168). -/
theorem deadlinesRunOut : Obligations.DeadlinesRunOut := by
  intro s now hpower hnow
  refine ⟨fun st p hp hdue => ?_, fun x h hstep hdue => ?_, fun d hd hdue => ?_⟩
  · have hexec : exec (.permitExpiry st) s = .next ((expirePermit st s).setReply none) := by
      refine (happen_timed (f := fun now s => if permitDue now st s then expirePermit st s else s) hpower hnow).trans ?_
      rw [if_pos]
      rw [permitDue, hp]
      exact reached_some hdue
    obtain ⟨honly, hrest⟩ := permitRunsOut hnow hp
    obtain ⟨hposition, hpermit, hlapsed, hforced, hmanual, hother, hdetail, hattention, hposts, hsame, hjudged⟩ := hrest
    exact ⟨_, hexec, (honly.mono (by simp)).then (setReply_only _ none) (by simp), rfl, hposition, hpermit, hlapsed, hforced,
      hmanual, hother, hdetail, hattention, hposts, hsame, hjudged⟩
  · have hexec : exec (.trapStepDeadline x) s = .next ((expireStep x s).setReply none) := by
      refine (happen_timed (f := fun now s => if stepDue now x s then expireStep x s else s) hpower hnow).trans ?_
      rw [if_pos]
      rw [stepDue, hstep]
      exact reached_some hdue
    refine ⟨_, hexec, ((expireStep_only x s).mono (by simp)).then (setReply_only _ none) (by simp), rfl, ?_,
      fun y hy => ?_, ?_, ?_⟩
    all_goals rw [State.setReply, expireStep_eq hstep]
    · exact (congrFun (leaveDriving_trap _ _ _ _) x).trans ((setTrap_trap s x x _).trans (if_pos rfl))
    · exact (congrFun (leaveDriving_trap _ _ _ _) y).trans ((setTrap_trap s x y _).trans (if_neg hy))
    · refine (leaveDriving_launchOverdue _ _ _ _).trans ?_
      simp only [ne_eq, reduceCtorEq, not_false_iff, and_true]
      rw [show (trapEvent x _).traps.launchOverdue = s.traps.launchOverdue from setTrap_launchOverdue s x _]
    · refine (leaveDriving_port _ _ _ _).trans (post_port_congr _ _ ?_ ?_)
      · exact setTrap_only s x _ .port (by simp)
      · exact congrArg LineClock.lineTime (setTrap_only s x _ .clock (by simp))
  · have hexec : exec .launchOverdue s = .next ((expireLaunch s).setReply none) := by
      refine (happen_timed (f := fun now s => if launchDue now s then expireLaunch s else s) hpower hnow).trans ?_
      rw [if_pos]
      rw [launchDue, hd]
      exact reached_some hdue
    refine ⟨_, hexec, ?_, rfl, rfl, rfl⟩
    exact (((post_only _ _ s).mono (by simp)).trans ((setLaunchOverdue_only _ none).mono (by simp))).then
      (setReply_only _ none) (by simp)

end Sys2Proof.Machine


/-! PROOF. TRAP STEP and TRAP DONE (R155 to R162, R167). -/

namespace Sys2Proof.Machine

/-! ## The preconditions of a step (R156 to R159) -/

section Preconditions

variable {s : State} {trap : TrapId}

theorem equalised_iff {r : TrapRecord} {band : Nat} : equalised r band = true ↔
    ∃ b l, r.barrel = some b ∧ r.line = some l ∧ ((b.kPa : Int) - l.kPa).natAbs ≤ band := by
  unfold equalised
  cases hb : r.barrel <;> cases hl : r.line <;> simp [pressureGap_eq_natAbs]

theorem openDoorRefused_none {r : TrapRecord} {limit : Nat} (h : ∃ b, r.barrel = some b ∧ b.kPa ≤ limit) :
    openDoorRefused r limit = none := by
  obtain ⟨b, hb, hlimit⟩ := h
  rw [openDoorRefused, hb]
  exact if_pos hlimit

theorem openDoorRefused_pressure {r : TrapRecord} {limit : Nat} (h : ∀ b, r.barrel = some b → limit < b.kPa) :
    openDoorRefused r limit = interlocked .pressure none := by
  unfold openDoorRefused
  cases hb : r.barrel with
  | none => rfl
  | some b => exact if_neg (Nat.not_le.mpr (h b hb))

theorem lineUpRefused_none (hequal : equalised (s.trap trap) (s.profile.trapCommon trap).equaliseBand = true)
    (hroom : trap = .receive → s.register.receiveBarrel.length < s.profile.receive.capacity) :
    lineUpRefused s trap = none := by
  cases trap with
  | launch => exact if_pos hequal
  | receive => exact (if_pos hequal).trans (if_neg (Nat.not_le.mpr (hroom rfl)))

theorem lineUpRefused_full (hequal : equalised (s.trap trap) (s.profile.trapCommon trap).equaliseBand = true)
    (htrap : trap = .receive) (hfull : s.profile.receive.capacity ≤ s.register.receiveBarrel.length) :
    lineUpRefused s trap = some ⟨.full, .nothing⟩ := by
  subst htrap
  exact (if_pos hequal).trans (if_pos hfull)

theorem lineUpRefused_pressure
    (hequal : ¬ equalised (s.trap trap) (s.profile.trapCommon trap).equaliseBand = true) :
    lineUpRefused s trap = interlocked .pressure none := if_neg hequal

theorem valveAt_val (s : State) (st : Fin 16) : s.valveAt st.val = some s.valves[st].position := by
  simp [State.valveAt]

theorem valveAt_zero (s : State) : s.valveAt 0 = some s.valves[(0 : Fin 16)].position := valveAt_val s 0

theorem launchChainage_eq {p : Profile} {g : Signaller} (h : p.signaller? 0 = some g) :
    p.launchChainage = g.chainage := by
  rw [Profile.launchChainage, h]
  rfl

theorem driveRefused_empty (h : s.register.launchBarrel = []) : driveRefused s = some ⟨.state, .nothing⟩ := by
  rw [driveRefused, h]
  rfl

theorem driveRefused_valve (h : s.register.launchBarrel ≠ []) (hvalve : s.valves[(0 : Fin 16)].position ≠ .opened) :
    driveRefused s = interlocked .valve none := by
  rw [driveRefused, if_neg (by simpa using h), valveAt_zero, if_pos (by simpa using hvalve)]

/-- With a pig staged and valve 0 OPEN the tail of the line decides a DRIVE. -/
theorem driveRefused_open (h : s.register.launchBarrel ≠ []) (hvalve : s.valves[(0 : Fin 16)].position = .opened) :
    driveRefused s =
      match s.register.inLine.getLast? with
      | some tail =>
        if tail.position < (s.profile.launchChainage + s.profile.launch.spacing) * 1000 then
          interlocked .spacing (some tail.tag)
        else none
      | none => none := by
  have hempty : ¬ s.register.launchBarrel.isEmpty = true := by simpa using h
  have hopen : ¬ s.valveAt 0 ≠ some .opened := by
    rw [valveAt_zero, hvalve]
    exact not_not.mpr rfl
  exact (if_neg hempty).trans (if_neg hopen)

theorem guarded_iff {p : Profile} {pig : Pig} :
    guarded p pig = true ↔ (p.lineEnd - p.receive.guardDistance) * 1000 ≤ pig.position := decide_eq_true_iff

theorem signaller_zero_of_complete {p : Profile} (h : p.complete = true) : ∃ g, p.signaller? 0 = some g := by
  simp only [Profile.complete, Bool.and_eq_true] at h
  exact Option.isSome_iff_exists.mp h.1.2

end Preconditions

/-! ## TRAP STEP (R155) -/

theorem mayUse_trapStep_iff (c : MasterClass) : mayUse c .trapStep = true ↔ c ∈ [MasterClass.trap, .link] := by
  cases c <;> decide

theorem mayUse_trapDone_iff (c : MasterClass) : mayUse c .trapDone = true ↔ c ∈ [MasterClass.trap, .link] := by
  cases c <;> decide

/-- Past the first checks the step's own preconditions decide. -/
theorem trapStep_preconditions {m : Master} {trap : TrapId} {step : TrapStep} {now : Nat} {s : State}
    (hdrive : ¬ (step = .drive ∧ trap = .receive)) (hstep : (s.trap trap).step = none)
    (hstate : (s.trap trap).state ∈ stepFrom step) : trapStep m ⟨trap, step⟩ now s =
      match stepRefused s trap step with
      | some why => refuseWith why.reason why.data s
      | none =>
        let d := addTime now (tenths (s.profile.stepTime trap step))
        done (.deadline d) (s.setTrap trap { s.trap trap with step := some ⟨step, m, d⟩, lapsed := none }) := by
  have hfrom : (!(stepFrom step).contains (s.trap trap).state) = false := by simpa using hstate
  simp only [trapStep, if_neg hdrive, hstep, Option.isSome_none, Bool.false_eq_true, if_false, hfrom]
  cases stepRefused s trap step <;> rfl

section Traps

variable {m : Master} {trap : TrapId} {step : TrapStep} {s : State}

theorem setTrap_trap_self (s : State) (x : TrapId) (r : TrapRecord) : (s.setTrap x r).trap x = r :=
  (setTrap_trap s x x r).trans (if_pos rfl)

theorem setTrap_trap_ne {x y : TrapId} (h : y ≠ x) (s : State) (r : TrapRecord) : (s.setTrap x r).trap y = s.trap y :=
  (setTrap_trap s x y r).trans (if_neg h)

/-! ## TRAP DONE (R160, R162, R167) -/

theorem finishStep_record (x : TrapId) (step : TrapStep) (s : State) : (finishStep x step s).trap =
    (s.setTrap x { s.trap x with state := stepTo step, step := none }).trap := by
  unfold finishStep
  exact (enterDriving_trap _ _ _).trans ((leaveDriving_trap _ _ _ _).trans (trapEvent_trap _ _))

theorem enterDriving_only (t : TrapId) (new : TrapState) (s : State) : OnlyChanges [.traps] s (enterDriving t new s) := by
  unfold enterDriving
  split
  · exact setLaunchOverdue_only s _
  · exact OnlyChanges.refl _ s

/-- The state in which a trap has taken its next state, with TRAP_EVENT posted. -/
def stepEnded (x : TrapId) (step : TrapStep) (s : State) : State :=
  trapEvent x (s.setTrap x { s.trap x with state := stepTo step, step := none })

theorem finishStep_eq (x : TrapId) (step : TrapStep) (s : State) : finishStep x step s =
    enterDriving x (stepTo step) (leaveDriving x (s.trap x).state (stepTo step) (stepEnded x step s)) := rfl

theorem stepEnded_only (x : TrapId) (step : TrapStep) (s : State) :
    OnlyChanges [.traps, .port] s (stepEnded x step s) :=
  ((setTrap_only s x _).mono (by simp)).trans ((trapEvent_only x _).mono (by simp))

theorem finishStep_only (x : TrapId) (step : TrapStep) (s : State) :
    OnlyChanges [.traps, .port] s (finishStep x step s) :=
  (stepEnded_only x step s).trans (((leaveDriving_only _ _ _ _).mono (by simp)).trans
    ((enterDriving_only _ _ _).mono (by simp)))

theorem finishStep_port (x : TrapId) (step : TrapStep) (s : State) :
    (finishStep x step s).port = (post .trapEvent (some (.trap x)) s).port := by
  rw [finishStep_eq]
  refine (enterDriving_only _ _ _ .port (by simp)).trans ((leaveDriving_port _ _ _ _).trans (post_port_congr _ _ ?_ ?_))
  · exact setTrap_only s x _ .port (by simp)
  · exact congrArg LineClock.lineTime (setTrap_only s x _ .clock (by simp))

theorem finishStep_launchOverdue (x : TrapId) (step : TrapStep) (s : State) :
    (finishStep x step s).traps.launchOverdue =
      if x = .launch ∧ stepTo step = .driving then s.now.map (launchDeadline s)
      else if x = .launch ∧ (s.trap x).state = .driving then none else s.traps.launchOverdue := by
  have hframe : OnlyChanges [.traps, .port] s (leaveDriving x (s.trap x).state (stepTo step) (stepEnded x step s)) :=
    (stepEnded_only x step s).trans ((leaveDriving_only _ _ _ _).mono (by simp))
  have hprofile := congrArg ProfileStore.running (hframe .store (by simp))
  have hnow := congrArg LineClock.lineTime (hframe .clock (by simp))
  have hleft := leaveDriving_launchOverdue x (s.trap x).state (stepTo step) (stepEnded x step s)
  have hheld : (stepEnded x step s).traps.launchOverdue = s.traps.launchOverdue := setTrap_launchOverdue s x _
  rw [finishStep_eq]
  generalize leaveDriving x (s.trap x).state (stepTo step) (stepEnded x step s) = u at *
  rw [enterDriving]
  split
  · have hdeadline : launchDeadline u = launchDeadline s := by
      funext t
      rw [launchDeadline, launchDeadline, show u.profile = s.profile from hprofile]
    exact (congrArg (Option.map (launchDeadline u)) hnow).trans (by rw [hdeadline]; rfl)
  · next henter =>
    rw [hleft, hheld]
    refine if_congr ⟨fun h => ⟨h.1, h.2.1⟩, fun h => ⟨h.1, h.2, fun hd => henter ⟨h.1, hd⟩⟩⟩ rfl rfl

theorem trapDone_owned {h : StepInHand} (hstep : (s.trap trap).step = some h) (howner : h.owner = m)
    (hmatch : h.step = step) : trapDone m ⟨trap, step⟩ s =
      done (.trapState (stepTo step)) (finishStep trap step s) := by
  have hstate : ((finishStep trap step s).trap trap).state = stepTo step := by
    rw [finishStep_record, setTrap_trap_self]
  simp only [trapDone, hstep, howner, hmatch, ne_eq, not_true_eq_false, if_false, hstate, done]

theorem trapDone_lapsed (hstep : (s.trap trap).step = none) (hlapsed : (s.trap trap).lapsed = some ⟨step, m⟩) :
    trapDone m ⟨trap, step⟩ s =
      (s.setTrap trap { s.trap trap with lapsed := none }, .late (.trapState (s.trap trap).state)) := by
  simp only [trapDone, hstep, if_pos hlapsed]

end Traps

/-- Settles O48 (R155 to R160, R162, R167). -/
theorem trapStepsAreTaken : Obligations.TrapStepsAreTaken := by
  intro m trap step s hable
  dsimp only
  have hserved : ∀ {now r data}, s.now = some now → trapStep m ⟨trap, step⟩ now s = refuseWith r data s →
      RefusesWith (.trapStep m (some ⟨trap, step⟩)) r data s := fun hnow h =>
    refusesWith_able (body := whenTime fun now => withParams (some (⟨trap, step⟩ : StepArgs)) fun x => trapStep m x now) rfl rfl
      mayUse_trapStep_iff hable (by rw [whenTime_set _ hnow]; exact h)
  have hdone : ∀ {r data}, trapDone m ⟨trap, step⟩ s = refuseWith r data s →
      RefusesWith (.trapDone m (some ⟨trap, step⟩)) r data s := fun h =>
    refusesWith_able (body := withParams (some (⟨trap, step⟩ : StepArgs)) (trapDone m)) rfl rfl mayUse_trapDone_iff hable h
  refine ⟨fun htime hdrive hreceive => ?_, fun hnow => ?_, fun now hnow hdrive => ⟨fun hstep => ?_,
    fun hstep hstate => ?_, fun hstep hstate => ?_, fun hstep hstate hopen hlineUp hlaunch hisolate => ?_⟩,
    fun h hstep howner => hdone ?_, fun h hstep howner hother => hdone ?_, fun h hstep howner hmatch => ?_,
    fun hstep hlapsed => ?_, fun hstep hlapsed => hdone ?_⟩
  · obtain ⟨now, hnow⟩ := Option.ne_none_iff_exists'.mp htime
    exact hserved hnow (if_pos ⟨hdrive, hreceive⟩)
  · exact refuses_able (body := whenTime fun now => withParams (some (⟨trap, step⟩ : StepArgs)) fun x => trapStep m x now) rfl rfl
      mayUse_trapStep_iff hable (whenTime_unset _ hnow)
  · exact hserved hnow ((if_neg hdrive).trans (if_pos (Option.isSome_iff_ne_none.mpr hstep)))
  · refine hserved hnow ((if_neg hdrive).trans ?_)
    rw [hstep, if_neg (by simp), if_pos (by simpa using hstate)]
    rfl
  · have hpre : ∀ {why : StepRefusal}, stepRefused s trap step = some why →
        RefusesWith (.trapStep m (some ⟨trap, step⟩)) why.reason why.data s := fun h =>
      hserved hnow ((trapStep_preconditions hdrive hstep hstate).trans (by rw [h]))
    refine ⟨fun hs hb => ?_, fun hs hne => ?_, fun hs he ht hfull => ?_, fun hs hempty => ?_, fun hs hne hv => ?_,
      fun hs hne hv tail g htail hg hbelow => ?_, fun hs ht ahead p behind hl hp hahead => ?_⟩
    all_goals subst hs
    · exact hpre (openDoorRefused_pressure hb)
    · exact hpre (lineUpRefused_pressure (mt equalised_iff.mp hne))
    · exact hpre (lineUpRefused_full (equalised_iff.mpr he) ht hfull)
    · exact hpre (driveRefused_empty hempty)
    · exact hpre (driveRefused_valve hne hv)
    · refine hpre (why := ⟨.interlock, .stepInterlock .spacing (some tail.tag)⟩) ((driveRefused_open hne hv).trans ?_)
      rw [htail, launchChainage_eq hg]
      exact if_pos hbelow
    · subst ht
      have hfind : s.register.inLine.find? (guarded s.profile) = some p :=
        find?_first hl (guarded_iff.mpr hp) fun a ha h => hahead a ha (guarded_iff.mp h)
      refine hpre (why := ⟨.interlock, .stepInterlock .guard (some p.tag)⟩) ?_
      rw [stepRefused, isolateRefused, hfind]
      rfl
  · have hfree : stepRefused s trap step = none := by
      cases step with
      | openDoor => exact openDoorRefused_none (hopen rfl)
      | lineUp =>
        obtain ⟨hequal, hroom⟩ := hlineUp rfl
        exact lineUpRefused_none (equalised_iff.mpr hequal) hroom
      | drive =>
        obtain ⟨hstaged, hvalve, hspacing⟩ := hlaunch rfl
        obtain ⟨g, hg⟩ := signaller_zero_of_complete hable.2
        refine (driveRefused_open hstaged hvalve).trans ?_
        split
        · next tail htail =>
          rw [launchChainage_eq hg]
          exact if_neg (Nat.not_lt.mpr (hspacing tail g htail hg))
        · rfl
      | isolate =>
        cases trap with
        | launch => rfl
        | receive =>
          have hnone : s.register.inLine.find? (guarded s.profile) = none :=
            List.find?_eq_none.mpr fun p hp h =>
              absurd (guarded_iff.mp h) (Nat.not_le.mpr (hisolate rfl rfl p hp))
          rw [stepRefused, isolateRefused, hnone]
      | closeDoor | fill | vent => rfl
    have htaken := trapStep_preconditions (m := m) (now := now) hdrive hstep hstate
    rw [hfree] at htaken
    exact ⟨_, done_able (i := .trapStep m (some ⟨trap, step⟩))
      (body := whenTime fun now => withParams (some (⟨trap, step⟩ : StepArgs)) fun x => trapStep m x now) rfl mayUse_trapStep_iff hable
      ((whenTime_set _ hnow).trans htaken), (setTrap_only s trap _).replied m _, setTrap_trap_self s trap _,
      fun y hy => setTrap_trap_ne hy s _, setTrap_launchOverdue s trap _, sendReply_replied m _ _⟩
  · simp only [trapDone, hstep, ne_eq, howner, not_false_iff, if_true]
  · simp only [trapDone, hstep, ne_eq, howner, not_true_eq_false, if_false, hother, not_false_iff, if_true]
  · have hrecord := finishStep_record trap step s
    refine ⟨_, done_able (i := .trapDone m (some ⟨trap, step⟩)) (body := withParams (some (⟨trap, step⟩ : StepArgs)) (trapDone m)) rfl
      mayUse_trapDone_iff hable (trapDone_owned hstep howner hmatch), (finishStep_only trap step s).replied m _, ?_,
      fun y hy => ?_, finishStep_port trap step s, finishStep_launchOverdue trap step s, sendReply_replied m _ _⟩
    · exact (congrFun hrecord trap).trans (setTrap_trap_self s trap _)
    · exact (congrFun hrecord y).trans (setTrap_trap_ne hy s _)
  · refine ⟨_, (serve_able (withParams (some (⟨trap, step⟩ : StepArgs)) (trapDone m)) mayUse_trapDone_iff hable).trans
      (by rw [withParams_some, trapDone_lapsed hstep hlapsed, respond_late]),
      (setTrap_only s trap _).replied m _, setTrap_trap_self s trap _, fun y hy => setTrap_trap_ne hy s _,
      setTrap_launchOverdue s trap _, sendReply_replied m _ _⟩
  · simp only [trapDone, hstep, if_neg hlapsed]

end Sys2Proof.Machine


/-! PROOF. What a passage counts at the signallers, one by one (R100, R106), and that no handing touches a sequence number
(R66, R70). -/

namespace Sys2Proof.Machine

/-! ## One runtime record -/

theorem setRuntime_signallers (s : State) (n : Nat) (r : SigRuntime) (k : Fin 32) :
    (s.setRuntime n r).signallers[k] = if k.val = n then r else s.signallers[k] := by
  simp only [State.setRuntime, State.setSignallers, Fin.getElem_fin, Vector.getElem_setIfInBounds]
  simp only [eq_comm]

theorem setRuntime_signallers_ne {s : State} {n : Nat} {k : Fin 32} (h : k.val ≠ n) (r : SigRuntime) :
    (s.setRuntime n r).signallers[k] = s.signallers[k] := by rw [setRuntime_signallers, if_neg h]

theorem setRuntime_runtime (s : State) {n : Nat} (hn : n < 32) (r : SigRuntime) : (s.setRuntime n r).runtime n = r := by
  have h := setRuntime_signallers s n r ⟨n, hn⟩
  rw [if_pos rfl] at h
  exact (runtime_val (s.setRuntime n r) ⟨n, hn⟩).trans h

/-! ## A signaller missed (R100) -/

/-- The record of a signaller that a fix between two chainages passed over: missed once more where it is IN service
strictly between them, and set OUT at three. -/
def SigRuntime.missedBetween (p : Profile) (lo hi k : Nat) (r : SigRuntime) : SigRuntime :=
  match p.signaller? k with
  | none => r
  | some g =>
    if r.service = .inService ∧ lo < g.chainage * 1000 ∧ g.chainage * 1000 < hi then
      if 3 ≤ r.missed + 1 then { r with missed := 3, service := .out } else { r with missed := r.missed + 1 }
    else r

theorem missedBetween_sequence (p : Profile) (lo hi k : Nat) (r : SigRuntime) :
    (r.missedBetween p lo hi k).lastSequence = r.lastSequence ∧ (r.missedBetween p lo hi k).gaps = r.gaps := by
  unfold SigRuntime.missedBetween
  split
  · exact ⟨rfl, rfl⟩
  · split
    · split <;> exact ⟨rfl, rfl⟩
    · exact ⟨rfl, rfl⟩

theorem countMissed_signallers (lo hi : Nat) (s : State) {n : Nat} (hn : n < 32) (k : Fin 32) :
    (countMissed lo hi s n).signallers[k] =
      if k.val = n then s.signallers[k].missedBetween s.profile lo hi k else s.signallers[k] := by
  by_cases hk : k.val = n
  · rw [if_pos hk]
    subst hk
    rw [← runtime_val s k]
    unfold countMissed SigRuntime.missedBetween
    cases s.profile.signaller? k.val with
    | none => exact (runtime_val s k).symm
    | some g =>
      dsimp only
      split
      · split
        · exact (setRuntime_signallers s k.val _ k).trans (if_pos rfl)
        · exact (setRuntime_signallers s k.val _ k).trans (if_pos rfl)
      · exact (runtime_val s k).symm
  · rw [if_neg hk]
    unfold countMissed
    split
    · rfl
    · dsimp only
      split
      · split <;> exact setRuntime_signallers_ne hk _
      · rfl

theorem countMissed_posts (lo hi : Nat) (s : State) (n : Nat) :
    Posts (fun j => if j = .signallerFault then (if faultsAt lo hi s n then [.signaller n] else []) else []) s
      (countMissed lo hi s n) := by
  cases hg : s.profile.signaller? n with
  | none =>
    simp only [countMissed, faultsAt, hg]
    exact (Posts.refl s).congr fun j => by simp
  | some g =>
    by_cases hbetween : (s.runtime n).service = .inService ∧ lo < g.chainage * 1000 ∧ g.chainage * 1000 < hi
    · obtain ⟨hin, hlo, hhi⟩ := id hbetween
      by_cases hthree : 3 ≤ (s.runtime n).missed + 1
      · simp only [countMissed, faultsAt, hg, if_pos hbetween, if_pos hthree]
        refine (Posts.of_port_then rfl rfl (post_posts .signallerFault (.signaller n) _)).congr fun j => ?_
        simp only [once, hin, hlo, hhi, hthree]
        rfl
      · simp only [countMissed, faultsAt, hg, if_pos hbetween, if_neg hthree]
        refine (Posts.of_port rfl rfl).congr fun j => ?_
        simp [hthree]
    · simp only [countMissed, faultsAt, hg, if_neg hbetween]
      refine (Posts.refl s).congr fun j => ?_
      split
      · refine if_neg ?_
        simp only [Bool.and_eq_true, decide_eq_true_iff]
        exact fun h => hbetween ⟨h.1.1.1, h.1.2, h.2⟩
      · rfl

theorem faultsAt_congr {s t : State} {k : Fin 32} (hprofile : t.profile = s.profile)
    (hk : t.signallers[k] = s.signallers[k]) (lo hi : Nat) : faultsAt lo hi t k = faultsAt lo hi s k := by
  simp only [faultsAt, hprofile, runtime_val, hk]

/-- The signallers passed over are counted one after another, each from where it stood. -/
theorem foldl_countMissed (lo hi : Nat) {l : List Nat} (hl : l.Nodup) (hbound : ∀ n ∈ l, n < 32) (s : State) :
    let t := l.foldl (countMissed lo hi) s
    t.profile = s.profile ∧
      (∀ k : Fin 32, t.signallers[k] =
        if k.val ∈ l then s.signallers[k].missedBetween s.profile lo hi k else s.signallers[k]) ∧
      Posts (fun j => if j = .signallerFault then (l.filter (faultsAt lo hi s)).map .signaller else []) s t := by
  induction l generalizing s with
  | nil => exact ⟨rfl, fun k => (if_neg List.not_mem_nil).symm, (Posts.refl s).congr fun j => ite_self _⟩
  | cons n l ih =>
    obtain ⟨hn, hl⟩ := List.nodup_cons.mp hl
    have hn32 := hbound n List.mem_cons_self
    have hbound' : ∀ m ∈ l, m < 32 := fun m hm => hbound m (List.mem_cons_of_mem n hm)
    obtain ⟨hprofile, hsignallers, hposts⟩ := ih hl hbound' (countMissed lo hi s n)
    have hfirst : (countMissed lo hi s n).profile = s.profile :=
      congrArg ProfileStore.running (countMissed_only lo hi s n .store (by simp))
    have hother : ∀ k : Fin 32, k.val ≠ n → (countMissed lo hi s n).signallers[k] = s.signallers[k] := fun k hk => by
      rw [countMissed_signallers lo hi s hn32, if_neg hk]
    refine ⟨hprofile.trans hfirst, fun k => ?_, ?_⟩
    · rw [List.foldl_cons, hsignallers, hfirst]
      by_cases hk : k.val = n
      · rw [if_neg (hk ▸ hn), countMissed_signallers lo hi s hn32, if_pos hk, if_pos (hk ▸ List.mem_cons_self)]
      · rw [hother k hk]
        simp [hk]
    · refine ((countMissed_posts lo hi s n).trans hposts).congr fun j => ?_
      have hfilter : l.filter (faultsAt lo hi (countMissed lo hi s n)) = l.filter (faultsAt lo hi s) := by
        refine List.filter_congr fun m hm => ?_
        exact faultsAt_congr (k := ⟨m, hbound' m hm⟩) hfirst (hother ⟨m, hbound' m hm⟩ fun h => hn (h ▸ hm)) lo hi
      rw [hfilter, List.filter_cons]
      split
      · split <;> simp
      · rfl

/-! ## A fix counted (R100) -/

theorem countPassage_signallers (s : State) (n : Nat) (k : Fin 32) :
    (countPassage n s).signallers[k] =
      if k.val = n then { s.signallers[k] with passages := bump s.signallers[k].passages, missed := 0 }
      else s.signallers[k] := by
  refine (setRuntime_signallers s n _ k).trans ?_
  split
  · next h => rw [← h, runtime_val]
  · rfl

/-- The signaller of the fix lies at the upper end, so its own count does not set it OUT. -/
theorem faultsAt_countPassage {n : Nat} {g : Signaller} {s : State} (hg : s.profile.signaller? n = some g) (lo : Nat) :
    (List.range 32).filter (faultsAt lo (g.chainage * 1000) s) =
      (List.range 32).filter (faultsAt lo (g.chainage * 1000) (countPassage n s)) := by
  refine List.filter_congr fun m hm => ?_
  rw [List.mem_range] at hm
  by_cases hmn : m = n
  · subst hmn
    have hprofile : (countPassage m s).profile = s.profile := rfl
    simp [faultsAt, hprofile, hg]
  · exact (faultsAt_congr (s := s) (t := countPassage n s) (k := ⟨m, hm⟩) rfl ((countPassage_signallers s n _).trans (if_neg hmn)) lo _).symm

/-- After a row of postings one kind keeps one of its subjects, in an order that no rule states. -/
theorem keepSubject_posted {e : AttnKind → List Subject} {s t : State} (h : Posts e s t) (k : AttnKind) (choice : Nat) :
    ContextsKept s (keepSubject k choice (e k) t) ∧
      (∀ j, j ≠ k → Posted j (e j) s (keepSubject k choice (e k) t)) ∧
      PostedSomehow k (e k) s (keepSubject k choice (e k) t) := by
  obtain ⟨hnow, hkept, hposted⟩ := h
  have hcontext : ∀ m, (keepSubject k choice (e k) t).context m = t.context m := fun m => by
    simp only [State.context, keepSubject_contexts]
  have hclock : (keepSubject k choice (e k) t).clock = t.clock := keepSubject_only _ _ _ _ .clock (by simp)
  have hnow' : (keepSubject k choice (e k) t).now = t.now := by rw [State.now, hclock]; rfl
  refine ⟨hkept.trans (keepSubject_kept _ _ _ _), fun j hj => ⟨?_, fun m => ?_⟩, fun hnil => ?_, fun hne => ?_, fun m => ?_⟩
  · rw [keepSubject_detail_ne _ _ _ _ fun hbit => hj (bit_injective hbit), hnow']
    exact (hposted j).1
  · rw [hcontext]
    exact (hposted j).2 m
  · rw [hnil]
    have hd := (hposted k).1
    rwa [hnil] at hd
  · obtain ⟨x, hx, hdetail⟩ := keepSubject_detail k choice (e k) t hne
    refine ⟨x, hx, ?_⟩
    rw [hdetail, (hposted k).1, List.getLast?_eq_some_getLast hne, hnow']
  · rw [hcontext]
    exact (hposted k).2 m

/-- What a fix counts: its own signaller, those it passed over, and the postings of those set OUT. -/
theorem countFix_leaves {n : Nat} {g : Signaller} {p : Pig} {f : LastFix} {s : State} (hf : p.lastFix = some f)
    (hg : s.profile.signaller? n = some g) :
    (∀ k : Fin 32, (countFix n g p s).signallers[k] =
        ((countPassage n s).signallers[k]).missedBetween s.profile f.chainage (g.chainage * 1000) k) ∧
      ContextsKept s (countFix n g p s) ∧ (∀ k, k ≠ .signallerFault → Posted k [] s (countFix n g p s)) ∧
      PostedSomehow .signallerFault (((List.range 32).filter (faultsAt f.chainage (g.chainage * 1000) s)).map .signaller)
        s (countFix n g p s) := by
  obtain ⟨-, hsignallers, hposts⟩ := foldl_countMissed f.chainage (g.chainage * 1000) List.nodup_range
    (fun m hm => List.mem_range.mp hm) (countPassage n s)
  have hfix : countFix n g p s =
      lastFaulted ((List.range 32).filter (faultsAt f.chainage (g.chainage * 1000) s))
        ((List.range 32).foldl (countMissed f.chainage (g.chainage * 1000)) (countPassage n s)) := by
    simp only [countFix, hf]
  rw [hfix]
  rw [← faultsAt_countPassage hg] at hposts
  generalize (List.range 32).foldl (countMissed f.chainage (g.chainage * 1000)) (countPassage n s) = t at *
  have hposts' : Posts _ s t := Posts.of_port_then (s := s) rfl rfl hposts
  have hleft := keepSubject_posted hposts' .signallerFault
    (Config.faultedLast ((List.range 32).filter (faultsAt f.chainage (g.chainage * 1000) s)))
  obtain ⟨hkept, hothers, hsomehow⟩ := hleft
  simp only [if_true] at hkept hothers hsomehow
  refine ⟨fun k => ?_, hkept, fun k hk => ?_, hsomehow⟩
  · rw [show (lastFaulted _ t).signallers = t.signallers from keepSubject_only _ _ _ _ .signallers (by simp),
      hsignallers k, if_pos (List.mem_range.mpr k.isLt)]
    rfl
  · have h := hothers k hk
    rwa [if_neg hk] at h

end Sys2Proof.Machine


/-! PROOF. What becomes of a passage report, remote or local, and the handing of due entries (R62 to R74). -/

namespace Sys2Proof.Machine

/-! ## The intake list (R62, R70, R71) -/

/-- An entry goes in after every entry at or below its event time. -/
theorem insertEntry_split (e : IntakeEntry) (l : List IntakeEntry) : ∃ front back, l = front ++ back ∧
    (∀ x ∈ front, x.time ≤ e.time) ∧ (∀ x, back.head? = some x → e.time < x.time) ∧
    insertEntry e l = front ++ e :: back ∧ placeOf e l = front.length + 1 := by
  induction l with
  | nil => exact ⟨[], [], rfl, by simp, by simp, rfl, rfl⟩
  | cons x rest ih =>
    by_cases hx : x.time ≤ e.time
    · obtain ⟨front, back, hl, hfront, hback, hinsert, hplace⟩ := ih
      refine ⟨x :: front, back, by rw [hl, List.cons_append], ?_, hback, ?_, ?_⟩
      · exact List.forall_mem_cons.mpr ⟨hx, hfront⟩
      · rw [insertEntry, if_pos hx, hinsert, List.cons_append]
      · simpa [placeOf, hx] using hplace
    · refine ⟨[], x :: rest, rfl, by simp, ?_, ?_, ?_⟩
      · intro y hy
        obtain rfl := Option.some.inj hy
        exact Nat.not_le.mp hx
      · rw [insertEntry, if_neg hx, List.nil_append]
      · simp [placeOf, hx]

theorem isDue_mono {p : Profile} {now : Nat} {x e : IntakeEntry} (hx : x.time ≤ e.time) (he : isDue p now e = true) :
    isDue p now x = true := by
  have hmono : dueTime p x ≤ dueTime p e := by
    simp only [dueTime, addTime]
    omega
  exact decide_eq_true (hmono.trans (of_decide_eq_true he))

theorem handFirst_due {now : Nat} {s : State} {e : IntakeEntry} {rest : List IntakeEntry}
    (hs : s.intake.entries = e :: rest) (he : isDue s.profile now e = true) :
    handFirst now s = takeEntry now e.passage (s.setEntries rest) := by
  simp only [handFirst, hs, he, if_true]

theorem handFirst_intake {now : Nat} {s : State} {e : IntakeEntry} {rest : List IntakeEntry}
    (hs : s.intake.entries = e :: rest) (he : isDue s.profile now e = true) :
    (handFirst now s).intake = { s.intake with entries := rest } := by
  rw [handFirst_due hs he]
  exact takeEntry_only now _ _ .intake (by simp)

theorem handFirst_profile (now : Nat) (s : State) : (handFirst now s).profile = s.profile :=
  congrArg ProfileStore.running (handFirst_only now s .store (by simp [handBlocks]))

/-- Entries that are all due are handed one after another, and the others stay. -/
theorem handDue_intake {now : Nat} {front back : List IntakeEntry} {s : State}
    (hs : s.intake.entries = front ++ back) (hdue : ∀ x ∈ front, isDue s.profile now x = true) :
    (handDue now front.length s).intake = { s.intake with entries := back } := by
  induction front generalizing s with
  | nil =>
    rw [List.nil_append] at hs
    rw [← hs]
    rfl
  | cons e front ih =>
    obtain ⟨he, hfront⟩ := List.forall_mem_cons.mp hdue
    have hfirst := handFirst_intake hs he
    refine (ih (s := handFirst now s) (by rw [hfirst]; rfl) ?_).trans (by rw [hfirst])
    rw [handFirst_profile]
    exact hfront

/-! ## No handing touches a sequence number (R66, R70) -/

/-- Every signaller keeps its last sequence number and its gap count. -/
def SequencesKept (s t : State) : Prop :=
  ∀ k : Fin 32, t.signallers[k].lastSequence = s.signallers[k].lastSequence ∧ t.signallers[k].gaps = s.signallers[k].gaps

theorem SequencesKept.of_eq {s t : State} (h : t.signallers = s.signallers) : SequencesKept s t := fun k => by
  rw [h]
  exact ⟨rfl, rfl⟩

theorem SequencesKept.of_only {s t : State} {l : List Block} (h : OnlyChanges l s t) (hl : .signallers ∉ l) :
    SequencesKept s t := .of_eq (h .signallers hl)

theorem SequencesKept.trans {s t u : State} (h : SequencesKept s t) (h' : SequencesKept t u) : SequencesKept s u :=
  fun k => ⟨(h' k).1.trans (h k).1, (h' k).2.trans (h k).2⟩

theorem countPassage_sequences (n : Nat) (s : State) : SequencesKept s (countPassage n s) := fun k => by
  rw [countPassage_signallers]
  split <;> exact ⟨rfl, rfl⟩

theorem countFix_sequences (n : Nat) (g : Signaller) (p : Pig) (s : State) : SequencesKept s (countFix n g p s) := by
  unfold countFix
  split
  · next f hf =>
    obtain ⟨-, hsignallers, -⟩ := foldl_countMissed f.chainage (g.chainage * 1000) List.nodup_range
      (fun m hm => List.mem_range.mp hm) (countPassage n s)
    refine (countPassage_sequences n s).trans (SequencesKept.trans (fun k => ?_)
      (.of_only (keepSubject_only _ _ _ _) (by simp)))
    rw [hsignallers k]
    split
    · exact missedBetween_sequence _ _ _ _ _
    · exact ⟨rfl, rfl⟩
  · exact countPassage_sequences n s

theorem applyPassage_sequences (now : Nat) (g : Signaller) (x : Passage) (early : Bool) (p : Pig) (s : State) :
    SequencesKept s (applyPassage now g x early p s) := by
  unfold applyPassage
  split
  · unfold makeLaunch
    refine SequencesKept.trans ?_ (.of_only (setLaunchOverdue_only _ _) (by simp))
    refine SequencesKept.trans ?_ (.of_only (judgeAll_only _) (by simp))
    refine SequencesKept.trans ?_ (.of_only (post_only _ _ _) (by simp))
    exact SequencesKept.trans (.of_eq (t := s.setRegister _) rfl) (countPassage_sequences _ _)
  · have hfix : SequencesKept s (makeFix now g x early p s) :=
      (SequencesKept.of_only (setInLine_only s _) (by simp)).trans
        ((countFix_sequences _ _ _ _).trans (.of_only (post_only _ _ _) (by simp)))
    refine hfix.trans ?_
    dsimp only
    split
    · exact (SequencesKept.of_only (makeArrival_only _ _ _) (by simp)).trans (.of_only (judgeAll_only _) (by simp))
    · exact .of_only (judgeAll_only _) (by simp)

theorem takeEntry_sequences (now : Nat) (x : Passage) (s : State) : SequencesKept s (takeEntry now x s) := by
  unfold takeEntry
  split
  · exact .of_only (noteUnmatched_only _ _ _ _) (by simp)
  · exact applyPassage_sequences _ _ _ _ _ _
  · exact applyPassage_sequences _ _ _ _ _ _
  · exact .of_only (noteUnmatched_only _ _ _ _) (by simp)

theorem handFirst_sequences (now : Nat) (s : State) : SequencesKept s (handFirst now s) := by
  unfold handFirst
  split
  · exact .of_eq rfl
  · split
    · exact SequencesKept.trans (.of_eq (t := s.setEntries _) rfl) (takeEntry_sequences _ _ _)
    · exact .of_eq rfl

theorem handDue_sequences (now n : Nat) (s : State) : SequencesKept s (handDue now n s) := by
  induction n generalizing s with
  | zero => exact .of_eq rfl
  | succ n ih => exact (handFirst_sequences now s).trans (ih _)

/-! ## The figures of a report (R66 to R68) -/

theorem newerBy_some (last seq : Nat) : newerBy (some last) seq =
    if 1 ≤ (seq + 65536 - last) % 65536 ∧ (seq + 65536 - last) % 65536 ≤ 32767 then
      some ((seq + 65536 - last) % 65536) else none := by
  simp only [newerBy, within, Bool.and_eq_true, decide_eq_true_iff]

theorem newerBy_next {last : Option Nat} (h : ∀ l, last = some l → l ≤ 65535) :
    newerBy last (nextSequence last) = some 1 := by
  cases last with
  | none => rfl
  | some l =>
    have hl := h l rfl
    rw [newerBy_some, nextSequence]
    have hone : ((l + 1) % 65536 + 65536 - l) % 65536 = 1 := by omega
    rw [hone, if_pos (by omega)]

theorem waitsFor_name (e : IntakeEntry) (l : List IntakeEntry) :
    waitsFor e l = true ↔ ∃ x ∈ l, x.signaller = e.signaller ∧ x.sequence = e.sequence := by
  simp [waitsFor]

/-- A future event time counted (R68). -/
def countClamp (now time : Nat) (s : State) : State :=
  if tooFarAhead now time then s.countIntake (fun c => { c with futureClamps := bump c.futureClamps }) else s

theorem countClamp_only (now time : Nat) (s : State) : OnlyChanges [.intake] s (countClamp now time s) := by
  unfold countClamp
  split
  · exact countIntake_only s _
  · exact .refl _ s

theorem countClamp_intake (now time : Nat) (s : State) : (countClamp now time s).intake =
    { s.intake with counts := { s.intake.counts with
      futureClamps := if tooFarAhead now time then bump s.intake.counts.futureClamps
        else s.intake.counts.futureClamps } } := by
  unfold countClamp
  split <;> rfl

/-! ## What becomes of a report (R64 to R70) -/

section Taken

variable {now d : Nat} {e : IntakeEntry} {s : State}

theorem takeReport_out (h : (s.runtime e.signaller).service = .out) :
    takeReport now e s = (takeOutOfService e s, .outOfService) := if_pos h

theorem takeReport_duplicate (h : (s.runtime e.signaller).service = .inService)
    (hold : newerBy (s.runtime e.signaller).lastSequence e.sequence = none ∨ waitsFor e s.intake.entries = true) :
    takeReport now e s = takeDuplicate s := by
  rw [takeReport, if_neg (by simp [h])]
  cases hnewer : newerBy (s.runtime e.signaller).lastSequence e.sequence with
  | none => rfl
  | some d =>
    rcases hold with hnone | hwaits
    · exact absurd (hnone.symm.trans hnewer) (by simp)
    · exact if_pos hwaits

theorem takeReport_inService (h : (s.runtime e.signaller).service = .inService)
    (hnewer : newerBy (s.runtime e.signaller).lastSequence e.sequence = some d)
    (hwaits : waitsFor e s.intake.entries = false) : takeReport now e s = takeInService now e d s := by
  rw [takeReport, if_neg (by simp [h]), hnewer]
  exact if_neg (by simp [hwaits])

theorem takeInService_stale (h : isStale now (clampedTime now e.time) = true) :
    takeInService now e d s = ((countClamp now e.time s).countIntake (fun c => { c with stale := bump c.stale }), .stale) :=
  if_pos h

theorem takeInService_full (h : isStale now (clampedTime now e.time) = false)
    (hfull : 24 ≤ s.intake.entries.length) :
    takeInService now e d s = (post .intakeFull (some (.signaller e.signaller))
      ((countClamp now e.time s).countIntake (fun c => { c with overruns := bump c.overruns })), .full) := by
  have hfull' : 24 ≤ (countClamp now e.time s).intake.entries.length := by rwa [countClamp_intake]
  exact (if_neg (by simp [h])).trans (if_pos hfull')

theorem takeInService_accepted (h : isStale now (clampedTime now e.time) = false)
    (hroom : s.intake.entries.length < 24) :
    takeInService now e d s = acceptReport now { e with time := clampedTime now e.time, speed := takenSpeed e.speed } d
      (tooFarAhead now e.time) (countClamp now e.time s) := by
  have hroom' : ¬ 24 ≤ (countClamp now e.time s).intake.entries.length := by
    rw [countClamp_intake]
    exact Nat.not_le.mpr hroom
  exact (if_neg (by simp [h])).trans (if_neg hroom')

end Taken

/-! ## The state with an accepted entry in the list (R70) -/

/-- The part with an accepted entry in the list, before any handing. -/
def enterEntry (e : IntakeEntry) (d : Nat) (s : State) : State :=
  ((noteSequence e d s).setEntries (insertEntry e (noteSequence e d s).intake.entries)).countIntake
    (fun c => { c with accepted := bump c.accepted })

theorem acceptReport_state (now : Nat) (e : IntakeEntry) (d : Nat) (clamped : Bool) (s : State) :
    (acceptReport now e d clamped s).1 =
      if isDue s.profile now e then handDue now (placeOf e s.intake.entries) (enterEntry e d s) else enterEntry e d s :=
  rfl

theorem acceptReport_taken (now : Nat) (e : IntakeEntry) (d : Nat) (clamped : Bool) (s : State) :
    (acceptReport now e d clamped s).2 = .accepted (placeOf e s.intake.entries) (isDue s.profile now e)
      (acceptReport now e d clamped s).1.intake.entries.length (d - 1) clamped := rfl

theorem noteSequence_signallers (e : IntakeEntry) (d : Nat) (s : State) (k : Fin 32) :
    (noteSequence e d s).signallers[k] =
      if k.val = e.signaller then { s.signallers[k] with
        lastSequence := some e.sequence
        gaps := if 1 < d then bump s.signallers[k].gaps else s.signallers[k].gaps }
      else s.signallers[k] := by
  by_cases hk : k.val = e.signaller
  · have hr : s.runtime e.signaller = s.signallers[k] := by rw [← hk, runtime_val]
    rw [if_pos hk, noteSequence, hr]
    by_cases hgap : 1 < d
    · simp only [if_pos hgap]
      exact (setRuntime_signallers s e.signaller _ k).trans (if_pos hk)
    · simp only [if_neg hgap]
      exact (setRuntime_signallers s e.signaller _ k).trans (if_pos hk)
  · rw [if_neg hk]
    unfold noteSequence
    split <;> exact setRuntime_signallers_ne hk _

theorem noteSequence_port (e : IntakeEntry) (d : Nat) (s : State) : (noteSequence e d s).port =
    if 1 < d then (post .reportGap (some (.signaller e.signaller)) s).port else s.port := by
  unfold noteSequence
  split <;> rfl

section Entered

variable (e : IntakeEntry) (d : Nat) (s : State)

theorem enterEntry_only : OnlyChanges [.intake, .signallers, .port] s (enterEntry e d s) := by
  refine OnlyChanges.then ?_ (countIntake_only _ _) (by simp)
  refine OnlyChanges.then ?_ (setIntake_only _ _) (by simp)
  exact (noteSequence_only e d s).mono (by simp)

theorem enterEntry_intake : (enterEntry e d s).intake =
    ⟨insertEntry e s.intake.entries, { s.intake.counts with accepted := bump s.intake.counts.accepted }⟩ := by
  have hintake : (noteSequence e d s).intake = s.intake := noteSequence_only e d s .intake (by simp)
  simp only [enterEntry, State.countIntake, State.setEntries, State.setIntake, hintake]

theorem enterEntry_signallers (k : Fin 32) : (enterEntry e d s).signallers[k] =
    if k.val = e.signaller then { s.signallers[k] with
      lastSequence := some e.sequence
      gaps := if 1 < d then bump s.signallers[k].gaps else s.signallers[k].gaps }
    else s.signallers[k] := noteSequence_signallers e d s k

theorem enterEntry_runtime {e : IntakeEntry} (he : e.signaller < 32) : (enterEntry e d s).runtime e.signaller =
    { s.runtime e.signaller with
      lastSequence := some e.sequence
      gaps := if 1 < d then bump (s.runtime e.signaller).gaps else (s.runtime e.signaller).gaps } := by
  have h := enterEntry_signallers e d s ⟨e.signaller, he⟩
  rw [if_pos rfl] at h
  exact (runtime_val (enterEntry e d s) ⟨e.signaller, he⟩).trans
    (h.trans (by rw [← runtime_val s ⟨e.signaller, he⟩]))

theorem enterEntry_port : (enterEntry e d s).port =
    if 1 < d then (post .reportGap (some (.signaller e.signaller)) s).port else s.port := noteSequence_port e d s

end Entered

/-- The entry of an accepted report in its place; where it is due at once it is handed with every entry before it. -/
theorem acceptReport_leaves {now d : Nat} {e : IntakeEntry} {clamped : Bool} {s : State} :
    ∃ front back, s.intake.entries = front ++ back ∧ (∀ x ∈ front, x.time ≤ e.time) ∧
      (∀ x, back.head? = some x → e.time < x.time) ∧
      (enterEntry e d s).intake.entries = front ++ e :: back ∧
      (acceptReport now e d clamped s).1 =
        (if isDue s.profile now e then handDue now (front.length + 1) (enterEntry e d s) else enterEntry e d s) ∧
      (acceptReport now e d clamped s).2 = .accepted (front.length + 1) (isDue s.profile now e)
        (acceptReport now e d clamped s).1.intake.entries.length (d - 1) clamped ∧
      (acceptReport now e d clamped s).1.intake.entries =
        (if isDue s.profile now e then back else front ++ e :: back) ∧
      (acceptReport now e d clamped s).1.intake.counts =
        { s.intake.counts with accepted := bump s.intake.counts.accepted } := by
  obtain ⟨front, back, hl, hfront, hback, hinsert, hplace⟩ := insertEntry_split e s.intake.entries
  have hstate := acceptReport_state now e d clamped s
  have htaken := acceptReport_taken now e d clamped s
  have hintake := enterEntry_intake e d s
  rw [hinsert] at hintake
  rw [hplace] at hstate htaken
  have hprofile : (enterEntry e d s).profile = s.profile :=
    congrArg ProfileStore.running (enterEntry_only e d s .store (by simp))
  refine ⟨front, back, hl, hfront, hback, by rw [hintake], hstate, htaken, ?_⟩
  rw [hstate]
  by_cases hdue : isDue s.profile now e = true
  · have hhanded := handDue_intake (now := now) (front := front ++ [e]) (back := back) (s := enterEntry e d s)
      (by rw [hintake, List.append_assoc, List.singleton_append]) (by
        intro x hx
        rw [hprofile]
        rcases List.mem_append.mp hx with hx | hx
        · exact isDue_mono (hfront x hx) hdue
        · rwa [List.mem_singleton.mp hx])
    rw [List.length_append, List.length_singleton] at hhanded
    rw [if_pos hdue, if_pos hdue, hhanded, hintake]
    exact ⟨rfl, rfl⟩
  · rw [if_neg hdue, if_neg hdue, hintake]
    exact ⟨rfl, rfl⟩

end Sys2Proof.Machine


/-! PROOF. REPORT PASSAGE, local reports and the entries that go unmatched (R64 to R70, R74, R94 to R96, R109). -/

namespace Sys2Proof.Machine

/-! ## A report that is accepted (R66 to R71) -/

/-- An entry with its figures brought into range (R68). -/
def IntakeEntry.taken (now : Nat) (e : IntakeEntry) : IntakeEntry :=
  { e with time := clampedTime now e.time, speed := takenSpeed e.speed }

/-- The intake counts after a report whose event time may lie ahead (R68). -/
def IntakeCounts.clampedAt (now time : Nat) (c : IntakeCounts) : IntakeCounts :=
  { c with futureClamps := if tooFarAhead now time then bump c.futureClamps else c.futureClamps }

/-- What an accepted report leaves: `b` is the part with its entry in the list. -/
theorem takeReport_accepted {now d : Nat} {e : IntakeEntry} {s : State} (he : e.signaller < 32)
    (hin : (s.runtime e.signaller).service = .inService)
    (hnewer : newerBy (s.runtime e.signaller).lastSequence e.sequence = some d)
    (hwaits : waitsFor e s.intake.entries = false) (hfresh : isStale now (clampedTime now e.time) = false)
    (hroom : s.intake.entries.length < 24) :
    ∃ front back b, s.intake.entries = front ++ back ∧ (∀ x ∈ front, x.time ≤ clampedTime now e.time) ∧
      (∀ x, back.head? = some x → clampedTime now e.time < x.time) ∧
      OnlyChanges [.intake, .signallers, .port] s b ∧
      b.intake = ⟨front ++ e.taken now :: back,
        { s.intake.counts.clampedAt now e.time with accepted := bump s.intake.counts.accepted }⟩ ∧
      (∀ k : Fin 32, k.val ≠ e.signaller → b.signallers[k] = s.signallers[k]) ∧
      b.runtime e.signaller = { s.runtime e.signaller with
        lastSequence := some e.sequence
        gaps := if 1 < d then bump (s.runtime e.signaller).gaps else (s.runtime e.signaller).gaps } ∧
      b.port = (if 1 < d then (post .reportGap (some (.signaller e.signaller)) s).port else s.port) ∧
      (takeReport now e s).1 =
        (if isDue s.profile now (e.taken now) then handDue now (front.length + 1) b else b) ∧
      (takeReport now e s).2 = .accepted (front.length + 1) (isDue s.profile now (e.taken now))
        (takeReport now e s).1.intake.entries.length (d - 1) (tooFarAhead now e.time) ∧
      (takeReport now e s).1.intake.entries =
        (if isDue s.profile now (e.taken now) then back else front ++ e.taken now :: back) ∧
      (takeReport now e s).1.intake.counts = b.intake.counts := by
  have htake : takeReport now e s = acceptReport now (e.taken now) d (tooFarAhead now e.time) (countClamp now e.time s) :=
    (takeReport_inService hin hnewer hwaits).trans (takeInService_accepted hfresh hroom)
  have honly := countClamp_only now e.time s
  have hintake := countClamp_intake now e.time s
  have hsignallers : (countClamp now e.time s).signallers = s.signallers := honly .signallers (by simp)
  have hport : (countClamp now e.time s).port = s.port := honly .port (by simp)
  have hclock : (countClamp now e.time s).clock = s.clock := honly .clock (by simp)
  have hprofile : (countClamp now e.time s).profile = s.profile :=
    congrArg ProfileStore.running (honly .store (by simp))
  have hruntime : (countClamp now e.time s).runtime e.signaller = s.runtime e.signaller := by
    simp only [State.runtime, hsignallers]
  obtain ⟨front, back, hl, hfront, hback, hentries, hstate, htaken, hleft, hcounts⟩ :=
    acceptReport_leaves (now := now) (d := d) (e := e.taken now) (clamped := tooFarAhead now e.time)
      (s := countClamp now e.time s)
  have hentered := enterEntry_intake (e.taken now) d (countClamp now e.time s)
  have hinserted := congrArg Intake.entries hentered
  rw [hentries] at hinserted
  rw [htake, ← hprofile]
  rw [hintake] at hl hcounts hentered
  refine ⟨front, back, enterEntry (e.taken now) d (countClamp now e.time s), hl, hfront, hback,
    (honly.mono (by simp)).trans (enterEntry_only _ _ _), ?_, fun k hk => ?_, ?_, ?_, hstate, htaken, hleft, ?_⟩
  · rw [hentered, hinserted, hintake]
    rfl
  · rw [enterEntry_signallers, if_neg (show ¬ k.val = (e.taken now).signaller from hk), hsignallers]
  · have h := enterEntry_runtime d (countClamp now e.time s) (e := e.taken now) he
    rw [show (e.taken now).signaller = e.signaller from rfl, hruntime] at h
    exact h
  · rw [enterEntry_port, post_port_congr _ _ hport (congrArg LineClock.lineTime hclock), hport]
    rfl
  · rw [hcounts, hentered]

theorem mayUse_reportPassage_iff (c : MasterClass) :
    mayUse c .reportPassage = true ↔ c ∈ [MasterClass.link, .trap] := by
  cases c <;> decide

/-- The report as REPORT PASSAGE carries it. -/
def remoteEntry (m : Master) (x : PassageArgs) : IntakeEntry :=
  ⟨x.signaller, x.sequence, x.time, x.speed, .master m⟩

theorem reportPassage_remote {m : Master} {x : PassageArgs} {now : Nat} {s : State} {g : Signaller}
    (hn : x.signaller ≤ 31) (hg : s.profile.signaller? x.signaller = some g) (hremote : g.source = .remote) :
    reportPassage m x now s = ((takeReport now (remoteEntry m x) s).1,
      takenAnswer (((takeReport now (remoteEntry m x) s).1.runtime x.signaller).lastSequence.getD 0)
        (takeReport now (remoteEntry m x) s).2) := by
  simp only [reportPassage, if_neg (Nat.not_lt.mpr hn), hg, hremote]
  rfl

theorem exec_reportPassage {m : Master} {x : PassageArgs} {now : Nat} {s : State} {g : Signaller}
    (hable : s.able m [.link, .trap]) (hnow : s.now = some now)
    (hn : x.signaller ≤ 31) (hg : s.profile.signaller? x.signaller = some g) (hremote : g.source = .remote) :
    exec (.reportPassage m (some x)) s = .next (respond m 19 ((takeReport now (remoteEntry m x) s).1,
      takenAnswer (((takeReport now (remoteEntry m x) s).1.runtime x.signaller).lastSequence.getD 0)
        (takeReport now (remoteEntry m x) s).2)) := by
  rw [← reportPassage_remote hn hg hremote]
  refine (serve_able (k := .reportPassage) _ mayUse_reportPassage_iff hable).trans ?_
  rw [whenTime_set _ hnow]
  rfl

theorem handedIf_sequences (due : Bool) (now n : Nat) (b : State) :
    SequencesKept b (if due then handDue now n b else b) := by
  cases due with
  | false => exact .of_eq rfl
  | true => exact handDue_sequences now n b

theorem takenSpeed_eq (o : Option Nat) :
    (match o with | some 0 => none | some v => some (min v 15000) | none => none) = takenSpeed o := by
  rcases o with _ | _ | v <;> rfl

/-- Settles O24 (R66, R68, R70, R71). -/
theorem reportsAreAccepted : Obligations.ReportsAreAccepted := by
  intro m x s now d g hable hnow hn hg hremote hin hlast hfirst hfree
  dsimp only
  intro hfresh hroom
  have hsignaller : (remoteEntry m x).signaller < 32 := by
    show x.signaller < 32
    omega
  have hnewer : newerBy (s.runtime x.signaller).lastSequence x.sequence = some d := by
    cases hl : (s.runtime x.signaller).lastSequence with
    | none => rw [hfirst hl]; rfl
    | some last =>
      obtain ⟨hd, hlow, hhigh⟩ := hlast last hl
      rw [newerBy_some, ← hd, if_pos ⟨hlow, hhigh⟩]
  have hwaits : waitsFor (remoteEntry m x) s.intake.entries = false := by
    rw [Bool.eq_false_iff, ne_eq, waitsFor_name]
    rintro ⟨e, he, hname, hsequence⟩
    exact (hfree e he).elim (· hname) (· hsequence)
  have hstale : isStale now (clampedTime now x.time) = false := decide_eq_false (Nat.not_lt.mpr hfresh)
  obtain ⟨front, back, b, hl, hfront, hback, honly, hintake, hothers, hruntime, hport, hstate, htaken, hentries,
    hcounts⟩ := takeReport_accepted (d := d) hsignaller hin hnewer hwaits hstale hroom
  have hexec := exec_reportPassage hable hnow hn hg hremote
  have hspeed : (remoteEntry m x).taken now = ⟨x.signaller, x.sequence, clampedTime now x.time,
      (match x.speed with | some 0 => none | some v => some (min v 15000) | none => none), .master m⟩ := by
    rw [takenSpeed_eq]
    rfl
  rw [htaken, takenAnswer, respond_accepted] at hexec
  rw [hspeed] at hintake hstate hentries hexec
  generalize (takeReport now (remoteEntry m x) s).1 = u at *
  have hkept : (u.runtime x.signaller).lastSequence = (b.runtime x.signaller).lastSequence ∧
      (u.runtime x.signaller).gaps = (b.runtime x.signaller).gaps := by
    have hsequences : SequencesKept b u := by
      rw [hstate]
      exact handedIf_sequences _ _ _ _
    have h := hsequences ⟨x.signaller, hsignaller⟩
    rwa [← runtime_val u ⟨x.signaller, hsignaller⟩, ← runtime_val b ⟨x.signaller, hsignaller⟩] at h
  have hafter : b.runtime x.signaller = { s.runtime x.signaller with
      lastSequence := some x.sequence
      gaps := if 1 < d then bump (s.runtime x.signaller).gaps else (s.runtime x.signaller).gaps } := hruntime
  have hrecord : b.runtime x.signaller = { s.runtime x.signaller with
      lastSequence := some x.sequence, gaps := (u.runtime x.signaller).gaps } := by
    rw [hkept.2, hafter]
  refine ⟨_, front, back, hexec, hl, hfront, hback, hentries, hcounts.trans (by rw [hintake]; rfl), ?_, ?_,
    fun hdue => ?_, fun hdue => ⟨b, honly, ?_, hothers, hrecord, hport, ?_⟩, ?_⟩
  · exact hkept.1.trans (by rw [hafter])
  · exact hkept.2.trans (by rw [hafter]; rfl)
  · have hub : u = b := hstate.trans (if_neg (Bool.eq_false_iff.mp hdue))
    rw [hub] at hrecord ⊢
    exact ⟨(honly.replied m _).mono (by simp), hothers, hrecord, hport⟩
  · rw [show (sendReply m _ u).intake = u.intake from rfl, hcounts, hintake]
    rfl
  · have hhanded : u = handDue now (front.length + 1) b := hstate.trans (if_pos hdue)
    have hdue' : isDue s.profile now ((remoteEntry m x).taken now) = true := hdue
    rw [hspeed] at hdue'
    rw [← hhanded, hdue']
    rfl
  · exact sendReply_replied m _ u

/-! ## A report that is turned away (R65 to R69) -/

theorem countIntake_intake (s : State) (f : IntakeCounts → IntakeCounts) :
    (s.countIntake f).intake = { s.intake with counts := f s.intake.counts } := rfl

theorem post_intake (k : AttnKind) (x : Option Subject) (s : State) : (post k x s).intake = s.intake := rfl

theorem countIntake_port (s : State) (f : IntakeCounts → IntakeCounts) : (s.countIntake f).port = s.port := rfl

theorem takeOutOfService_leaves (e : IntakeEntry) (s : State) :
    OnlyChanges [.intake, .signallers] s (takeOutOfService e s) ∧
      (takeOutOfService e s).intake = { s.intake with counts := { s.intake.counts with
        outOfService := bump s.intake.counts.outOfService } } ∧
      ∀ k : Fin 32, (takeOutOfService e s).signallers[k] = if k.val = e.signaller then { s.signallers[k] with
        lastSequence := if (newerBy s.signallers[k].lastSequence e.sequence).isSome then some e.sequence
          else s.signallers[k].lastSequence } else s.signallers[k] := by
  have hcount := (countIntake_only s (fun c => { c with outOfService := bump c.outOfService })).mono
    (show [Block.intake] ⊆ [.intake, .signallers] by simp)
  cases hnewer : newerBy (s.runtime e.signaller).lastSequence e.sequence with
  | some d =>
    simp only [takeOutOfService, hnewer]
    refine ⟨hcount.then (setRuntime_only _ _ _) (by simp), rfl, fun k => ?_⟩
    refine (setRuntime_signallers _ _ _ k).trans ?_
    by_cases hk : k.val = e.signaller
    · rw [← hk, runtime_val] at hnewer
      rw [if_pos hk, if_pos hk, hnewer, ← hk, runtime_val]
      rfl
    · rw [if_neg hk, if_neg hk]
      rfl
  | none =>
    simp only [takeOutOfService, hnewer]
    refine ⟨hcount, rfl, fun k => ?_⟩
    by_cases hk : k.val = e.signaller
    · rw [← hk, runtime_val] at hnewer
      rw [if_pos hk, hnewer]
      rfl
    · rw [if_neg hk]
      rfl

theorem takeOutOfService_runtime {e : IntakeEntry} (he : e.signaller < 32) (s : State) :
    (takeOutOfService e s).runtime e.signaller = { s.runtime e.signaller with
      lastSequence := if (newerBy (s.runtime e.signaller).lastSequence e.sequence).isSome then some e.sequence
        else (s.runtime e.signaller).lastSequence } := by
  have h := (takeOutOfService_leaves e s).2.2 ⟨e.signaller, he⟩
  rw [if_pos rfl, ← runtime_val s ⟨e.signaller, he⟩] at h
  exact (runtime_val (takeOutOfService e s) ⟨e.signaller, he⟩).trans h

theorem newerBy_isSome (last : Option Nat) (seq : Nat) : (newerBy last seq).isSome =
    match last with
    | none => true
    | some last => decide (1 ≤ (seq + 65536 - last) % 65536 ∧ (seq + 65536 - last) % 65536 ≤ 32767) := by
  cases last with
  | none => rfl
  | some last =>
    rw [newerBy_some]
    split
    · next h => exact (decide_eq_true h).symm
    · next h => exact (decide_eq_false h).symm

/-- The refusal of a report after its counts changed: the intake keeps them, and the caller's last refusal is set on the
port that the postings left. -/
theorem respond_refused_leaves {l : List Block} {s u : State} (m : Master) (code : Nat) (r : Reason) (d : ReplyData)
    (honly : OnlyChanges l s u) (hclock : .clock ∉ l) :
    OnlyChanges (l ++ [.port, .reply]) s (respond m code (u, .refused r d)) ∧
      (respond m code (u, .refused r d)).intake = u.intake ∧
      (respond m code (u, .refused r d)).port =
        u.port.setContext m { u.context m with lastRefusal := some ⟨code, r, s.now⟩ } ∧
      Replied m (.refused r d) (respond m code (u, .refused r d)) := by
  have hnow : u.now = s.now := congrArg LineClock.lineTime (honly .clock hclock)
  refine ⟨?_, rfl, ?_, sendReply_replied m _ _⟩
  · exact (honly.mono fun b hb => List.mem_append_left _ hb).trans
      ((respond_only m code (u, .refused r d)).mono (by simp))
  · rw [← hnow]
    rfl

/-- Settles O25 (R64 to R69). -/
theorem reportsAreTurnedAway : Obligations.ReportsAreTurnedAway := by
  intro m x s hable
  have hexec : exec (.reportPassage m (some x)) s = serve m .reportPassage (whenComplete (whenTime fun now =>
    withParams (some x) fun x => reportPassage m x now)) s := rfl
  have hrefuses : ∀ now r, s.now = some now → reportPassage m x now s = refuse r s →
      Refuses (.reportPassage m (some x)) r s := fun now r hnow hbody =>
    refuses_able (i := .reportPassage m (some x)) rfl hexec mayUse_reportPassage_iff hable
      ((whenTime_set _ hnow).trans hbody)
  refine ⟨fun hnow => refuses_able (i := .reportPassage m (some x)) rfl hexec mayUse_reportPassage_iff hable
    (whenTime_unset _ hnow), fun now hnow => ⟨fun habove => hrefuses now .range hnow (if_pos habove),
    fun hn hnone => hrefuses now .noSuch hnow ?_, fun g hn hg => ⟨fun hlocal => hrefuses now .state hnow ?_,
    fun hremote => ?_⟩⟩⟩
  · simp only [reportPassage, if_neg (Nat.not_lt.mpr hn), hnone]
  · simp only [reportPassage, if_neg (Nat.not_lt.mpr hn), hg, hlocal]
  dsimp only
  have hn32 : x.signaller < 32 := by omega
  have htaken := exec_reportPassage hable hnow hn hg hremote
  have hisSome := newerBy_isSome (s.runtime x.signaller).lastSequence x.sequence
  have hwaits : waitsFor (remoteEntry m x) s.intake.entries = true ↔
      ∃ e ∈ s.intake.entries, e.signaller = x.signaller ∧ e.sequence = x.sequence := waitsFor_name _ _
  refine ⟨fun hout => ?_, fun hin hold => ?_, fun hin hnewer hfree hstale => ?_, fun hin hnewer hfree hfresh hfull => ?_⟩
  · rw [takeReport_out (e := remoteEntry m x) hout, takenAnswer, respond_discarded] at htaken
    obtain ⟨honly, hintake, hsignallers⟩ := takeOutOfService_leaves (remoteEntry m x) s
    have hruntime := takeOutOfService_runtime (e := remoteEntry m x) hn32 s
    refine ⟨_, htaken, (honly.replied m _).mono (by simp), hintake, fun k hk => ?_, ?_, fun last hlast => ?_⟩
    · exact (hsignallers k).trans (if_neg hk)
    · rw [show (remoteEntry m x).signaller = x.signaller from rfl,
        show (remoteEntry m x).sequence = x.sequence from rfl, hisSome] at hruntime
      exact hruntime
    · have hlast' : ((takeOutOfService (remoteEntry m x) s).runtime x.signaller).lastSequence = some last := hlast
      rw [hlast']
      exact sendReply_replied m _ _
  · have hold' : newerBy (s.runtime (remoteEntry m x).signaller).lastSequence (remoteEntry m x).sequence = none ∨
        waitsFor (remoteEntry m x) s.intake.entries = true :=
      hold.imp (fun h => Option.isSome_eq_false_iff.mp (hisSome.trans h) |> Option.isNone_iff_eq_none.mp) hwaits.mpr
    rw [takeReport_duplicate (e := remoteEntry m x) hin hold', takeDuplicate, takenAnswer, respond_discarded] at htaken
    refine ⟨_, htaken, (countIntake_only s _).replied m _, rfl, fun last hlast => ?_⟩
    rw [show ((s.countIntake _).runtime x.signaller).lastSequence = some last from hlast]
    exact sendReply_replied m _ _
  all_goals
    obtain ⟨d, hd⟩ := Option.isSome_iff_exists.mp (hisSome.trans hnewer)
    have hfree' : waitsFor (remoteEntry m x) s.intake.entries = false := by
      rw [Bool.eq_false_iff, ne_eq, hwaits]
      exact hfree
    have hservice := takeReport_inService (now := now) (e := remoteEntry m x) hin hd hfree'
    have hclamp := countClamp_only now x.time s
    have hport : (countClamp now x.time s).port = s.port := hclamp .port (by simp)
    have hclock : (countClamp now x.time s).clock = s.clock := hclamp .clock (by simp)
    have hintake := countClamp_intake now x.time s
  · rw [hservice, takeInService_stale (decide_eq_true hstale)] at htaken
    have honly := hclamp.then (countIntake_only (countClamp now x.time s) fun c => { c with stale := bump c.stale })
      (by simp)
    obtain ⟨hframe, hcounts, hrefusal, hreplied⟩ := respond_refused_leaves m 19 .stale .nothing honly (by simp)
    refine ⟨_, htaken, hframe, ?_, ?_, hreplied⟩
    · refine hcounts.trans ?_
      rw [countIntake_intake, hintake]
      rfl
    · refine hrefusal.trans ?_
      simp only [State.context, countIntake_port, hport, hnow]
  · have hstale : isStale now (clampedTime now x.time) = false := decide_eq_false (Nat.not_lt.mpr hfresh)
    rw [hservice, takeInService_full hstale hfull] at htaken
    have hcounted := hclamp.then
      (countIntake_only (countClamp now x.time s) fun c => { c with overruns := bump c.overruns }) (by simp)
    have hposted := post_port_congr .intakeFull (some (.signaller x.signaller))
      ((countIntake_port (countClamp now x.time s) fun c => { c with overruns := bump c.overruns }).trans hport)
      (congrArg LineClock.lineTime (hcounted .clock (by simp)))
    have honly := (hcounted.mono (show _ ⊆ [Block.intake, .port] by simp)).then
      (post_only .intakeFull (some (.signaller x.signaller)) _) (by simp)
    obtain ⟨hframe, hcounts, hrefusal, hreplied⟩ := respond_refused_leaves m 19 .full .nothing honly (by simp)
    refine ⟨_, htaken, hframe.mono (by simp), ?_, ?_, hreplied⟩
    · refine hcounts.trans ?_
      rw [post_intake, countIntake_intake, hintake]
      rfl
    · refine hrefusal.trans ?_
      simp only [State.context, hposted, hnow]

/-! ## The judgement of a handed entry (R93 to R96, R105) -/

section Judged

variable {s : State} {x : Passage} {g : Signaller} {p : Pig} {f : LastFix}

theorem judgePassage_stray (h : s.profile.signaller? x.signaller = none ∨ candidate s x.signaller = none) :
    judgePassage s x = .unmatched .stray := by
  unfold judgePassage
  rcases h with h | h
  · rw [h]
  · rw [h]
    cases s.profile.signaller? x.signaller <;> rfl

theorem judgePassage_launch (hg : s.profile.signaller? x.signaller = some g)
    (hp : candidate s x.signaller = some p) (hzero : x.signaller = 0) : judgePassage s x = .launch := by
  simp only [judgePassage, hg, hp, if_pos hzero]

theorem fixedAfter_eq (hf : p.lastFix = some f) (t : Nat) : p.fixedAfter t = decide (t < f.time) := by
  simp only [Pig.fixedAfter, hf]

theorem judgePassage_stale (hg : s.profile.signaller? x.signaller = some g)
    (hp : candidate s x.signaller = some p) (hpast : x.signaller ≠ 0) (hf : p.lastFix = some f)
    (hstale : x.time < f.time) : judgePassage s x = .unmatched .staleFix := by
  simp only [judgePassage, hg, hp, if_neg hpast, fixedAfter_eq hf, decide_eq_true hstale, if_true]

theorem early_iff : p.early g = true ↔ p.status = .running ∧ p.position + g.window * 1000 < g.chainage * 1000 := by
  rw [Pig.early, Bool.and_eq_true, decide_eq_true_iff, decide_eq_true_iff]

theorem judgePassage_soft (hg : s.profile.signaller? x.signaller = some g)
    (hp : candidate s x.signaller = some p) (hpast : x.signaller ≠ 0) (hf : p.lastFix = some f)
    (hfix : f.time ≤ x.time) (hearly : p.early g = true) (hsoft : g.firmness = .soft) :
    judgePassage s x = .unmatched .earlySoft := by
  simp only [judgePassage, hg, hp, if_neg hpast, fixedAfter_eq hf, decide_eq_false (Nat.not_lt.mpr hfix), hearly, hsoft,
    if_true, Bool.false_eq_true, if_false]

theorem judgePassage_fix (hg : s.profile.signaller? x.signaller = some g)
    (hp : candidate s x.signaller = some p) (hpast : x.signaller ≠ 0) (hf : p.lastFix = some f)
    (hfix : f.time ≤ x.time) (hfirm : p.early g = true → g.firmness = .firm) :
    judgePassage s x = .fix (p.early g) := by
  simp only [judgePassage, hg, hp, if_neg hpast, fixedAfter_eq hf, decide_eq_false (Nat.not_lt.mpr hfix),
    Bool.false_eq_true, if_false]
  cases hearly : p.early g with
  | false => rfl
  | true => simp only [hfirm hearly, if_true]

theorem takeEntry_unmatched {r : UnmatchedReason} (now : Nat) (h : judgePassage s x = .unmatched r) :
    takeEntry now x s = noteUnmatched now x r s := by
  simp only [takeEntry, h]

end Judged

/-- A first entry that is due is handed whole (R71, R93). -/
theorem exec_entryDue {s : State} {now : Nat} {e : IntakeEntry} {rest : List IntakeEntry} (hpower : s.powered = true)
    (hnow : s.now = some now) (hs : s.intake.entries = e :: rest)
    (hdue : min (e.time + s.profile.tracking.holdBack * 10) 4294967295 ≤ now) :
    exec .entryDue s = .next ((takeEntry now e.passage (s.setEntries rest)).setReply none) := by
  rw [← handFirst_due hs (decide_eq_true hdue)]
  exact happen_timed hpower hnow

/-- Settles O26 (R94 to R96, R105, R107, R109). -/
theorem dueEntriesGoUnmatched : Obligations.DueEntriesGoUnmatched := by
  intro s now e rest why hpower hnow hs hdue hwhy
  have hjudged : judgePassage (s.setEntries rest) e.passage = .unmatched why := by
    rcases hwhy with ⟨rfl, h⟩ | ⟨g, p, f, hg, hpast, hp, hf, ⟨rfl, hstale⟩ | ⟨rfl, hfix, hsoft, hrunning, hbelow⟩⟩
    · exact judgePassage_stray h
    · exact judgePassage_stale hg hp hpast hf hstale
    · exact judgePassage_soft hg hp hpast hf hfix (early_iff.mpr ⟨hrunning, hbelow⟩) hsoft
  refine ⟨_, exec_entryDue hpower hnow hs hdue, ?_⟩
  rw [takeEntry_unmatched now hjudged]
  refine ⟨?_, rfl, rfl, rfl, rfl, rfl⟩
  refine OnlyChanges.then ?_ (setReply_only _ none) (by simp)
  exact ((setIntake_only s _).mono (by simp)).trans ((noteUnmatched_only _ _ _ _).mono (by simp))

/-! ## A local report (R74) -/

/-- The report of a channel's signaller, with the sequence number it is given. -/
def localEntry (s : State) (c : Fin 8) (n time : Nat) (speed : Option Nat) : IntakeEntry :=
  ⟨n, nextSequence (s.runtime n).lastSequence, time, speed, .channel c⟩

theorem localReport_eq {s : State} {c : Fin 8} {n : Nat} (hc : s.profile.channels[c].signaller = some n)
    (now time : Nat) (speed : Option Nat) :
    localReport now c time speed s = (takeReport now (localEntry s c n time speed) s).1 := by
  simp only [localReport, hc]
  rfl

theorem localEntry_taken (s : State) (c : Fin 8) (n now time : Nat) (speed : Option Nat) :
    (localEntry s c n time speed).taken now = ⟨n, nextSequence (s.runtime n).lastSequence, clampedTime now time,
      (match speed with | some 0 => none | some v => some (min v 15000) | none => none), .channel c⟩ := by
  rw [takenSpeed_eq]
  rfl

theorem OnlyChanges.of_agrees {l : List Block} {b : Block} {s t : State} (h : OnlyChanges (l ++ [b]) s t)
    (hb : s.agrees t b) : OnlyChanges l s t := by
  intro c hc
  by_cases hcb : c = b
  · rwa [hcb]
  · exact h c (by simp [hc, hcb])

/-- Settles O30 (R74, R65, R67 to R70). -/
theorem localReportsEnterTheList : Obligations.LocalReportsEnterTheList := by
  intro s now time n c speed hn hc
  dsimp only
  intro hrange
  have hnewer : newerBy (s.runtime n).lastSequence (localEntry s c n time speed).sequence = some 1 := newerBy_next hrange
  have hwaits : waitsFor (localEntry s c n time speed) s.intake.entries = true ↔
      ∃ e ∈ s.intake.entries, e.signaller = n ∧ e.sequence = nextSequence (s.runtime n).lastSequence := waitsFor_name _ _
  have hclamp := countClamp_only now time s
  have hintake := countClamp_intake now time s
  rw [localReport_eq hc now time speed]
  refine ⟨fun hout => ?_, fun hin hwait => ?_, fun hin hfree hstale => ?_, fun hin hfree hfresh hroom => ?_,
    fun hin hfree hfresh hfull => ?_⟩
  · rw [takeReport_out (e := localEntry s c n time speed) hout]
    obtain ⟨honly, hcounts, hsignallers⟩ := takeOutOfService_leaves (localEntry s c n time speed) s
    have hruntime := takeOutOfService_runtime (e := localEntry s c n time speed) hn s
    rw [show (localEntry s c n time speed).signaller = n from rfl, hnewer] at hruntime
    exact ⟨honly, hcounts, hruntime, fun k hk => (hsignallers k).trans (if_neg hk)⟩
  · rw [takeReport_duplicate (e := localEntry s c n time speed) hin (.inr (hwaits.mpr hwait))]
    exact ⟨countIntake_only s _, rfl⟩
  all_goals
    have hfree' : waitsFor (localEntry s c n time speed) s.intake.entries = false :=
      Bool.eq_false_iff.mpr fun h => hfree (hwaits.mp h)
    have hservice := takeReport_inService (now := now) (e := localEntry s c n time speed) hin hnewer hfree'
  · rw [hservice, takeInService_stale (e := localEntry s c n time speed) (decide_eq_true hstale)]
    refine ⟨hclamp.then (countIntake_only _ _) (by simp), ?_⟩
    refine (countIntake_intake _ _).trans ?_
    rw [show (localEntry s c n time speed).time = time from rfl, hintake]
    rfl
  · have hstale : isStale now (clampedTime now time) = false := decide_eq_false (Nat.not_lt.mpr hfresh)
    obtain ⟨front, back, b, hl, hfront, hback, honly, hentered, hothers, hruntime, hport, hstate, -⟩ :=
      takeReport_accepted (e := localEntry s c n time speed) hn hin hnewer hfree' hstale hroom
    rw [localEntry_taken] at hentered
    exact ⟨front, back, b, hl, hfront, hback, OnlyChanges.of_agrees (b := .port) honly hport, hentered, hruntime,
      hothers, hstate.trans (if_congr decide_eq_true_iff rfl rfl)⟩
  · have hstale : isStale now (clampedTime now time) = false := decide_eq_false (Nat.not_lt.mpr hfresh)
    rw [hservice, takeInService_full (e := localEntry s c n time speed) hstale hfull]
    have hcounted := hclamp.then (countIntake_only (countClamp now time s) fun c => { c with overruns := bump c.overruns })
      (by simp)
    refine ⟨(hcounted.mono (by simp)).then (post_only _ _ _) (by simp), ?_,
      post_port_congr _ _ (hcounted .port (by simp)) (congrArg LineClock.lineTime (hcounted .clock (by simp)))⟩
    refine (post_intake _ _ _).trans ((countIntake_intake _ _).trans ?_)
    rw [show (localEntry s c n time speed).time = time from rfl, hintake]
    rfl

end Sys2Proof.Machine


/-! PROOF. The record a fix writes and the push-back behind it (R97 to R99, R103, R104). -/

namespace Sys2Proof.Machine

/-! ## The learnt ratio (R103, R104) -/

theorem blend_range {old learnt weight : Nat} (hold : 100 ≤ old ∧ old ≤ 1000) (hlearnt : 100 ≤ learnt ∧ learnt ≤ 1000)
    (hweight : weight ≤ 16) : 100 ≤ blend old learnt weight ∧ blend old learnt weight ≤ 1000 := by
  obtain ⟨rest, hrest⟩ : ∃ rest, weight + rest = 16 := ⟨16 - weight, by omega⟩
  have hkept : 16 - weight = rest := by omega
  have hold_low := Nat.mul_le_mul_right rest hold.1
  have hold_high := Nat.mul_le_mul_right rest hold.2
  have hlearnt_low := Nat.mul_le_mul_right weight hlearnt.1
  have hlearnt_high := Nat.mul_le_mul_right weight hlearnt.2
  rw [blend, hkept]
  omega

theorem clampRatio_of_range {r : Nat} (h : 100 ≤ r ∧ r ≤ 1000) : clampRatio r = r := by
  unfold clampRatio
  omega

/-- The quotient rounded half up, by the inequalities that pin it. -/
theorem rounded_bounds {adjusted : Nat} (hadjusted : adjusted ≠ 0) (observed : Nat) :
    let rounded := (2 * (observed * 1000) + adjusted) / (2 * adjusted)
    2 * adjusted * rounded ≤ 2 * (observed * 1000) + adjusted ∧
      2 * (observed * 1000) + adjusted < 2 * adjusted * (rounded + 1) := by
  dsimp only
  exact ⟨Nat.mul_div_le _ _, Nat.lt_mul_div_succ _ (by omega)⟩

theorem teaches_iff {early : Bool} {adjusted : Nat} {p : Pig} : teaches early adjusted p = true ↔
    p.source = .learnt ∧ early = false ∧ p.status ≠ .stalled ∧ p.status ≠ .unverified ∧ adjusted ≠ 0 := by
  simp [teaches, and_assoc]

/-! ## The push-back (R99) -/

/-- The cascade runs to the first pig that needs no change. -/
theorem pushBack_eq (front : Nat) (l : List Pig) : ∃ pushed kept, l = pushed ++ kept ∧
    (∀ i p, pushed[i]? = some p → front - 1000 * (i + 1) < p.position) ∧
    (∀ p, kept.head? = some p → p.position ≤ front - 1000 * (pushed.length + 1)) ∧
    pushBack front l = pushed.mapIdx (fun i p => { p with position := front - 1000 * (i + 1) }) ++ kept := by
  induction l generalizing front with
  | nil => exact ⟨[], [], rfl, by simp, by simp, rfl⟩
  | cons p l ih =>
    by_cases hp : front - 1000 < p.position
    · obtain ⟨pushed, kept, hl, hpushed, hkept, heq⟩ := ih (front - 1000)
      have hshift : ∀ i, front - 1000 - 1000 * (i + 1) = front - 1000 * (i + 1 + 1) := fun i => by omega
      simp only [hshift] at hpushed hkept heq
      refine ⟨p :: pushed, kept, by rw [hl, List.cons_append], fun i q hq => ?_, hkept, ?_⟩
      · cases i with
        | zero =>
          obtain rfl := Option.some.inj hq
          exact hp
        | succ i => exact hpushed i q hq
      · rw [pushBack, if_pos hp, heq, List.mapIdx_cons, List.cons_append]
    · refine ⟨[], p :: l, rfl, by simp, fun q hq => ?_, by rw [pushBack, if_neg hp]; rfl⟩
      obtain rfl := Option.some.inj hq
      exact Nat.not_lt.mp hp

theorem pushBack_back (front : Nat) (l : List Pig) :
    List.Forall₂ (fun p q => q = { p with position := q.position } ∧ q.position ≤ p.position) l (pushBack front l) := by
  have hrefl : ∀ l : List Pig,
      List.Forall₂ (fun p q : Pig => q = { p with position := q.position } ∧ q.position ≤ p.position) l l :=
    fun l => List.forall₂_same.mpr fun _ _ => ⟨rfl, le_rfl⟩
  induction l generalizing front with
  | nil => exact .nil
  | cons p l ih =>
    unfold pushBack
    split
    · next hp => exact .cons ⟨rfl, hp.le⟩ (ih _)
    · exact hrefl _

theorem pushBack_head {front : Nat} {l : List Pig} {p : Pig} (h : (pushBack front l).head? = some p) :
    p.position ≤ front - 1000 := by
  cases l with
  | nil => cases h
  | cons q l =>
    unfold pushBack at h
    split at h
    · obtain rfl := Option.some.inj h
      exact le_rfl
    · next hq =>
      obtain rfl := Option.some.inj h
      exact Nat.not_lt.mp hq

/-- Settles O29 (R97 to R99, R103, R104). -/
theorem fixesWriteTheRecord : Obligations.FixesWriteTheRecord := by
  refine ⟨fun s now g x early ahead p f hf _ hlow hhigh hweight => ?_, fun front l =>
    ⟨pushBack_eq front l, pushBack_back front l, fun hl => ⟨fun p => pushBack_head, fun hroom => ?_⟩⟩⟩
  · dsimp only
    have hratio : (fixedPig s now g x early ahead p).ratio = ratioAfterFix s now g x early p := rfl
    have hadjusted : adjustedFluid s now g x.time p = p.fluid - velocityAt s (g.chainage * 1000) * (now - x.time) / 10 :=
      rfl
    have hobserved : observedDistance g p = g.chainage * 1000 - f.chainage := by rw [observedDistance, hf]
    have hkept : ¬ teaches early (adjustedFluid s now g x.time p) p = true →
        ratioAfterFix s now g x early p = p.ratio := fun h => if_neg h
    have hlearns : teaches early (adjustedFluid s now g x.time p) p = true →
        ratioAfterFix s now g x early p = blend p.ratio
          (learntRatio (observedDistance g p) (adjustedFluid s now g x.time p)) s.profile.tracking.weight := fun h =>
      (if_pos h).trans (clampRatio_of_range (blend_range ⟨hlow, hhigh⟩ (clampRatio_range _) hweight))
    have hrange : 100 ≤ ratioAfterFix s now g x early p ∧ ratioAfterFix s now g x early p ≤ 1000 := by
      by_cases hteaches : teaches early (adjustedFluid s now g x.time p) p = true
      · rw [hlearns hteaches]
        exact blend_range ⟨hlow, hhigh⟩ (clampRatio_range _) hweight
      · rw [hkept hteaches]
        exact ⟨hlow, hhigh⟩
    rw [hratio]
    refine ⟨rfl, fixPosition_placed s now g x p.ratio ahead, hrange.1, hrange.2, fun hstays => hkept ?_,
      fun hsource hearly hstalled hunverified hfluid => ?_⟩
    · rw [teaches_iff, hadjusted]
      rintro ⟨hsource, hearly, hstalled, hunverified, hfluid⟩
      rcases hstays with h | h | h | h | h
      · exact absurd (h.symm.trans hsource) (by simp)
      · exact absurd (h.symm.trans hearly) (by simp)
      · exact hstalled h
      · exact hunverified h
      · exact hfluid h
    · have hrounded := rounded_bounds hfluid (g.chainage * 1000 - f.chainage)
      refine ⟨_, _, rfl, hrounded.1, hrounded.2, ?_⟩
      rw [hlearns (teaches_iff.mpr ⟨hsource, hearly, hstalled, hunverified, hfluid⟩), hobserved, hadjusted]
      rfl
  · rw [separated_iff] at hl ⊢
    exact (pushBack_spaced hl fun _ => .inl hroom).1

end Sys2Proof.Machine


/-! PROOF. A passage given to a pig: the launch, the fix with the arrival, and ASSIGN PASSAGE (R97 to R108, R111, R112). -/

namespace Sys2Proof.Machine

/-! ## A judgement that follows other effects (R142) -/

/-- What a judgement of every watch leaves, counted from an earlier state with the same watches and valves that posted
none of the watches' kinds. -/
theorem judgeAll_after {s v : State} (hwatch : v.watchUnit = s.watchUnit) (hvalves : v.valves = s.valves)
    (hkept : ContextsKept s v) (hquiet : ∀ k ∈ watchKinds, Posted k [] s v) :
    ∃ u, judgeAll v = u ∧ OnlyChanges [.port, .valves, .watchUnit] v u ∧
      (∀ st : Fin 16, u.valves[st].own = s.valves[st].own) ∧ WatchesJudged s u ∧ ContextsKept s u ∧
      ∀ k l, k ∉ watchKinds → Posted k l s v → Posted k l s u := by
  have heffects := judgeAll_effects v
  refine ⟨judgeAll v, rfl, heffects.1, fun st => ?_, ?_, hkept.trans heffects.contexts,
    fun k l hk h => judgeAll_posted_from hk h⟩
  · rw [heffects.2.2.1 st, hvalves]
  · exact judgeAll_judged_from hwatch (fun st => by rw [hvalves]) hquiet

/-! ## The launch (R106, R167) -/

theorem takeEntry_launch {now : Nat} {x : Passage} {s : State} {g : Signaller} {p : Pig}
    (hg : s.profile.signaller? x.signaller = some g) (hp : candidate s x.signaller = some p) (hzero : x.signaller = 0) :
    takeEntry now x s = makeLaunch now g x p s := by
  simp only [takeEntry, judgePassage_launch hg hp hzero, hg, hp, applyPassage, if_pos hzero]

/-- The part with the launched pig in the line and the passage counted and posted, before the watches are judged. -/
def launchedState (now : Nat) (g : Signaller) (x : Passage) (p : Pig) (s : State) : State :=
  post .passage (some (.tag p.tag)) (countPassage x.signaller (s.setRegister { s.register with
    inLine := s.register.inLine ++ [launchedPig s now g x (s.register.inLine.getLast?.map (·.position)) p]
    launchBarrel := s.register.launchBarrel.tail }))

theorem makeLaunch_eq (now : Nat) (g : Signaller) (x : Passage) (p : Pig) (s : State) : makeLaunch now g x p s =
    (judgeAll (launchedState now g x p s)).setLaunchOverdue
      (if (judgeAll (launchedState now g x p s)).register.launchBarrel.isEmpty then none
        else some (launchDeadline (judgeAll (launchedState now g x p s)) now)) := rfl

theorem launchedState_posts (now : Nat) (g : Signaller) (x : Passage) (p : Pig) (s : State) :
    Posts (once .passage (.tag p.tag)) s (launchedState now g x p s) :=
  Posts.of_port_then rfl rfl (post_posts _ _ _)

theorem launchedState_only (now : Nat) (g : Signaller) (x : Passage) (p : Pig) (s : State) :
    OnlyChanges [.register, .signallers, .port] s (launchedState now g x p s) := by
  refine OnlyChanges.then ?_ (post_only _ _ _) (by simp)
  exact ((setRegister_only s _).mono (by simp)).trans ((setRuntime_only _ _ _).mono (by simp))

theorem runtime_congr {s t : State} (h : t.signallers = s.signallers) (n : Nat) : t.runtime n = s.runtime n := by
  rw [State.runtime, h, State.runtime]

theorem countPassage_runtime {n : Nat} (hn : n < 32) (s : State) : (countPassage n s).runtime n =
    { s.runtime n with passages := bump (s.runtime n).passages, missed := 0 } := setRuntime_runtime s hn _

theorem launchedState_runtime (now : Nat) (g : Signaller) {x : Passage} (p : Pig) {s : State} (hx : x.signaller < 32) :
    (launchedState now g x p s).runtime x.signaller =
      { s.runtime x.signaller with passages := bump (s.runtime x.signaller).passages, missed := 0 } :=
  countPassage_runtime hx _

/-- Settles O27 (R105, R106, R142, R167). -/
theorem dueEntriesLaunch : Obligations.DueEntriesLaunch := by
  intro s now e rest g p staged hpower hnow hs hdue hzero hg hdriving hstaged
  have hexec := exec_entryDue hpower hnow hs hdue
  have hg' : (s.setEntries rest).profile.signaller? e.passage.signaller = some g := by
    rw [show e.passage.signaller = 0 from hzero]
    exact hg
  have hp : candidate (s.setEntries rest) e.passage.signaller = some p := by
    rw [show e.passage.signaller = 0 from hzero, candidate, show (s.setEntries rest).profile.signaller? 0 = some g from hg]
    exact (if_pos rfl).trans ((if_pos hdriving).trans (congrArg List.head? hstaged))
  rw [takeEntry_launch hg' hp hzero, makeLaunch_eq] at hexec
  have hposts : Posts _ s _ := (launchedState_posts now g e.passage p (s.setEntries rest)).of_port_then rfl rfl
  have honly := launchedState_only now g e.passage p (s.setEntries rest)
  have hruntime : (launchedState now g e.passage p (s.setEntries rest)).runtime 0 =
      { s.runtime 0 with passages := bump (s.runtime 0).passages, missed := 0 } := by
    have h := launchedState_runtime now g (x := e.passage) p (s := s.setEntries rest)
      (by rw [show e.passage.signaller = 0 from hzero]; decide)
    rwa [show e.passage.signaller = 0 from hzero] at h
  have hothers : ∀ k : Fin 32, k.val ≠ 0 →
      (launchedState now g e.passage p (s.setEntries rest)).signallers[k] = s.signallers[k] := fun k hk =>
    setRuntime_signallers_ne (n := e.signaller) (by rwa [hzero]) _
  have hregister : (launchedState now g e.passage p (s.setEntries rest)).register = { s.register with
      inLine := s.register.inLine ++ [launchedPig s now g e.passage (s.register.inLine.getLast?.map (·.position)) p]
      launchBarrel := staged } := by
    rw [← show (p :: staged).tail = staged from rfl, ← hstaged]
    rfl
  have hintake : (launchedState now g e.passage p (s.setEntries rest)).intake = { s.intake with entries := rest } := rfl
  generalize launchedState now g e.passage p (s.setEntries rest) = v at *
  obtain ⟨u, hu, hframe, hown, hjudged, hkept, hposted⟩ := judgeAll_after (s := s) (v := v)
    (honly .watchUnit (by simp)) (honly .valves (by simp)) hposts.2.1 (fun k hk => by
      have h := hposts.2.2 k
      rwa [once_watchKinds (by simp [watchKinds]) k hk] at h)
  have hpassage : Posted .passage [.tag p.tag] s u := hposted _ _ (by simp [watchKinds]) (hposts.2.2 .passage)
  have hunow : u.now = some now := (congrArg LineClock.lineTime ((hframe .clock (by simp)).trans (honly .clock (by simp)))).trans hnow
  rw [hu] at hexec
  have hall : OnlyChanges [.intake, .register, .signallers, .port, .valves, .watchUnit] s u :=
    ((setIntake_only s _).mono (by simp)).trans ((honly.mono (by simp)).trans (hframe.mono (by simp)))
  have huregister := (hframe .register (by simp)).trans hregister
  have husignallers : u.signallers = v.signallers := hframe .signallers (by simp)
  have huruntime : u.runtime 0 = _ := (runtime_congr husignallers 0).trans hruntime
  refine ⟨_, launchedPig s now g e.passage (s.register.inLine.getLast?.map fun q : Pig => q.position) p, hexec, ?_,
    rfl, ?_, huregister, ?_, fixPosition_placed s now g e.passage p.ratio _, ?_, ?_, ?_, fun k hk => ?_, ?_,
    ?_, ?_, hown, ?_, ?_⟩
  · refine OnlyChanges.then ?_ (setReply_only _ none) (by simp)
    exact (hall.mono (by simp)).then (setLaunchOverdue_only _ _) (by simp)
  · exact (hframe .intake (by simp)).trans hintake
  · rw [← hzero]
    rfl
  · exact congrArg SigRuntime.passages huruntime
  · exact congrArg SigRuntime.missed huruntime
  · show u.runtime 0 = { s.runtime 0 with passages := (u.runtime 0).passages, missed := 0 }
    rw [huruntime]
  · refine Eq.trans ?_ (hothers k hk)
    show u.signallers[k] = v.signallers[k]
    rw [husignallers]
  · exact hpassage.one.trans (by rw [hunow]; rfl)
  · exact fun k => hpassage.bit_true k
  · refine ⟨hkept, fun k hk => ?_⟩
    rw [List.mem_cons, not_or] at hk
    have h := hposts.2.2 k
    rw [once, if_neg hk.1] at h
    exact hposted k [] hk.2 h
  · exact hjudged
  · have htraps : u.traps = s.traps := hall .traps (by simp)
    have hprofile : u.profile = s.profile := congrArg ProfileStore.running (hall .store (by simp))
    show { u.traps with
      launchOverdue := if u.register.launchBarrel.isEmpty then none else some (launchDeadline u now) } = _
    rw [htraps, launchDeadline, hprofile, huregister]
    exact congrArg (Traps.mk _ _) (if_congr List.isEmpty_iff rfl rfl)

end Sys2Proof.Machine


/-! PROOF. The fix of a candidate, with the arrival, and ASSIGN PASSAGE (R94 to R101, R107, R108, R111, R112). -/

namespace Sys2Proof.Machine

/-! ## The line after a fix (R97 to R99) -/

theorem positionAhead_cons (o : Option Nat) (a : Pig) (l : List Pig) :
    positionAhead o (a :: l) = positionAhead (some a.position) l := by
  cases l <;> simp [positionAhead, List.getLast?_cons]

theorem positionAhead_none (l : List Pig) : positionAhead none l = l.getLast?.map fun q : Pig => q.position := by
  rw [positionAhead, Option.or_none]

/-- The candidate is written behind the pigs ahead of it, and those behind are pushed back. -/
theorem fixList_append (write : Option Nat → Pig → Pig) {c : Pig → Bool} {ahead behind : List Pig} {p : Pig}
    (hp : c p = true) (hahead : ∀ a ∈ ahead, c a = false) (o : Option Nat) :
    fixList write c o (ahead ++ p :: behind) = ahead ++ write (positionAhead o ahead) p ::
      pushBack (write (positionAhead o ahead) p).position behind := by
  induction ahead generalizing o with
  | nil => exact if_pos hp
  | cons a ahead ih =>
    obtain ⟨ha, hahead⟩ := List.forall_mem_cons.mp hahead
    rw [positionAhead_cons, List.cons_append, List.cons_append, ← ih hahead]
    exact if_neg (by simp [ha])

/-! ## The postings of a fix and of an arrival (R100, R101, R108) -/

theorem Posts.quiet {e : AttnKind → List Subject} {s t : State} (h : Posts e s t) {k : AttnKind} (hk : e k = []) :
    Posted k [] s t := by
  rw [← hk]
  exact h.2.2 k

theorem PostedSomehow.then_quiet {k : AttnKind} {l : List Subject} {s t u : State} (h : PostedSomehow k l s t)
    (h' : Posted k [] t u) (hnow : u.now = t.now) : PostedSomehow k l s u := by
  obtain ⟨hnone, hsome, hbit⟩ := h
  obtain ⟨hdetail, hattention⟩ := h'
  have hdetail' : u.port.detail[k.bit] = t.port.detail[k.bit] := hdetail
  refine ⟨fun hl => hdetail'.trans (hnone hl), fun hl => ?_, fun m => ?_⟩
  · obtain ⟨x, hx, hd⟩ := hsome hl
    exact ⟨x, hx, by rw [hdetail', hd, hnow]⟩
  · rw [hattention m, hbit m, List.isEmpty_nil, Bool.not_true, Bool.or_false]

/-- The arrival of a tag fills the receive barrel past its capacity. -/
def overfills (tag : Nat) (s : State) : Bool :=
  (s.register.inLine.find? (fun p => p.tag == tag)).isSome &&
    decide (s.profile.receive.capacity < s.register.receiveBarrel.length + 1)

theorem makeArrival_posts (t tag : Nat) (s : State) :
    Posts (fun k => if k = .barrelOverfill ∧ overfills tag s = true then [.trap .receive] else []) s (makeArrival t tag s) := by
  unfold makeArrival
  cases hfind : s.register.inLine.find? (fun p => p.tag == tag) with
  | none => exact (Posts.refl s).congr fun k => if_neg (by simp [overfills, hfind])
  | some p =>
    have hlength : (s.register.receiveBarrel ++ [arrivedPig t p]).length = s.register.receiveBarrel.length + 1 :=
      List.length_append
    dsimp only
    split
    · next hfull =>
      have hover : overfills tag s = true := by
        rw [overfills, hfind, Option.isSome_some, Bool.true_and]
        exact decide_eq_true (hlength ▸ hfull)
      refine (Posts.of_port_then rfl rfl (post_posts .barrelOverfill (.trap .receive) _)).congr fun k => ?_
      simp [once, hover]
    · next hroom =>
      have hover : overfills tag s = false := by
        rw [overfills, hfind, Option.isSome_some, Bool.true_and]
        exact decide_eq_false fun h => hroom (hlength.symm ▸ h)
      exact (Posts.of_port rfl rfl).congr fun k => if_neg (by simp [hover])

/-- What a fix posts, before any arrival: PASSAGE with the tag, and SIGNALLER_FAULT for each signaller set OUT. -/
theorem makeFix_posted {now : Nat} {g : Signaller} {x : Passage} {early : Bool} {p : Pig} {f : LastFix} {s : State}
    (hf : p.lastFix = some f) (hg : s.profile.signaller? x.signaller = some g) :
    ContextsKept s (makeFix now g x early p s) ∧ Posted .passage [.tag p.tag] s (makeFix now g x early p s) ∧
      PostedSomehow .signallerFault (((List.range 32).filter (faultsAt f.chainage (g.chainage * 1000) s)).map .signaller)
        s (makeFix now g x early p s) ∧
      ∀ k, k ≠ .passage → k ≠ .signallerFault → Posted k [] s (makeFix now g x early p s) := by
  obtain ⟨-, hkept, hquiet, hfaults⟩ := countFix_leaves (n := x.signaller) (g := g) (p := p) (f := f)
    (s := s.setInLine (fixList (fixedPig s now g x early) (unseenAt g.chainage) none s.register.inLine)) hf hg
  unfold makeFix
  generalize countFix x.signaller g p _ = t at *
  have hpost := post_posts .passage (.tag p.tag) t
  have hother : ∀ k, k ≠ .passage → Posted k [] t (post .passage (some (.tag p.tag)) t) := fun k hk =>
    hpost.quiet (if_neg hk)
  have hcounted : Posted .passage [] s t := hquiet .passage (by simp)
  refine ⟨hkept.trans hpost.2.1, hcounted.trans (hpost.2.2 .passage) rfl,
    PostedSomehow.then_quiet hfaults (hother _ (by simp)) rfl, fun k hk hk' => ?_⟩
  exact Posted.trans (a := []) (b := []) (hquiet k hk') (hother k hk) rfl

/-! ## A passage given to an in-line pig (R93, R112) -/

/-- The part after a fix and the arrival that may follow, before the watches are judged. -/
def passedState (now : Nat) (g : Signaller) (x : Passage) (early : Bool) (p : Pig) (s : State) : State :=
  let s1 := makeFix now g x early p s
  if s1.profile.isReceive x.signaller then makeArrival x.time p.tag s1 else s1

theorem applyPassage_past {x : Passage} (hx : x.signaller ≠ 0) (now : Nat) (g : Signaller) (early : Bool) (p : Pig)
    (s : State) : applyPassage now g x early p s = judgeAll (passedState now g x early p s) := if_neg hx

theorem passedState_only (now : Nat) (g : Signaller) (x : Passage) (early : Bool) (p : Pig) (s : State) :
    OnlyChanges [.register, .signallers, .port] s (passedState now g x early p s) := by
  unfold passedState
  dsimp only
  split
  · exact (makeFix_only now g x early p s).then (makeArrival_only _ _ _) (by simp)
  · exact makeFix_only now g x early p s

/-- What a fix and its arrival post. -/
theorem passedState_posted {now : Nat} {g : Signaller} {x : Passage} {early : Bool} {p : Pig} {f : LastFix} {s : State}
    (hf : p.lastFix = some f) (hg : s.profile.signaller? x.signaller = some g) :
    let t := passedState now g x early p s
    ContextsKept s t ∧ Posted .passage [.tag p.tag] s t ∧
      PostedSomehow .signallerFault (((List.range 32).filter (faultsAt f.chainage (g.chainage * 1000) s)).map .signaller)
        s t ∧
      Posted .barrelOverfill (if s.profile.isReceive x.signaller = true ∧ overfills p.tag (makeFix now g x early p s) = true then
        [.trap .receive] else []) s t ∧
      ∀ k, k ≠ .passage → k ≠ .signallerFault → k ≠ .barrelOverfill → Posted k [] s t := by
  dsimp only
  obtain ⟨hkept, hpassage, hfaults, hquiet⟩ := makeFix_posted (now := now) (early := early) hf hg
  have hprofile : (makeFix now g x early p s).profile = s.profile :=
    congrArg ProfileStore.running (makeFix_only now g x early p s .store (by simp))
  unfold passedState
  dsimp only
  rw [hprofile]
  generalize makeFix now g x early p s = t at *
  by_cases hreceive : s.profile.isReceive x.signaller = true
  · have harrival := makeArrival_posts x.time p.tag t
    have hother : ∀ k, k ≠ .barrelOverfill → Posted k [] t (makeArrival x.time p.tag t) := fun k hk =>
      harrival.quiet (if_neg fun h => hk h.1)
    simp only [hreceive, true_and]
    refine ⟨hkept.trans harrival.2.1, ?_, hfaults.then_quiet (hother _ (by simp)) harrival.1, ?_, fun k hk hk' hk'' => ?_⟩
    · exact Posted.trans (b := []) hpassage (hother _ (by simp)) harrival.1
    · have h := (hquiet .barrelOverfill (by simp) (by simp)).trans (harrival.2.2 .barrelOverfill) harrival.1
      simpa using h
    · exact Posted.trans (a := []) (b := []) (hquiet k hk hk') (hother k hk'') harrival.1
  · simp only [hreceive, false_and, if_false, Bool.false_eq_true]
    exact ⟨hkept, hpassage, hfaults, hquiet _ (by simp) (by simp), fun k hk hk' _ => hquiet k hk hk'⟩

/-! ## The signallers and the register that a fix leaves (R99, R100, R108) -/

theorem missedBetween_eq (p : Profile) (lo hi k : Nat) (r : SigRuntime) : r.missedBetween p lo (hi * 1000) k =
    match p.signaller? k with
    | none => r
    | some between =>
      if r.service = .inService ∧ lo < between.chainage * 1000 ∧ between.chainage < hi then
        (if 3 ≤ r.missed + 1 then { r with missed := 3, service := .out } else { r with missed := r.missed + 1 })
      else r := by
  unfold SigRuntime.missedBetween
  cases p.signaller? k with
  | none => rfl
  | some b => exact if_congr (by rw [Nat.mul_lt_mul_right (by decide)]) rfl rfl

/-- The signallers that a fix sets OUT, from their records before and after it. -/
theorem faultsAt_iff {lo hi : Nat} {s : State} {k : Fin 32} : faultsAt lo hi s k = true ↔
    s.signallers[k].service = .inService ∧ (s.signallers[k].missedBetween s.profile lo hi k).service = .out := by
  unfold faultsAt SigRuntime.missedBetween
  rw [runtime_val]
  generalize s.signallers[k] = r
  cases s.profile.signaller? k with
  | none =>
    dsimp only
    cases r.service <;> simp
  | some g =>
    dsimp only
    simp only [Bool.and_eq_true, decide_eq_true_iff]
    by_cases hb : r.service = .inService ∧ lo < g.chainage * 1000 ∧ g.chainage * 1000 < hi
    · rw [if_pos hb]
      obtain ⟨hin, hlo, hhi⟩ := hb
      by_cases hthree : 3 ≤ r.missed + 1
      · rw [if_pos hthree]
        simp [hin, hlo, hhi, hthree]
      · rw [if_neg hthree]
        simp only [hin, hthree, and_false, false_and, reduceCtorEq]
    · rw [if_neg hb]
      constructor
      · rintro ⟨⟨⟨hin, -⟩, hlo⟩, hhi⟩
        exact absurd ⟨hin, hlo, hhi⟩ hb
      · rintro ⟨hin, hout⟩
        exact absurd (hin.symm.trans hout) (by simp)

theorem passedState_signallers (now : Nat) {g : Signaller} {x : Passage} (early : Bool) {p : Pig} {f : LastFix} {s : State}
    (hf : p.lastFix = some f) (hg : s.profile.signaller? x.signaller = some g) (k : Fin 32) :
    (passedState now g x early p s).signallers[k] =
      ((countPassage x.signaller s).signallers[k]).missedBetween s.profile f.chainage (g.chainage * 1000) k := by
  have hfix : (passedState now g x early p s).signallers = (countFix x.signaller g p
      (s.setInLine (fixList (fixedPig s now g x early) (unseenAt g.chainage) none s.register.inLine))).signallers := by
    unfold passedState
    dsimp only
    split
    · exact makeArrival_only _ _ _ .signallers (by simp)
    · rfl
  rw [hfix]
  generalize fixList (fixedPig s now g x early) (unseenAt g.chainage) none s.register.inLine = l
  have hcounted := (countFix_leaves (n := x.signaller) (g := g) (p := p) (f := f) (s := s.setInLine l) hf hg).1 k
  rw [countPassage_signallers] at hcounted ⊢
  exact hcounted

theorem makeFix_register {now : Nat} {g : Signaller} {x : Passage} {early : Bool} {p : Pig} {s : State}
    {ahead behind : List Pig} (hs : s.register.inLine = ahead ++ p :: behind) (hp : unseenAt g.chainage p = true)
    (hahead : ∀ a ∈ ahead, unseenAt g.chainage a = false) :
    let q := fixedPig s now g x early (ahead.getLast?.map fun a : Pig => a.position) p
    (makeFix now g x early p s).register =
      { s.register with inLine := ahead ++ q :: pushBack q.position behind } := by
  dsimp only
  have hline := fixList_append (fixedPig s now g x early) (behind := behind) hp hahead none
  rw [positionAhead_none, ← hs] at hline
  rw [← hline]
  unfold makeFix
  exact countFix_only _ _ _ _ .register (by simp)

/-- The pig of a tag that no pig ahead carries leaves the line for the receive barrel. -/
theorem makeArrival_register {t : Nat} {q : Pig} {s : State} {ahead behind : List Pig}
    (hs : s.register.inLine = ahead ++ q :: behind) (hahead : ∀ a ∈ ahead, a.tag ≠ q.tag) :
    (makeArrival t q.tag s).register = { s.register with
      inLine := ahead ++ behind, receiveBarrel := s.register.receiveBarrel ++ [arrivedPig t q] } := by
  have hfind : s.register.inLine.find? (fun p => p.tag == q.tag) = some q :=
    find?_first hs (by simp) fun a ha => by simpa using hahead a ha
  have herase : s.register.inLine.eraseP (fun p => p.tag == q.tag) = ahead ++ behind := by
    rw [hs, List.eraseP_append_right _ fun a ha => by simpa using hahead a ha]
    simp
  unfold makeArrival
  rw [hfind]
  dsimp only
  rw [herase]
  split <;> rfl

end Sys2Proof.Machine


/-! PROOF. A due passage that fixes its candidate, and ASSIGN PASSAGE (R94 to R101, R107, R108, R111, R112). -/

namespace Sys2Proof.Machine

/-! ## The candidate past the launch (R94) -/

theorem unseenAt_true {c : Nat} {p : Pig} {f : LastFix} (hline : p.status.inLine = true) (hf : p.lastFix = some f)
    (hbelow : f.chainage < c * 1000) : unseenAt c p = true := by
  simp [unseenAt, hline, hf, hbelow]

theorem unseenAt_false {c : Nat} {p : Pig} {f : LastFix} (hf : p.lastFix = some f) (hat : c * 1000 ≤ f.chainage) :
    unseenAt c p = false := by
  simp [unseenAt, hf, hat]

theorem unseenAt_fixed {c : Nat} {p : Pig} (h : unseenAt c p = true) :
    ∃ f, p.lastFix = some f ∧ f.chainage < c * 1000 := by
  unfold unseenAt at h
  cases hf : p.lastFix with
  | none => simp [hf] at h
  | some f => exact ⟨f, rfl, by simpa [hf] using (Bool.and_eq_true_iff.mp h).2⟩

theorem candidate_past {s : State} {n : Nat} {g : Signaller} (hn : n ≠ 0) (hg : s.profile.signaller? n = some g)
    (hreceive : s.profile.isReceive n = true → s.traps.receive.state = .linedUp) :
    candidate s n = s.register.inLine.find? (unseenAt g.chainage) := by
  simp only [candidate, hg, if_neg hn]
  exact if_neg fun h => h.2 (hreceive h.1)

theorem takeEntry_fix {s : State} {x : Passage} {g : Signaller} {p : Pig} {f : LastFix} {now : Nat}
    (hg : s.profile.signaller? x.signaller = some g) (hp : candidate s x.signaller = some p) (hpast : x.signaller ≠ 0)
    (hf : p.lastFix = some f) (hfix : f.time ≤ x.time) (hfirm : p.early g = true → g.firmness = .firm) :
    takeEntry now x s = judgeAll (passedState now g x (p.early g) p s) := by
  simp only [takeEntry, judgePassage_fix hg hp hpast hf hfix hfirm, hg, hp]
  exact applyPassage_past hpast now g _ p s

/-- The register that a fix and its arrival leave. -/
theorem passedState_register {now : Nat} {g : Signaller} {x : Passage} {early : Bool} {p : Pig} {s : State}
    {ahead behind : List Pig} (hs : s.register.inLine = ahead ++ p :: behind) (hp : unseenAt g.chainage p = true)
    (hahead : ∀ a ∈ ahead, a.tag ≠ p.tag ∧ unseenAt g.chainage a = false) :
    let q := fixedPig s now g x early (ahead.getLast?.map fun a : Pig => a.position) p
    (passedState now g x early p s).register = { s.register with
      inLine := if s.profile.isReceive x.signaller then ahead ++ pushBack q.position behind
        else ahead ++ q :: pushBack q.position behind
      receiveBarrel := if s.profile.isReceive x.signaller then s.register.receiveBarrel ++ [arrivedPig x.time q]
        else s.register.receiveBarrel } ∧
    overfills p.tag (makeFix now g x early p s) =
      decide (s.profile.receive.capacity < s.register.receiveBarrel.length + 1) := by
  dsimp only
  have hregister := makeFix_register (now := now) (x := x) (early := early) hs hp fun a ha => (hahead a ha).2
  have hprofile : (makeFix now g x early p s).profile = s.profile :=
    congrArg ProfileStore.running (makeFix_only now g x early p s .store (by simp))
  dsimp only at hregister
  unfold passedState
  dsimp only
  rw [hprofile]
  generalize hq : fixedPig s now g x early (ahead.getLast?.map fun a : Pig => a.position) p = q at *
  have htag : p.tag = q.tag := by rw [← hq]; rfl
  rw [htag] at hahead ⊢
  generalize makeFix now g x early p s = t at *
  have hline : t.register.inLine = ahead ++ q :: pushBack q.position behind := by rw [hregister]
  constructor
  · by_cases hreceive : s.profile.isReceive x.signaller = true
    · simp only [hreceive, if_true]
      rw [makeArrival_register hline fun a ha => (hahead a ha).1, hregister]
    · simp only [hreceive, if_false, Bool.false_eq_true]
      exact hregister
  · have hfind : t.register.inLine.find? (fun p => p.tag == q.tag) = some q :=
      find?_first hline (by simp) fun a ha => by simpa using (hahead a ha).1
    rw [overfills, hfind, hprofile, hregister, Option.isSome_some, Bool.true_and]

/-- The signaller of the fix lies at the upper end, so it is not passed over. -/
theorem missedBetween_self {p : Profile} {g : Signaller} {k : Nat} (hg : p.signaller? k = some g) (lo : Nat)
    (r : SigRuntime) : r.missedBetween p lo (g.chainage * 1000) k = r := by
  simp [SigRuntime.missedBetween, hg]

/-- Settles O28 (R94 to R101, R107, R108, R142). -/
theorem dueEntriesFix : Obligations.DueEntriesFix := by
  intro s now e rest g f p ahead behind hpower hnow hs hdue hpast hn hg hreceive hline hahead hin hf hbelow hfix
  dsimp only
  have hearly : decide (p.status = .running ∧ p.position + g.window * 1000 < g.chainage * 1000) = p.early g := by
    rw [Bool.eq_iff_iff, early_iff, decide_eq_true_iff]
  rw [hearly]
  intro hfirm
  have hunseen := unseenAt_true hin hf hbelow
  have hahead' : ∀ a ∈ ahead, a.tag ≠ p.tag ∧ unseenAt g.chainage a = false := fun a ha => by
    obtain ⟨htag, af, haf, hat⟩ := hahead a ha
    exact ⟨htag, unseenAt_false haf hat⟩
  have hcandidate : candidate (s.setEntries rest) e.passage.signaller = some p :=
    (candidate_past (s := s.setEntries rest) hpast hg hreceive).trans
      (find?_first hline hunseen fun a ha => by rw [(hahead' a ha).2]; exact Bool.false_ne_true)
  have hexec := exec_entryDue hpower hnow hs hdue
  rw [takeEntry_fix (s := s.setEntries rest) (x := e.passage) hg hcandidate hpast hf hfix hfirm] at hexec
  have honly := passedState_only now g e.passage (p.early g) p (s.setEntries rest)
  obtain ⟨hkept, hpassage, hfaults, hoverfill, hquiet⟩ := passedState_posted (s := s.setEntries rest) (now := now)
    (x := e.passage) (early := p.early g) hf hg
  have hsignallers := passedState_signallers (s := s.setEntries rest) now (x := e.passage) (p.early g) hf hg
  obtain ⟨hregister, hover⟩ := passedState_register (s := s.setEntries rest) (now := now) (x := e.passage)
    (early := p.early g) hline hunseen hahead'
  rw [hover] at hoverfill
  generalize passedState now g e.passage (p.early g) p (s.setEntries rest) = v at *
  have hpassageLone : Posted .passage [.tag p.tag] s v := hpassage
  obtain ⟨u, hu, hframe, hown, hjudged, hukept, hposted⟩ := judgeAll_after (s := s) (v := v)
    (honly .watchUnit (by simp)) (honly .valves (by simp)) hkept fun k hk => by
      have hk' : k ≠ .passage ∧ k ≠ .signallerFault ∧ k ≠ .barrelOverfill := by
        refine ⟨?_, ?_, ?_⟩ <;> (rintro rfl; simp [watchKinds] at hk)
      exact hquiet k hk'.1 hk'.2.1 hk'.2.2
  have hupassage := hposted _ _ (by simp [watchKinds]) hpassageLone
  have huoverfill := hposted _ _ (by simp [watchKinds]) hoverfill
  have hunow : u.now = v.now := congrArg LineClock.lineTime (hframe .clock (by simp))
  have hvnow : v.now = some now := (congrArg LineClock.lineTime (honly .clock (by simp))).trans hnow
  have hufaults := PostedSomehow.then_quiet hfaults
    (hu ▸ (judgeAll_postsOnly v).2 .signallerFault (by simp [watchKinds])) hunow
  have husignallers : ∀ k : Fin 32, u.signallers[k] = ((countPassage e.signaller s).signallers[k]).missedBetween s.profile
      f.chainage (g.chainage * 1000) k := fun k => by
    rw [show u.signallers = v.signallers from hframe .signallers (by simp)]
    exact hsignallers k
  rw [hu] at hexec
  have huruntime : u.runtime e.signaller =
      { s.runtime e.signaller with passages := bump (s.runtime e.signaller).passages, missed := 0 } := by
    have h := husignallers ⟨e.signaller, hn⟩
    rw [← runtime_val u ⟨e.signaller, hn⟩, countPassage_signallers, if_pos rfl, ← runtime_val s ⟨e.signaller, hn⟩,
      missedBetween_self hg] at h
    exact h
  have huothers : ∀ k : Fin 32, k.val ≠ e.signaller →
      u.signallers[k] = s.signallers[k].missedBetween s.profile f.chainage (g.chainage * 1000) k := fun k hk => by
    rw [husignallers, countPassage_signallers, if_neg hk]
  refine ⟨u.setReply none, hexec, ?_, rfl, ?_, ?_, ?_, ?_, ?_, ?_, fun k hk => ?_, ?_, ?_, fun k => hupassage.bit_true k,
    fun hreceive' hfull => ?_, ?_, ⟨hukept, fun k hk => ?_⟩, hown, hjudged⟩
  · refine OnlyChanges.then ?_ (setReply_only _ none) (by simp)
    exact ((setIntake_only s _).mono (by simp)).trans ((honly.mono (by simp)).trans (hframe.mono (by simp)))
  · exact (hframe .intake (by simp)).trans (honly .intake (by simp))
  · exact (hframe .register (by simp)).trans hregister
  · exact congrArg SigRuntime.passages huruntime
  · exact congrArg SigRuntime.missed huruntime
  · show (u.runtime e.signaller).service = _
    rw [huruntime]
  · show u.runtime e.signaller = { s.runtime e.signaller with passages := (u.runtime e.signaller).passages, missed := 0 }
    rw [huruntime]
  · exact (huothers k hk).trans (missedBetween_eq _ _ _ _ _)
  · have hlist : ((List.range 32).filter (faultsAt f.chainage (g.chainage * 1000) s)).map Subject.signaller =
        ((List.finRange 32).filter (fun k : Fin 32 => k.val != e.signaller && s.signallers[k].service == .inService &&
          u.signallers[k].service == .out)).map (fun k : Fin 32 => Subject.signaller k.val) := by
      rw [← List.map_coe_finRange_eq_range, List.filter_map, List.map_map]
      refine congrArg (List.map _) (List.filter_congr fun k _ => ?_)
      rw [Function.comp_apply, Bool.eq_iff_iff, faultsAt_iff]
      simp only [Bool.and_eq_true, bne_iff_ne, beq_iff_eq]
      by_cases hk : k.val = e.signaller
      · rw [missedBetween_self (by rw [hk]; exact hg)]
        cases s.signallers[k].service <;> simp [hk]
      · rw [huothers k hk]
        simp [hk]
    exact hlist ▸ hufaults
  · exact hupassage.one.trans (by rw [hunow, hvnow]; rfl)
  · rw [if_pos ⟨hreceive', decide_eq_true hfull⟩] at huoverfill
    exact huoverfill.one.trans (by rw [hunow, hvnow]; rfl)
  · simp only [decide_eq_true_iff] at huoverfill
    exact huoverfill
  · simp only [List.mem_append, List.mem_cons, List.not_mem_nil, or_false, not_or] at hk
    obtain ⟨⟨h1, h2, h3⟩, h4⟩ := hk
    exact hposted k [] (by simpa [watchKinds] using h4) (hquiet k h1 h2 h3)

/-! ## A passage applied, launch or fix (R112) -/

/-- The kinds that a fix or a launch posts of its own. -/
def passageKinds : List AttnKind := [.passage, .signallerFault, .barrelOverfill]

theorem not_watchKinds {k : AttnKind} (hk : k ∈ watchKinds) :
    k ≠ .passage ∧ k ≠ .signallerFault ∧ k ≠ .barrelOverfill := by
  refine ⟨?_, ?_, ?_⟩ <;> (rintro rfl; simp [watchKinds] at hk)

/-- What a passage given to its candidate posts, with the valves and watches that follow. -/
theorem applyPassage_effects {now : Nat} {g : Signaller} {x : Passage} {early : Bool} {c : Pig} {s : State}
    (hg : s.profile.signaller? x.signaller = some g) (hc : candidate s x.signaller = some c) :
    PostsOnly (passageKinds ++ watchKinds) s (applyPassage now g x early c s) ∧
      (∀ st : Fin 16, (applyPassage now g x early c s).valves[st].own = s.valves[st].own) ∧
      WatchesJudged s (applyPassage now g x early c s) := by
  by_cases hzero : x.signaller = 0
  · have hposts := launchedState_posts now g x c s
    have honly := launchedState_only now g x c s
    rw [applyPassage, if_pos hzero, makeLaunch_eq]
    generalize launchedState now g x c s = v at *
    obtain ⟨u, hu, hframe, hown, hjudged, hkept, hposted⟩ := judgeAll_after (s := s) (v := v)
      (honly .watchUnit (by simp)) (honly .valves (by simp)) hposts.2.1
      fun k hk => hposts.quiet (if_neg (not_watchKinds hk).1)
    rw [hu]
    refine ⟨⟨hkept, fun k hk => ?_⟩, hown, hjudged⟩
    rw [List.mem_append, not_or] at hk
    exact hposted k [] hk.2 (hposts.quiet (if_neg (by rintro rfl; exact hk.1 (by simp [passageKinds]))))
  · obtain ⟨f, hf, -⟩ := unseenAt_fixed (List.find?_some (candidate_past_launch hzero hg hc))
    obtain ⟨hkept, -, -, -, hquiet⟩ := passedState_posted (now := now) (early := early) hf hg
    have honly := passedState_only now g x early c s
    rw [applyPassage_past hzero]
    generalize passedState now g x early c s = v at *
    obtain ⟨u, hu, hframe, hown, hjudged, hukept, hposted⟩ := judgeAll_after (s := s) (v := v)
      (honly .watchUnit (by simp)) (honly .valves (by simp)) hkept
      fun k hk => hquiet k (not_watchKinds hk).1 (not_watchKinds hk).2.1 (not_watchKinds hk).2.2
    rw [hu]
    refine ⟨⟨hukept, fun k hk => ?_⟩, hown, hjudged⟩
    rw [List.mem_append, not_or] at hk
    have hk' : k ≠ .passage ∧ k ≠ .signallerFault ∧ k ≠ .barrelOverfill := by simpa [passageKinds] using hk.1
    exact hposted k [] hk.2 (hquiet k hk'.1 hk'.2.1 hk'.2.2)

/-! ## ASSIGN PASSAGE (R111, R112) -/

theorem mayUse_assignPassage_iff (c : MasterClass) : mayUse c .assignPassage = true ↔ c ∈ [MasterClass.dispatch] := by
  cases c <;> decide

section Assign

variable {x : AssignArgs} {now : Nat} {s : State}

theorem assignPassage_range (h : 31 < x.signaller ∨ x.tag = 0) : assignPassage x now s = refuse .range s := if_pos h

theorem assignPassage_inRange (hn : x.signaller ≤ 31) (htag : 1 ≤ x.tag) : assignPassage x now s =
    match s.fixUnit.unmatched.find? (UnmatchedEntry.named x.signaller x.sequence), s.register.find x.tag with
    | some e, some p => assignEntry now e p s
    | _, _ => refuse .noSuch s :=
  if_neg (by omega)

theorem assignPassage_unheld (hn : x.signaller ≤ 31) (htag : 1 ≤ x.tag)
    (h : (∀ e ∈ s.fixUnit.unmatched, ¬ (e.signaller = x.signaller ∧ e.sequence = x.sequence)) ∨
      s.register.find x.tag = none) : assignPassage x now s = refuse .noSuch s := by
  rw [assignPassage_inRange hn htag]
  rcases h with h | h
  · rw [List.find?_eq_none.mpr fun e he hnamed => h e he (named_iff.mp hnamed)]
  · rw [h]
    cases s.fixUnit.unmatched.find? (UnmatchedEntry.named x.signaller x.sequence) <;> rfl

variable {e : UnmatchedEntry} {p c : Pig} {older newer : List UnmatchedEntry} {g : Signaller}

theorem assignPassage_held (hn : x.signaller ≤ 31) (htag : 1 ≤ x.tag) (hlist : s.fixUnit.unmatched = older ++ e :: newer)
    (he : e.signaller = x.signaller ∧ e.sequence = x.sequence)
    (holder : ∀ o ∈ older, ¬ (o.signaller = x.signaller ∧ o.sequence = x.sequence))
    (hp : s.register.find x.tag = some p) : assignPassage x now s = assignEntry now e p s := by
  have hfind : s.fixUnit.unmatched.find? (UnmatchedEntry.named x.signaller x.sequence) = some e :=
    List.find?_eq_some_iff_append.mpr ⟨named_iff.mpr he, older, newer, hlist, fun o ho => by
      rw [Bool.not_eq_true', Bool.eq_false_iff]
      exact fun h => holder o ho (named_iff.mp h)⟩
  rw [assignPassage_inRange hn htag, hp, hfind]

theorem assignEntry_interlock (h : ∀ c, candidate s e.signaller = some c → c.tag ≠ p.tag) :
    assignEntry now e p s = refuse .interlock s := by
  unfold assignEntry
  cases hg : s.profile.signaller? e.signaller with
  | none => rfl
  | some g =>
    cases hc : candidate s e.signaller with
    | none => rfl
    | some c => exact if_pos (h c hc)

theorem assignEntry_candidate (hg : s.profile.signaller? e.signaller = some g) (hc : candidate s e.signaller = some c)
    (htag : c.tag = p.tag) : assignEntry now e p s =
      if c.fixedAfter e.time then refuse .stale s
      else
        let s' := dropUnmatched e.signaller e.sequence (applyPassage now g e.passage false c s)
        (s', .done (assignedData p.tag s')) := by
  simp only [assignEntry, hg, hc]
  exact if_neg (not_not_intro htag)

end Assign

/-- Settles O40 (R111, R112, R142). -/
theorem passagesAreAssigned : Obligations.PassagesAreAssigned := by
  intro m x s hpower
  dsimp only
  have hexec : ∀ y, exec (.assignPassage m y) s = serve m .assignPassage (whenComplete (whenTime fun now =>
    withParams y fun x => assignPassage x now)) s := fun _ => rfl
  refine ⟨fun hclass => refuses_class rfl mayUse_assignPassage_iff hpower (by simpa using hclass),
    fun hclass hincomplete => refuses_of rfl
      (serve_incomplete _ mayUse_assignPassage_iff ⟨hpower, List.mem_singleton.mpr hclass⟩ hincomplete),
    fun hable hnow => refuses_able (i := .assignPassage m (some x)) rfl (hexec _) mayUse_assignPassage_iff hable
      (whenTime_unset _ hnow), fun now hable hnow => ?_⟩
  have hrefuses : ∀ r, assignPassage x now s = refuse r s → Refuses (.assignPassage m (some x)) r s := fun r hbody =>
    refuses_able (i := .assignPassage m (some x)) rfl (hexec _) mayUse_assignPassage_iff hable
      ((whenTime_set _ hnow).trans hbody)
  refine ⟨refuses_able (i := .assignPassage m none) rfl (hexec _) mayUse_assignPassage_iff hable (whenTime_set _ hnow),
    fun h => hrefuses _ (assignPassage_range h), fun hn htag h => hrefuses _ (assignPassage_unheld hn htag h),
    fun e p older newer hn htag hlist he holder hp => ?_⟩
  have hheld := assignPassage_held (now := now) hn htag hlist he holder hp
  have hptag : p.tag = x.tag := by simpa using List.find?_some hp
  refine ⟨fun h => hrefuses _ (hheld.trans (assignEntry_interlock ?_)), fun c g hc hctag hg => ?_⟩
  · rw [he.1, hptag]
    exact h
  rw [← he.1] at hc hg
  have hentry := assignEntry_candidate (now := now) (p := p) hg hc (hctag.trans hptag.symm)
  refine ⟨fun f hf hstale => hrefuses _ (hheld.trans (hentry.trans (if_pos ?_))), fun hfresh => ?_⟩
  · rw [fixedAfter_eq hf]
    exact decide_eq_true hstale
  have hnotAfter : ¬ c.fixedAfter e.time = true := by
    cases hf : c.lastFix with
    | none => simp [Pig.fixedAfter, hf]
    | some f =>
      rw [fixedAfter_eq hf]
      exact fun h => Nat.not_lt.mpr (hfresh f hf) (of_decide_eq_true h)
  rw [if_neg hnotAfter] at hentry
  obtain ⟨hposts, hown, hjudged⟩ := applyPassage_effects (now := now) (early := false) (x := e.passage) hg hc
  have honly := applyPassage_only now g e.passage false c s
  have hexec' := serve_able (k := .assignPassage) (whenTime fun now => withParams (some x) fun x => assignPassage x now)
    mayUse_assignPassage_iff hable
  rw [whenTime_set _ hnow, withParams_some, hheld, hentry] at hexec'
  rw [show (⟨e.signaller, e.sequence, e.time, e.speed⟩ : Passage) = e.passage from rfl]
  generalize applyPassage now g e.passage false c s = t at *
  have hunit : t.fixUnit = s.fixUnit := honly .fixUnit (by simp)
  have hdrop : dropUnmatched e.signaller e.sequence t = { t with
      fixUnit := { s.fixUnit with unmatched := older ++ newer } } := by
    rw [dropUnmatched_older (by rw [hunit, hlist]) (named_iff.mpr ⟨rfl, rfl⟩) fun o ho h =>
      holder o ho (by rw [← he.1, ← he.2]; exact named_iff.mp h), hunit]
    rfl
  dsimp only at hexec'
  rw [hdrop, hptag] at hexec'
  exact ⟨_, hexec', rfl, honly .intake (by simp), congrArg ProfileStore.running (honly .store (by simp)),
    honly .clock (by simp), hposts, hown, hjudged⟩

end Sys2Proof.Machine


/-! PROOF. What one update does to one pig (R47 to R55). -/

namespace Sys2Proof.Machine

/-! ## The next signaller and its limit (R51) -/

/-- A position at or past the end of the window of a pig's next signaller. -/
def AtNext (s : State) (p : Pig) (n x : Nat) : Prop :=
  ∃ f g, p.lastFix = some f ∧ FirstInService s f.chainage n g ∧ (g.chainage + g.window) * 1000 ≤ x

theorem next_eq (s : State) (p : Pig) : p.next s = (p.lastFix.map (·.chainage)).bind (nextSignaller s) := by
  unfold Pig.next
  cases p.lastFix <;> rfl

theorem atNext_iff {s : State} {p : Pig} {n x : Nat} : AtNext s p n x ↔ ∃ g, p.next s = some (n, g) ∧ g.limit ≤ x := by
  unfold AtNext Pig.next
  cases p.lastFix with
  | none => simp
  | some f => simp [nextSignaller_iff, Signaller.limit]

theorem atLimit_iff {s : State} {p : Pig} {x : Nat} :
    atLimit x ((p.next s).map (fun n => n.2.limit)) = true ↔ ∃ n, AtNext s p n x := by
  simp only [atNext_iff]
  cases p.next s with
  | none => simp [atLimit]
  | some ng =>
    obtain ⟨n, g⟩ := ng
    simp [atLimit]

theorem AtNext.eq {s : State} {p : Pig} {n m x y : Nat} (h : AtNext s p n x) (h' : AtNext s p m y) : n = m := by
  obtain ⟨g, hg, -⟩ := atNext_iff.mp h
  obtain ⟨g', hg', -⟩ := atNext_iff.mp h'
  exact congrArg Prod.fst (Option.some.inj (hg.symm.trans hg'))

/-! ## The step of a pig, before its status (R47 to R52, R55) -/

/-- The limit of a pig's next signaller. -/
def Pig.limit (p : Pig) (s : State) : Option Nat := (p.next s).map (fun n => n.2.limit)

/-- A pig with its new position, fluid distance, AGED flag and estimate time. -/
def Pig.stepped (p : Pig) (s : State) (now : Nat) (ahead : Option Nat) : Pig :=
  { (if flowAged s p.position then p.age else p) with
    position := advanced s ahead (p.limit s) p
      (if p.moves (p.limit s) then travel (pigSpeed (velocityAt s p.position) p.ratio) (p.elapsed now) else 0)
    fluid := p.fluidAfter (velocityAt s p.position) (p.elapsed now)
    estimate := some now }

theorem treatPig_stepped (s : State) (now : Nat) (ahead : Option Nat) (p : Pig) :
    let p3 := (p.stepped s now ahead).enterOverdue now (p.next s)
    let p4 := Pig.enterStalled s p3.1 now
    treatPig s now ahead p =
      ({ p4.1 with speed := p4.1.speedAfter (p.limit s) (pigSpeed (velocityAt s p.position) p.ratio) }, p3.2 ++ p4.2) := rfl

section Stepped

variable (p : Pig) (s : State) (now : Nat) (ahead : Option Nat)

/-- What a step keeps of a record: all but its position, fluid distance, estimate time and AGED flag. -/
theorem stepped_kept : (p.stepped s now ahead).identity = p.identity ∧ (p.stepped s now ahead).status = p.status ∧
    (p.stepped s now ahead).overdueAt = p.overdueAt ∧ (p.stepped s now ahead).flags.struck = p.flags.struck ∧
    (p.stepped s now ahead).flags.early = p.flags.early := by
  unfold Pig.stepped
  split <;> exact ⟨rfl, rfl, rfl, rfl, rfl⟩

theorem stepped_aged : (p.stepped s now ahead).flags.aged = (p.flags.aged || flowAged s p.position) := by
  unfold Pig.stepped
  split
  · next h => rw [h, Bool.or_true]; rfl
  · next h => rw [Bool.eq_false_iff.mpr h, Bool.or_false]

theorem advanced_zero (limit : Option Nat) : advanced s ahead limit p 0 = p.position := by
  have h1 := capAt_le p.position limit
  have h2 := capAt_le (capAt p.position limit) (valveLimit s p.position)
  have h3 := capAt_le (capAt (capAt p.position limit) (valveLimit s p.position)) (ahead.map (· - 1000))
  simp only [advanced, Nat.add_zero]
  omega

theorem moves_iff : p.moves (p.limit s) = true ↔
    p.status = .running ∨ (p.status = .overdue ∧ ∀ n, ¬ AtNext s p n p.position) := by
  have hat : atLimit p.position (p.limit s) = true ↔ ∃ n, AtNext s p n p.position := atLimit_iff
  rw [← not_exists, ← hat]
  simp [Pig.moves]

theorem stepped_moved (h : p.moves (p.limit s) = true) : ∃ m,
    Least (fun x => x = p.position + velocityAt s p.position * p.ratio / 1000 * p.elapsed now / 10 ∨
      Limit s (p.lastFix.map (·.chainage)) p.position ahead x) m ∧
    (p.stepped s now ahead).position = max p.position m := by
  obtain ⟨m, hleast, hm⟩ := advanced_least s ahead (p.lastFix.map (·.chainage)) p
    (travel (pigSpeed (velocityAt s p.position) p.ratio) (p.elapsed now))
  refine ⟨m, hleast, ?_⟩
  rw [← next_eq] at hm
  rw [← hm]
  show advanced s ahead (p.limit s) p _ = _
  rw [if_pos h]
  rfl

theorem stepped_stays (h : ¬ p.moves (p.limit s) = true) : (p.stepped s now ahead).position = p.position := by
  show advanced s ahead (p.limit s) p _ = _
  rw [if_neg h, advanced_zero]

end Stepped

/-! ## The entries into OVERDUE and STALLED (R53, R54) -/

/-- A pig at a position enters OVERDUE at a signaller. -/
def Enters (s : State) (p : Pig) (x n : Nat) : Prop :=
  AtNext s p n x ∧ (p.status = .running ∨ (p.status = .overdue ∧ ∀ o, p.overdueAt = some o → o.signaller ≠ n))

/-- An OVERDUE record at a position has been so past the stall time of its reach. -/
def Stalls (s : State) (now : Nat) (p : Pig) (overdueAt : Option OverdueAt) (x : Nat) : Prop :=
  p.status = .overdue ∧ ∃ o r rc, overdueAt = some o ∧ s.profile.reachAt x = some r ∧ s.profile.reach? r = some rc ∧
    rc.stallTime * 10 < now - o.since

theorem enterOverdue_enters {s : State} {now n : Nat} {p q : Pig} (hstatus : q.status = p.status)
    (hoverdue : q.overdueAt = p.overdueAt) (h : Enters s p q.position n) :
    q.enterOverdue now (p.next s) = ({ q with status := .overdue, overdueAt := some ⟨n, now⟩ }, [.overdue]) := by
  obtain ⟨hat, hstate⟩ := h
  obtain ⟨g, hg, hlimit⟩ := atNext_iff.mp hat
  simp only [Pig.enterOverdue, hg]
  refine if_pos ⟨hlimit, hstate.imp (hstatus.trans ·) fun ⟨h, hother⟩ => ⟨hstatus.trans h, fun hmap => ?_⟩⟩
  obtain ⟨o, ho, hn⟩ := Option.map_eq_some_iff.mp hmap
  exact hother o (hoverdue.symm.trans ho) hn

theorem enterOverdue_stays {s : State} {now : Nat} {p q : Pig} (hstatus : q.status = p.status)
    (hoverdue : q.overdueAt = p.overdueAt) (h : ∀ n, ¬ Enters s p q.position n) :
    q.enterOverdue now (p.next s) = (q, []) := by
  unfold Pig.enterOverdue
  cases hnext : p.next s with
  | none => rfl
  | some ng =>
    obtain ⟨n, g⟩ := ng
    refine if_neg fun ⟨hlimit, hstate⟩ => h n ⟨atNext_iff.mpr ⟨g, hnext, hlimit⟩, ?_⟩
    rw [hstatus, hoverdue] at hstate
    exact hstate.imp_right fun ⟨h, hother⟩ => ⟨h, fun o ho hn => hother (by rw [ho, ← hn]; rfl)⟩

theorem enterStalled_stalls {s : State} {now : Nat} {p q : Pig} (hstatus : q.status = p.status)
    (h : Stalls s now p q.overdueAt q.position) :
    Pig.enterStalled s q now = ({ q with status := .stalled }, [.stalled]) := by
  obtain ⟨hp, o, r, rc, ho, hr, hrc, hlate⟩ := h
  simp only [Pig.enterStalled, ho, hr, Option.bind_some, hrc]
  exact if_pos ⟨hstatus.trans hp, hlate⟩

theorem enterStalled_stays {s : State} {now : Nat} {p q : Pig} (hstatus : q.status = p.status)
    (h : ¬ Stalls s now p q.overdueAt q.position) : Pig.enterStalled s q now = (q, []) := by
  unfold Pig.enterStalled
  cases ho : q.overdueAt with
  | none => rfl
  | some o =>
    cases hreach : (s.profile.reachAt q.position).bind s.profile.reach? with
    | none => rfl
    | some rc =>
      obtain ⟨r, hr, hrc⟩ := Option.bind_eq_some_iff.mp hreach
      exact if_neg fun ⟨hq, hlate⟩ => h ⟨hstatus.symm.trans hq, o, r, rc, ho, hr, hrc, hlate⟩

/-- A pig that has just entered OVERDUE does not stall. -/
theorem enterStalled_entered {s : State} {now n : Nat} (q : Pig) (h : q.overdueAt = some ⟨n, now⟩) :
    Pig.enterStalled s q now = (q, []) := by
  refine enterStalled_stays rfl fun ⟨_, o, r, rc, ho, _, _, hlate⟩ => ?_
  obtain rfl := Option.some.inj (h.symm.trans ho)
  rw [Nat.sub_self] at hlate
  exact Nat.not_lt_zero _ hlate

/-- One pig at one update: it enters OVERDUE, or STALLED, or keeps its status. -/
theorem treatPig_cases (s : State) (now : Nat) (ahead : Option Nat) (p : Pig) :
    let q := p.stepped s now ahead
    (∃ n, Enters s p q.position n ∧ treatPig s now ahead p =
        ({ q with status := .overdue, overdueAt := some ⟨n, now⟩, speed := 0 }, [.overdue])) ∨
      ((∀ n, ¬ Enters s p q.position n) ∧ Stalls s now p p.overdueAt q.position ∧
        treatPig s now ahead p = ({ q with status := .stalled, speed := 0 }, [.stalled])) ∨
      ((∀ n, ¬ Enters s p q.position n) ∧ ¬ Stalls s now p p.overdueAt q.position ∧ treatPig s now ahead p =
        ({ q with speed := q.speedAfter (p.limit s) (pigSpeed (velocityAt s p.position) p.ratio) }, [])) := by
  have htreat := treatPig_stepped s now ahead p
  obtain ⟨-, hstatus, hoverdue, -⟩ := stepped_kept p s now ahead
  dsimp only at htreat ⊢
  generalize p.stepped s now ahead = q at *
  by_cases henters : ∃ n, Enters s p q.position n
  · obtain ⟨n, hn⟩ := henters
    have hlimit : atLimit q.position (p.limit s) = true := atLimit_iff.mpr ⟨n, hn.1⟩
    rw [enterOverdue_enters hstatus hoverdue hn] at htreat
    rw [enterStalled_entered _ rfl] at htreat
    refine .inl ⟨n, hn, htreat.trans ?_⟩
    simp [Pig.speedAfter, hlimit]
  · rw [not_exists] at henters
    rw [enterOverdue_stays hstatus hoverdue henters] at htreat
    refine .inr ?_
    by_cases hstalls : Stalls s now p p.overdueAt q.position
    · rw [enterStalled_stalls (q := q) hstatus (by rw [hoverdue]; exact hstalls)] at htreat
      refine .inl ⟨henters, hstalls, htreat.trans ?_⟩
      simp [Pig.speedAfter]
    · rw [enterStalled_stays (q := q) hstatus (by rw [hoverdue]; exact hstalls)] at htreat
      exact .inr ⟨henters, hstalls, htreat⟩

theorem flowAged_iff {s : State} {x : Nat} :
    flowAged s x = true ↔ ∃ r, s.profile.reachAt x = some r ∧ (s.flowAt r).state ≠ .fresh := by
  unfold flowAged
  cases s.profile.reachAt x <;> simp

/-- What an update keeps of a record in every case (R46, R47, R50 to R52, R55). -/
theorem treatPig_keeps (s : State) (now : Nat) (ahead : Option Nat) (p : Pig) :
    let q := (treatPig s now ahead p).1
    q.position = (p.stepped s now ahead).position ∧ q.fluid = p.fluidAfter (velocityAt s p.position) (p.elapsed now) ∧
      (q.flags.aged = true ↔ p.flags.aged = true ∨ ∃ r, s.profile.reachAt p.position = some r ∧ (s.flowAt r).state ≠ .fresh) ∧
      q.flags.struck = p.flags.struck ∧ q.flags.early = p.flags.early ∧ q.identity = p.identity ∧ q.estimate = some now := by
  have hkept := stepped_kept p s now ahead
  have haged := stepped_aged p s now ahead
  have hfluid : (p.stepped s now ahead).fluid = p.fluidAfter (velocityAt s p.position) (p.elapsed now) := rfl
  have hestimate : (p.stepped s now ahead).estimate = some now := rfl
  have hcases := treatPig_cases s now ahead p
  dsimp only at hcases ⊢
  generalize p.stepped s now ahead = q at *
  obtain ⟨hidentity, -, -, hstruck, hearly⟩ := hkept
  have haged' : q.flags.aged = true ↔
      p.flags.aged = true ∨ ∃ r, s.profile.reachAt p.position = some r ∧ (s.flowAt r).state ≠ .fresh := by
    rw [haged, Bool.or_eq_true, flowAged_iff]
  rcases hcases with ⟨n, -, h⟩ | ⟨-, -, h⟩ | ⟨-, -, h⟩ <;> rw [h] <;>
    exact ⟨rfl, hfluid, haged', hstruck, hearly, hidentity, hestimate⟩

/-- The status, the overdue entry, the postings and the speed of a pig after an update. -/
theorem treatPig_result (s : State) (now : Nat) (ahead : Option Nat) (p : Pig) :
    let q := (treatPig s now ahead p).1
    let kinds := (treatPig s now ahead p).2
    (∀ n, Enters s p q.position n → q.overdueAt = some ⟨n, now⟩ ∧ q.status = .overdue ∧ kinds = [.overdue] ∧
      ¬ Stalls s now p q.overdueAt q.position) ∧
    ((∀ n, ¬ Enters s p q.position n) → q.overdueAt = p.overdueAt ∧
      (Stalls s now p q.overdueAt q.position → q.status = .stalled ∧ kinds = [.stalled]) ∧
      (¬ Stalls s now p q.overdueAt q.position → q.status = p.status ∧ kinds = [])) ∧
    q.speed = q.speedAfter (p.limit s) (pigSpeed (velocityAt s p.position) p.ratio) := by
  obtain ⟨-, hstatus, hoverdue, -, -⟩ := stepped_kept p s now ahead
  have hcases := treatPig_cases s now ahead p
  dsimp only at hcases ⊢
  generalize p.stepped s now ahead = q at *
  rcases hcases with ⟨n, hn, h⟩ | ⟨hno, hstalls, h⟩ | ⟨hno, hstays, h⟩ <;> rw [h] <;> dsimp only
  · refine ⟨fun m hm => ⟨by rw [hm.1.eq hn.1], rfl, rfl, fun ⟨_, o, _, _, ho, _, _, hlate⟩ => ?_⟩,
      fun hno => absurd hn (hno n), ?_⟩
    · obtain rfl := Option.some.inj ho
      rw [Nat.sub_self] at hlate
      exact Nat.not_lt_zero _ hlate
    · have hlimit : atLimit q.position (p.limit s) = true := atLimit_iff.mpr ⟨n, hn.1⟩
      simp [Pig.speedAfter, hlimit]
  · refine ⟨fun m hm => absurd hm (hno m), fun _ => ⟨hoverdue, fun _ => ⟨rfl, rfl⟩, fun hstays => ?_⟩, ?_⟩
    · rw [hoverdue] at hstays
      exact absurd hstalls hstays
    · simp [Pig.speedAfter]
  · refine ⟨fun m hm => absurd hm (hno m), fun _ => ⟨hoverdue, fun hstalls => ?_, fun _ => ⟨hstatus, rfl⟩⟩, rfl⟩
    rw [hoverdue] at hstalls
    exact absurd hstalls hstays

/-- Settles O23 (R47 to R55). -/
theorem onePigAtOneUpdate : Obligations.OnePigAtOneUpdate := by
  intro s now ahead p hline
  dsimp only
  obtain ⟨hposition, hfluid, haged, hstruck, hearly, hidentity, hestimate⟩ := treatPig_keeps s now ahead p
  obtain ⟨henter, hno, hspeed⟩ := treatPig_result s now ahead p
  have hmoved := stepped_moved p s now ahead
  have hstays := stepped_stays p s now ahead
  have hat : atLimit (treatPig s now ahead p).1.position (p.limit s) = true ↔
    ∃ n, AtNext s p n (treatPig s now ahead p).1.position := atLimit_iff
  rw [moves_iff, ← hposition] at hmoved hstays
  generalize treatPig s now ahead p = r at *
  obtain ⟨q, kinds⟩ := r
  dsimp only at *
  have hflows : p.status = .running ∨ p.status = .overdue →
      q.fluid = min (p.fluid + velocityAt s p.position * p.elapsed now / 10) 999999999 := fun h =>
    hfluid.trans (if_pos h)
  have hslow : q.status = .overdue → (∀ n, ¬ AtNext s p n q.position) →
      q.speed = velocityAt s p.position * p.ratio / 1000 := fun hstatus hlow =>
    hspeed.trans (if_neg (by simp [hstatus, hat, hlow]))
  have hrest : p.status = .unverified ∨ p.status = .stalled →
      q.fluid = p.fluid ∧ q.status = p.status ∧ q.speed = 0 := fun h => by
    have hout : p.status ≠ .running ∧ p.status ≠ .overdue := by rcases h with h | h <;> simp [h]
    obtain ⟨-, -, hkeep⟩ := hno fun n hn => hn.2.elim hout.1 fun ho => hout.2 ho.1
    obtain ⟨hstatus, -⟩ := hkeep fun hs => hout.2 hs.1
    refine ⟨hfluid.trans (if_neg (by simp [hout])), hstatus, hspeed.trans (if_pos ?_)⟩
    rw [hstatus]
    exact h.elim (fun h => .inr (.inl h)) .inl
  have hlast : (p.status = .running → q.status = .running ∨ q.status = .overdue) ∧
      (p.status = .running → (q.status = .overdue ↔ ∃ n, Enters s p q.position n)) ∧
      (p.status = .overdue → q.status = .overdue ∨ q.status = .stalled) ∧
      (p.status = .overdue → (q.status = .stalled ↔ Stalls s now p q.overdueAt q.position)) ∧
      kinds.Nodup ∧ (∀ k ∈ kinds, k = .overdue ∨ k = .stalled) ∧
      (AttnKind.overdue ∈ kinds ↔ ∃ n, Enters s p q.position n) ∧
      (AttnKind.stalled ∈ kinds ↔ Stalls s now p q.overdueAt q.position) := by
    by_cases hE : ∃ n, Enters s p q.position n
    · obtain ⟨n, hn⟩ := id hE
      obtain ⟨-, hstatus, rfl, hS⟩ := henter n hn
      simp [hstatus, hE, hS]
    · obtain ⟨-, hstalls, hkeep⟩ := hno (not_exists.mp hE)
      by_cases hS : Stalls s now p q.overdueAt q.position
      · obtain ⟨hstatus, rfl⟩ := hstalls hS
        simp [hstatus, hE, hS, hS.1]
      · obtain ⟨hstatus, rfl⟩ := hkeep hS
        rw [hstatus]
        refine ⟨.inl, fun h => by simp [h, hE], .inl, fun h => by simp [h, hS], by simp [hE, hS]⟩
  obtain ⟨h1, h2, h3, h4, h5, h6, h7, h8⟩ := hlast
  exact ⟨hmoved, hstays, hflows, hrest, fun n hn => (henter n hn).1, fun h => (hno h).1, h1, h2, h3, h4, h5, h6, h7, h8,
    fun h => hspeed.trans (if_neg (by simp [h])), fun h => hspeed.trans (if_pos (.inl h)),
    fun n h hn => hspeed.trans (if_pos (.inr (.inr ⟨h, hat.mpr ⟨n, hn⟩⟩))), hslow, haged, hstruck, hearly, hidentity,
    hestimate⟩

end Sys2Proof.Machine


/-! PROOF. One update of the position tracker (R42, R45, R46). -/

namespace Sys2Proof.Machine

/-! ## The flow table at an update (R42) -/

/-- The entry of a reach after an update. -/
def judgedFlow (now : Nat) (s : State) (r : Fin 15) : FlowEntry :=
  match s.profile.reach? r with
  | none => s.tracker.flows[r]
  | some rc => { s.tracker.flows[r] with state := s.tracker.flows[r].judged now rc.flowTimeout }

/-- A defined reach leaves FRESH at an update. -/
def leavesFresh (now : Nat) (s : State) (r : Fin 15) : Bool :=
  (s.profile.reach? r).isSome && s.tracker.flows[r].state == .fresh && (judgedFlow now s r).state != .fresh

theorem setFlow_flows (s : State) (r k : Fin 15) (e : FlowEntry) :
    (s.setFlow r e).tracker.flows[k] = if k = r then e else s.tracker.flows[k] := by
  simp only [State.setFlow, State.setTracker, Fin.getElem_fin, Vector.getElem_set, Fin.ext_iff, eq_comm]

/-- The judgement of one reach. -/
theorem judgeFlow_leaves (now : Nat) (s : State) (r : Fin 15) :
    (∀ k : Fin 15, (judgeFlow now s r).tracker.flows[k] = if k = r then judgedFlow now s r else s.tracker.flows[k]) ∧
      (judgeFlow now s r).tracker.running = s.tracker.running ∧
      Posts (fun j => if j = .flowStale then (if leavesFresh now s r then [.station r.val] else []) else []) s
        (judgeFlow now s r) := by
  cases hreach : s.profile.reach? r with
  | none =>
    simp only [judgeFlow, judgedFlow, leavesFresh, hreach]
    refine ⟨fun k => ?_, trivial, (Posts.refl s).congr fun j => by simp⟩
    split
    · next hk => rw [hk]
    · rfl
  | some rc =>
    have hjudged : judgedFlow now s r =
        { s.tracker.flows[r] with state := s.tracker.flows[r].judged now rc.flowTimeout } := by
      simp only [judgedFlow, hreach]
    by_cases hstale : s.tracker.flows[r].state = .fresh ∧ s.tracker.flows[r].judged now rc.flowTimeout ≠ .fresh
    · have hleaves : leavesFresh now s r = true := by simpa [leavesFresh, hreach, hjudged] using hstale
      have hflow : judgeFlow now s r = post .flowStale (some (.station r)) (s.setFlow r (judgedFlow now s r)) := by
        rw [hjudged]
        simp only [judgeFlow, hreach]
        exact if_pos hstale
      rw [hflow]
      refine ⟨fun k => setFlow_flows s r k _, rfl, ?_⟩
      refine (Posts.of_port_then rfl rfl (post_posts .flowStale (.station r) _)).congr fun j => ?_
      simp [once, hleaves]
    · have hstays : leavesFresh now s r = false := by
        rw [Bool.eq_false_iff]
        simpa [leavesFresh, hreach, hjudged] using hstale
      have hflow : judgeFlow now s r = s.setFlow r (judgedFlow now s r) := by
        rw [hjudged]
        simp only [judgeFlow, hreach]
        exact if_neg hstale
      rw [hflow]
      exact ⟨fun k => setFlow_flows s r k _, rfl, (Posts.of_port rfl rfl).congr fun j => by simp [hstays]⟩

theorem judgedFlow_congr {now : Nat} {s t : State} {r : Fin 15} (hprofile : t.profile = s.profile)
    (hflow : t.tracker.flows[r] = s.tracker.flows[r]) :
    judgedFlow now t r = judgedFlow now s r ∧ leavesFresh now t r = leavesFresh now s r := by
  have hjudged : judgedFlow now t r = judgedFlow now s r := by simp only [judgedFlow, hprofile, hflow]
  exact ⟨hjudged, by simp only [leavesFresh, hprofile, hflow, hjudged]⟩

/-- The judgement of several reaches, each from where it stood. -/
theorem foldl_judgeFlow (now : Nat) {l : List (Fin 15)} (hl : l.Nodup) (s : State) :
    let t := l.foldl (judgeFlow now) s
    (∀ k : Fin 15, t.tracker.flows[k] = if k ∈ l then judgedFlow now s k else s.tracker.flows[k]) ∧
      t.tracker.running = s.tracker.running ∧
      Posts (fun j => if j = .flowStale then (l.filter (leavesFresh now s)).map (fun r => .station r.val) else []) s t := by
  induction l generalizing s with
  | nil => exact ⟨fun k => rfl, rfl, (Posts.refl s).congr fun j => ite_self _⟩
  | cons r l ih =>
    obtain ⟨hr, hl⟩ := List.nodup_cons.mp hl
    obtain ⟨hflows, hrunning, hposts⟩ := judgeFlow_leaves now s r
    obtain ⟨hflows', hrunning', hposts'⟩ := ih hl (judgeFlow now s r)
    have hprofile : (judgeFlow now s r).profile = s.profile :=
      congrArg ProfileStore.running (judgeFlow_only now s r .store (by simp))
    have hsame : ∀ k : Fin 15, k ≠ r → judgedFlow now (judgeFlow now s r) k = judgedFlow now s k ∧
        leavesFresh now (judgeFlow now s r) k = leavesFresh now s k := fun k hk =>
      judgedFlow_congr hprofile ((hflows k).trans (if_neg hk))
    refine ⟨fun k => (hflows' k).trans ?_, hrunning'.trans hrunning, (hposts.trans hposts').congr fun j => ?_⟩
    · by_cases hk : k = r
      · subst hk
        rw [if_neg hr, hflows, if_pos rfl, if_pos List.mem_cons_self]
      · rw [(hsame k hk).1, hflows, if_neg hk]
        simp [hk]
    · have hfilter : l.filter (leavesFresh now (judgeFlow now s r)) = l.filter (leavesFresh now s) :=
        List.filter_congr fun k hk => (hsame k fun h => hr (h ▸ hk)).2
      rw [hfilter, List.filter_cons]
      split
      · split <;> simp
      · rfl

theorem judgeFlows_leaves (now : Nat) (s : State) :
    (∀ k : Fin 15, (judgeFlows now s).tracker.flows[k] = judgedFlow now s k) ∧
      (judgeFlows now s).tracker.running = s.tracker.running ∧
      Posts (fun j => if j = .flowStale then
        ((List.finRange 15).filter (leavesFresh now s)).map (fun r => .station r.val) else []) s (judgeFlows now s) := by
  obtain ⟨hflows, hrunning, hposts⟩ := foldl_judgeFlow now (List.nodup_finRange 15) s
  simp only [List.mem_finRange, if_true] at hflows
  unfold judgeFlows
  generalize (List.finRange 15).foldl (judgeFlow now) s = t at *
  exact ⟨hflows, hrunning, hposts⟩

/-! ## The pigs at an update (R46 to R55) -/

theorem postAll_posts (l : List AttnKind) (x : Subject) (s : State) :
    Posts (fun j => (l.filter (· = j)).map fun _ => x) s (postAll l x s) := by
  induction l generalizing s with
  | nil => exact Posts.refl s
  | cons k l ih =>
    refine ((post_posts k x s).trans (ih (post k (some x) s))).congr fun j => ?_
    by_cases hk : k = j
    · subst hk
      simp [once]
    · simp [once, hk, Ne.symm hk]

theorem foldl_postAll_posts (l : List (Pig × List AttnKind)) (s : State) :
    Posts (fun j => l.flatMap fun r => (r.2.filter (· = j)).map fun _ => .tag r.1.tag) s
      (l.foldl (fun s r => postAll r.2 (.tag r.1.tag) s) s) := by
  induction l generalizing s with
  | nil => exact Posts.refl s
  | cons r l ih => exact (postAll_posts r.2 (.tag r.1.tag) s).trans (ih _)

/-- What holds of each pig at its update holds of the list, pig by pig. -/
theorem treatPigs_forall {R : Pig → Pig → Prop} {s : State} {now : Nat}
    (h : ∀ ahead p, R p (treatPig s now ahead p).1) (ahead : Option Nat) (l : List Pig) :
    List.Forall₂ R l ((treatPigs s now ahead l).map (·.1)) := by
  induction l generalizing ahead with
  | nil => exact .nil
  | cons p l ih => exact .cons (h ahead p) (ih _)

/-- The pigs that post a kind, by what an update does to their records. -/
theorem treatPigs_posted {s : State} {now : Nat} {k : AttnKind} {c : Pig × Pig → Bool} {l : List Pig}
    (h : ∀ p ∈ l, ∀ ahead, ((treatPig s now ahead p).2.filter (· = k)) =
      if c (p, (treatPig s now ahead p).1) then [k] else []) (ahead : Option Nat) :
    ((treatPigs s now ahead l).flatMap fun r => (r.2.filter (· = k)).map fun _ => Subject.tag r.1.tag) =
      ((l.zip ((treatPigs s now ahead l).map (·.1))).filter c).map fun x => Subject.tag x.2.tag := by
  induction l generalizing ahead with
  | nil => rfl
  | cons p l ih =>
    obtain ⟨hp, hl⟩ := List.forall_mem_cons.mp h
    rw [treatPigs, List.flatMap_cons, List.map_cons, List.zip_cons_cons, List.filter_cons, ih hl, hp]
    split <;> simp

theorem treatPig_posts_stalled (s : State) (now : Nat) (ahead : Option Nat) (p : Pig) :
    ((treatPig s now ahead p).2.filter (· = .stalled)) =
      if (treatPig s now ahead p).1.status == .stalled && p.status != .stalled then [.stalled] else [] := by
  obtain ⟨henter, hno, -⟩ := treatPig_result s now ahead p
  generalize treatPig s now ahead p = r at *
  obtain ⟨q, kinds⟩ := r
  dsimp only at *
  by_cases hE : ∃ n, Enters s p q.position n
  · obtain ⟨n, hn⟩ := hE
    obtain ⟨-, hstatus, rfl, -⟩ := henter n hn
    simp [hstatus]
  · obtain ⟨-, hstalls, hkeep⟩ := hno (not_exists.mp hE)
    by_cases hS : Stalls s now p q.overdueAt q.position
    · obtain ⟨hstatus, rfl⟩ := hstalls hS
      simp [hstatus, hS.1]
    · obtain ⟨hstatus, rfl⟩ := hkeep hS
      simp [hstatus]

theorem treatPig_posts_overdue {s : State} {now : Nat} {p : Pig} (hfit : p.fieldsFit) (ahead : Option Nat) :
    ((treatPig s now ahead p).2.filter (· = .overdue)) =
      if (treatPig s now ahead p).1.overdueAt != p.overdueAt then [.overdue] else [] := by
  obtain ⟨henter, hno, -⟩ := treatPig_result s now ahead p
  generalize treatPig s now ahead p = r at *
  obtain ⟨q, kinds⟩ := r
  dsimp only at *
  by_cases hE : ∃ n, Enters s p q.position n
  · obtain ⟨n, hn⟩ := hE
    obtain ⟨hoverdue, -, rfl, -⟩ := henter n hn
    have hnew : q.overdueAt ≠ p.overdueAt := by
      rw [hoverdue]
      intro h
      rcases hn.2 with hrunning | ⟨-, hother⟩
      · have hnone := hfit.2.1
        rw [← h, hrunning] at hnone
        simp at hnone
      · exact hother ⟨n, now⟩ h.symm rfl
    simp [hnew]
  · obtain ⟨hoverdue, hstalls, hkeep⟩ := hno (not_exists.mp hE)
    rw [hoverdue]
    by_cases hS : Stalls s now p q.overdueAt q.position
    · obtain ⟨-, rfl⟩ := hstalls hS
      simp
    · obtain ⟨-, rfl⟩ := hkeep hS
      simp

theorem treatPig_posts_other {s : State} {now : Nat} {p : Pig} {k : AttnKind} (hk : k ≠ .overdue) (hk' : k ≠ .stalled)
    (ahead : Option Nat) : ((treatPig s now ahead p).2.filter (· = k)) = [] := by
  rcases treatPig_cases s now ahead p with ⟨n, -, h⟩ | ⟨-, -, h⟩ | ⟨-, -, h⟩ <;> rw [h] <;>
    simp [Ne.symm hk, Ne.symm hk']

theorem treatPigs_posted_other {s : State} {now : Nat} {k : AttnKind} (hk : k ≠ .overdue) (hk' : k ≠ .stalled)
    (ahead : Option Nat) (l : List Pig) :
    ((treatPigs s now ahead l).flatMap fun r => (r.2.filter (· = k)).map fun _ => Subject.tag r.1.tag) = [] := by
  rw [treatPigs_posted (c := fun _ => false) fun p _ ahead => treatPig_posts_other hk hk' ahead]
  simp

/-- What an update posts of the pigs. -/
theorem advancePigs_posts (now : Nat) (s : State) :
    Posts (fun j => (treatPigs s now none s.register.inLine).flatMap fun r =>
      (r.2.filter (· = j)).map fun _ => .tag r.1.tag) s (advancePigs now s) := by
  unfold advancePigs
  exact Posts.of_port_then rfl rfl (foldl_postAll_posts _ _)

theorem advancePigs_register (now : Nat) (s : State) : (advancePigs now s).register =
    { s.register with inLine := (treatPigs s now none s.register.inLine).map (·.1) } := by
  unfold advancePigs
  exact OnlyChanges.foldl (l := [.port]) _ (fun s r => postAll_only _ _ _) _ _ .register (by simp)

/-! ## The update (R45, R46) -/

/-- The part with its reaches and pigs treated and its timer set, before the watches are judged. -/
def updatedState (now : Nat) (s : State) : State :=
  let s1 := advancePigs now (judgeFlows now s)
  s1.setTracker { s1.tracker with lastUpdate := some now, deadline := nextDeadline s1.profile now }

theorem trackerUpdate_eq (now : Nat) (s : State) : trackerUpdate now s = judgeAll (updatedState now s) := rfl

/-- What an update leaves before the watches are judged. -/
theorem updatedState_leaves (now : Nat) (s : State) :
    let t := updatedState now s
    let treated := treatPigs (judgeFlows now s) now none s.register.inLine
    OnlyChanges [.register, .tracker, .port] s t ∧ t.tracker.running = s.tracker.running ∧
      t.tracker.lastUpdate = some now ∧ t.tracker.deadline = nextDeadline s.profile now ∧
      (∀ r : Fin 15, t.tracker.flows[r] = judgedFlow now s r) ∧
      t.register = { s.register with inLine := treated.map (·.1) } ∧
      Posts (fun j => (if j = .flowStale then
        ((List.finRange 15).filter (leavesFresh now s)).map (fun r => .station r.val) else []) ++
        treated.flatMap fun r => (r.2.filter (· = j)).map fun _ => .tag r.1.tag) s t := by
  dsimp only
  obtain ⟨hflows, hrunning, hposts⟩ := judgeFlows_leaves now s
  have hfirst : OnlyChanges [.tracker, .port] s (judgeFlows now s) := OnlyChanges.foldl _ (judgeFlow_only now) _ s
  have honly := advancePigs_only now (judgeFlows now s)
  have hpigs := advancePigs_posts now (judgeFlows now s)
  have hregister := advancePigs_register now (judgeFlows now s)
  have hbefore : (judgeFlows now s).register = s.register := hfirst .register (by simp)
  unfold updatedState
  dsimp only
  generalize judgeFlows now s = a at *
  rw [hbefore] at hregister hpigs
  generalize advancePigs now a = b at *
  have htracker : b.tracker = a.tracker := honly .tracker (by simp)
  have hall : OnlyChanges [.register, .tracker, .port] s b := (hfirst.mono (by simp)).trans (honly.mono (by simp))
  have hprofile : b.profile = s.profile := congrArg ProfileStore.running (hall .store (by simp))
  refine ⟨hall.then (setTracker_only _ _) (by simp), (congrArg Tracker.running htracker).trans hrunning, rfl, ?_, fun r => ?_,
    hregister, (hposts.trans hpigs).then_port rfl rfl⟩
  · rw [← hprofile]
    rfl
  · rw [← hflows r, ← htracker]
    rfl

/-- Settles O22 (R42, R45, R46, R52 to R55, R142). -/
theorem updatesMovePigsForward : Obligations.UpdatesMovePigsForward := by
  intro s now d hpower hnow hrunning hdeadline hdue
  have hexec : exec .trackerUpdate s = .next ((trackerUpdate now s).setReply none) := by
    have hupdate : updateDue now s = true := by
      rw [updateDue, hrunning, hdeadline, reached_some hdue]
      rfl
    refine (happen_timed hpower hnow).trans ?_
    rw [if_pos hupdate]
  rw [trackerUpdate_eq] at hexec
  obtain ⟨honly, hrun, hlast, hnext, hflows, hregister, hposts⟩ := updatedState_leaves now s
  have hprofile : (judgeFlows now s).profile = s.profile := congrArg ProfileStore.running
    (OnlyChanges.foldl (l := [.tracker, .port]) _ (judgeFlow_only now) _ s .store (by simp))
  generalize updatedState now s = v at *
  obtain ⟨u, hu, hframe, hown, hjudged, hkept, hposted⟩ := judgeAll_after (s := s) (v := v)
    (honly .watchUnit (by simp)) (honly .valves (by simp)) hposts.2.1 (fun k hk => hposts.quiet (by
      have hk' : k ≠ .flowStale ∧ k ≠ .overdue ∧ k ≠ .stalled := by
        refine ⟨?_, ?_, ?_⟩ <;> (rintro rfl; simp [watchKinds] at hk)
      rw [if_neg hk'.1, treatPigs_posted_other hk'.2.1 hk'.2.2]
      rfl))
  rw [hu] at hexec
  have htracker : u.tracker = v.tracker := hframe .tracker (by simp)
  have huregister : u.register = _ := (hframe .register (by simp)).trans hregister
  have hline : u.register.inLine = (treatPigs (judgeFlows now s) now none s.register.inLine).map (·.1) := by
    rw [huregister]
  have hflow : ∀ r : Fin 15, u.tracker.flows[r] = judgedFlow now s r := fun r => by rw [htracker, hflows]
  refine ⟨u.setReply none, hexec, ?_, rfl, ?_, ?_, ?_, ?_, ?_, hline, ?_, fun hfields => ?_, ?_, ⟨hkept, fun k hk => ?_⟩, hown,
    hjudged, fun hseparated => ?_, fun r hr => ?_, fun r rc hr => ?_⟩
  · refine OnlyChanges.then ?_ (setReply_only _ none) (by simp)
    exact (honly.mono (by simp)).trans (hframe.mono (by simp))
  · exact (congrArg Tracker.running htracker).trans (hrun.trans hrunning)
  · exact (congrArg Tracker.lastUpdate htracker).trans hlast
  · exact (congrArg Tracker.deadline htracker).trans hnext
  · show u.register = { s.register with inLine := u.register.inLine }
    rw [huregister]
  · show List.Forall₂ _ s.register.inLine u.register.inLine
    rw [hline]
    refine treatPigs_forall (fun ahead p => ?_) none _
    obtain ⟨-, -, haged, hstruck, hearly, hidentity, hestimate⟩ := treatPig_keeps (judgeFlows now s) now ahead p
    obtain ⟨hforward, -, hend⟩ := treatPig_bounds (judgeFlows now s) now ahead p
    rw [hprofile] at hend
    exact ⟨hidentity, hforward, fun h => hend.trans (max_le h le_rfl), hestimate, fun h => haged.mpr (.inl h), hstruck, hearly⟩
  · have h := hposted _ _ (by simp [watchKinds]) (hposts.2.2 .flowStale)
    beta_reduce at h
    rw [if_pos rfl, treatPigs_posted_other (by simp) (by simp), List.append_nil] at h
    have hlist : (List.finRange 15).filter (leavesFresh now s) = (List.finRange 15).filter (fun r : Fin 15 =>
        (s.profile.reach? r).isSome && s.tracker.flows[r].state == .fresh && u.tracker.flows[r].state != .fresh) := by
      refine List.filter_congr fun r _ => ?_
      rw [hflow r]
      rfl
    rw [hlist] at h
    exact h
  · have h := hposted _ _ (by simp [watchKinds]) (hposts.2.2 .overdue)
    beta_reduce at h
    rw [if_neg (by simp), List.nil_append, treatPigs_posted (c := fun x => x.2.overdueAt != x.1.overdueAt)
      fun p hp ahead => treatPig_posts_overdue (hfields p (mem_view.mpr (.inr (.inl hp)))) ahead, ← hline] at h
    exact h
  · have h := hposted _ _ (by simp [watchKinds]) (hposts.2.2 .stalled)
    beta_reduce at h
    rw [if_neg (by simp), List.nil_append, treatPigs_posted
      (c := fun x => x.2.status == .stalled && x.1.status != .stalled)
      fun p _ ahead => treatPig_posts_stalled (judgeFlows now s) now ahead p, ← hline] at h
    exact h
  · simp only [List.mem_append, List.mem_cons, List.not_mem_nil, or_false, not_or] at hk
    obtain ⟨⟨hstale, hoverdue, hstalled⟩, hwatch⟩ := hk
    refine hposted k [] (by simpa [watchKinds] using hwatch) (hposts.quiet ?_)
    rw [if_neg hstale, treatPigs_posted_other hoverdue hstalled]
    rfl
  · show Separated u.register.inLine
    rw [separated_iff] at hseparated ⊢
    rw [hline]
    exact (treatPigs_spaced hseparated (by simp)).1
  · exact (hflow r).trans (by rw [judgedFlow, hr])
  · have hjudgedFlow : u.tracker.flows[r] =
        { s.tracker.flows[r] with state := s.tracker.flows[r].judged now rc.flowTimeout } := by
      rw [hflow r, judgedFlow, hr]
    have hstate : (u.setReply none).tracker.flows[r].state = s.tracker.flows[r].judged now rc.flowTimeout := by
      show u.tracker.flows[r].state = _
      rw [hjudgedFlow]
    refine ⟨?_, fun hnone => ?_, fun rt hrt => ?_⟩
    · rw [hstate]
      exact hjudgedFlow
    · rw [hstate, FlowEntry.judged, hnone]
    · rw [hstate, FlowEntry.judged, hrt, tenths]
      simp only [Nat.mul_comm 3]

end Sys2Proof.Machine


/-! PROOF. The channels of the input unit: CONTACT, PULSE and PAIR (R79 to R87). -/

namespace Sys2Proof.Machine

/-! ## Levels and timings (R79) -/

section Levels

variable {s : State} {c : Fin 8} {ms now : Nat}

/-- The millisecond timer after a reading. -/
def InputUnit.ticked (u : InputUnit) (ms : Nat) : InputUnit := { u with msTimer := max u.msTimer ms }

theorem tickTo_eq (ms : Nat) (s : State) : tickTo ms s = s.setInputUnit (s.inputUnit.ticked ms) := rfl

/-- The levels after a channel's own input has taken one, set by no edge of a pair. -/
def InputUnit.levelled (u : InputUnit) (c : Fin 8) (level : Bool) (ms : Nat) : InputUnit :=
  { u with
    inputs := u.inputs.set c level
    pairEdge := u.pairEdge.set c false
    msTimer := max u.msTimer ms }

theorem setLevel_val (c : Fin 8) (level : Bool) (ms : Nat) (s : State) :
    setLevel c.val level false ms s = s.setInputUnit (s.inputUnit.levelled c level ms) := by
  have hset : ∀ (v : Vector Bool 8) (b : Bool), v.setIfInBounds c.val b = v.set c b := fun v b => by
    ext i hi
    simp [Vector.getElem_setIfInBounds, Vector.getElem_set]
  simp only [setLevel, hset, InputUnit.levelled]

theorem mayRise_val (s : State) (c : Fin 8) : s.mayRise c.val = (!s.inputUnit.inputs[c] || s.inputUnit.pairEdge[c]) := by
  simp [State.mayRise, input_val]

theorem mayRise_of_rises {n : Nat} (h : s.inputUnit.inputs[n]? = some false ∨ s.inputUnit.pairEdge[n]? = some true) :
    s.mayRise n = true := by
  rcases h with h | h <;> simp [State.mayRise, State.input, h]

theorem mayRise_of_active {n : Nat} (h : s.inputUnit.inputs[n]? = some true) (hp : s.inputUnit.pairEdge[n]? = some false) :
    s.mayRise n = false := by
  simp [State.mayRise, State.input, h, hp]

theorem leadingEdge_armed {mode : ChanMode} (hnow : s.now = some now) (hmode : (s.chanCfg c).mode = mode)
    (harmed : (s.channel c).state = .armed) : leadingEdge mode c ms s = beginMeasuring c ms now s := by
  simp only [leadingEdge, hnow]
  exact if_pos ⟨hmode, harmed⟩

theorem leadingEdge_other {mode : ChanMode} (hother : (s.channel c).state ≠ .armed) : leadingEdge mode c ms s = s := by
  unfold leadingEdge
  split
  · rfl
  · exact if_neg fun h => hother h.2

theorem measuring_eq {mode : ChanMode} {f : Flight} (hnow : s.now = some now) (hmode : (s.chanCfg c).mode = mode)
    (hstate : (s.channel c).state = .measuring) (hf : (s.channel c).flight = some f) :
    measuring mode c s = some (f, now) := by
  simp only [measuring, hnow, hf]
  exact if_pos ⟨hmode, hstate⟩

theorem measuring_other {mode : ChanMode} (h : (s.channel c).state ≠ .measuring) : measuring mode c s = none := by
  unfold measuring
  split
  · exact if_neg fun h' => h h'.2
  · rfl

/-- An event of the part with power. -/
theorem happen_powered {f : State → State} (hpower : s.powered = true) : happen f s = .next ((f s).setReply none) := by
  simp only [happen, hpower, if_true]

end Levels

/-! ## CONTACT (R79 to R81) -/

theorem mayUse_resetFlag_iff (c : MasterClass) :
    mayUse c .resetFlag = true ↔ c ∈ [MasterClass.trap, .link, .dispatch] := by
  cases c <;> decide

theorem flagData_eq (c : Fin 8) (s : State) : flagData c s = .flagState s.inputUnit.channels[c].state s.inputUnit.inputs[c] := by
  rw [← input_val]
  rfl

/-- RESET FLAG of a CONTACT channel, with line time set (R81). -/
theorem resetFlag_contact {s : State} {c : Fin 8} {now : Nat} (hmode : s.profile.channels[c].mode = .contact)
    (hnow : s.now = some now) : resetFlag c.val s =
      if s.inputUnit.channels[c].state = .tripped then
        if s.inputUnit.inputs[c] then refuseWith .state (flagData c s) s
        else done (.flagState .armed s.inputUnit.inputs[c]) (s.setChannel c { s.channel c with state := .armed })
      else done (flagData c s) s := by
  have harmed : flagData c (s.setChannel c { s.channel c with state := .armed }) =
      .flagState .armed s.inputUnit.inputs[c] := by
    rw [flagData_eq]
    simp [State.setChannel, State.setInputUnit]
  rw [← harmed, ← input_val]
  simp only [resetFlag, channelIndex_val]
  exact (if_neg (not_not_intro hmode)).trans (if_neg (by simp [hnow]))

/-- Settles O31 (R79 to R81). -/
theorem contactChannel : Obligations.ContactChannel := by
  intro s c ms now hpower hnow hmode
  dsimp only
  refine ⟨fun hactive hpair => ?_, fun hinactive harmed => ?_, fun hinactive htripped => ?_, fun f hstate hf hshort _ => ?_,
    fun f hstate hf hlong => ?_, fun m hable => ?_⟩
  · exact rising_active _ _ _ _ _ hpower (by rw [mayRise_val, hpair]; simpa using hactive)
  · refine (rising_judged _ _ _ _ _ hpower (by rw [mayRise_val, hinactive]; rfl)).trans ?_
    rw [setLevel_val, leadingEdge_armed (s := s.setInputUnit (s.inputUnit.levelled c true ms)) hnow hmode harmed]
    rfl
  · refine (rising_judged _ _ _ _ _ hpower (by rw [mayRise_val, hinactive]; rfl)).trans ?_
    rw [setLevel_val, leadingEdge_other (s := s.setInputUnit (s.inputUnit.levelled c true ms))
      fun h => absurd (htripped.symm.trans h) (by simp)]
    rfl
  · refine (falling_judged _ _ _ _ hpower).trans ?_
    rw [setLevel_val, contactOpens, measuring_eq (s := s.setInputUnit (s.inputUnit.levelled c false ms)) hnow hmode hstate hf]
    exact congrArg (fun u : State => Host.Outcome.next (u.setReply none)) (if_pos (by simp only [Flight.elapsed]; omega))
  · refine (happen_powered (f := fun s => contactHeld c ms (tickTo ms s)) hpower).trans ?_
    rw [tickTo_eq, contactHeld, measuring_eq (s := s.setInputUnit (s.inputUnit.ticked ms)) hnow hmode hstate hf]
    exact congrArg (fun u : State => Host.Outcome.next (u.setReply none)) (if_pos (by simp only [Flight.elapsed]; omega))
  · have hreset := resetFlag_contact hmode hnow
    refine ⟨fun htripped hclosed => ?_, fun htripped hopen => ?_, fun hother => ?_⟩
    · refine refusesWith_able (i := .resetFlag m (some c.val)) (body := withParams (some c.val) resetFlag) rfl rfl
        mayUse_resetFlag_iff hable ?_
      rw [withParams_some, hreset, if_pos htripped, if_pos hclosed, flagData_eq, htripped, hclosed]
    · refine done_able (i := .resetFlag m (some c.val)) (body := withParams (some c.val) resetFlag) rfl
        mayUse_resetFlag_iff hable ?_
      rw [withParams_some, hreset, if_pos htripped, if_neg (by simp [hopen]), hopen]
      rfl
    · refine done_able (i := .resetFlag m (some c.val)) (body := withParams (some c.val) resetFlag) rfl
        mayUse_resetFlag_iff hable ?_
      rw [withParams_some, hreset, if_neg, flagData_eq]
      exact fun h => by rcases hother with h' | h' <;> exact absurd (h'.symm.trans h) (by simp)

/-! ## PULSE (R79, R82, R83) -/

section Pulse

variable {s : State} {c : Fin 8} {w now : Nat}

theorem pulseEnds_noise (h : w < (s.chanCfg c).minWidth) : pulseEnds c w now s = s.setChannel c { s.channel c with
    state := .armed, measurement := pulseMeasured w, flight := none, noise := bump (s.channel c).noise } := if_pos h

theorem pulseEnds_passage (hlow : (s.chanCfg c).minWidth ≤ w) (hhigh : w ≤ (s.chanCfg c).maxWidth) :
    pulseEnds c w now s = detect c { s.channel c with
      state := .armed, measurement := pulseMeasured w, flight := none } now (now - w / 200) none s :=
  (if_neg (Nat.not_lt.mpr hlow)).trans (if_pos hhigh)

end Pulse

/-- Settles O32 (R79, R82, R83). -/
theorem pulseChannel : Obligations.PulseChannel := by
  intro s c ms now hpower hnow hmode
  dsimp only
  have hfalling : ∀ f : State → State, falling c ms f s =
      .next ((f (s.setInputUnit (s.inputUnit.levelled c false ms))).setReply none) := fun f => by
    rw [falling_judged _ _ _ _ hpower, setLevel_val]
  refine ⟨fun hactive hpair => ?_, fun hinactive harmed => ?_, fun f hf hms => ⟨fun hstate => ⟨fun hnoise => ?_,
    fun hlow hhigh => ?_, fun hlong => ?_⟩, fun hfault => ?_⟩⟩
  · exact rising_active _ _ _ _ _ hpower (by rw [mayRise_val, hpair, hactive]; rfl)
  · refine (rising_judged _ _ _ _ _ hpower (by rw [mayRise_val, hinactive]; rfl)).trans ?_
    rw [setLevel_val, leadingEdge_armed (s := s.setInputUnit (s.inputUnit.levelled c true ms)) hnow hmode harmed]
    rfl
  · refine (hfalling _).trans ?_
    rw [pulseInactive, measuring_eq (s := s.setInputUnit (s.inputUnit.levelled c false ms)) hnow hmode hstate hf]
    dsimp only
    rw [pulseEnds_noise (w := f.elapsed ms) (s := s.setInputUnit (s.inputUnit.levelled c false ms)) hnoise]
    rfl
  · refine (hfalling _).trans ?_
    rw [pulseInactive, measuring_eq (s := s.setInputUnit (s.inputUnit.levelled c false ms)) hnow hmode hstate hf]
    dsimp only
    rw [pulseEnds_passage (w := f.elapsed ms) (s := s.setInputUnit (s.inputUnit.levelled c false ms)) hlow hhigh]
    rfl
  · refine (happen_powered (f := fun s => pulseTooLong c ms (tickTo ms s)) hpower).trans ?_
    rw [tickTo_eq, pulseTooLong, measuring_eq (s := s.setInputUnit (s.inputUnit.ticked ms)) hnow hmode hstate hf]
    exact congrArg (fun u : State => Host.Outcome.next (u.setReply none)) (if_pos hlong)
  · have hother : (State.channel (s.setInputUnit (s.inputUnit.levelled c false ms)) c).state ≠ .measuring := fun h =>
      absurd (hfault.symm.trans h) (by simp)
    have hflight : ((s.setInputUnit (s.inputUnit.levelled c false ms)).channel c).flight = some f := hf
    refine (hfalling _).trans ?_
    rw [pulseInactive, measuring_other hother]
    dsimp only
    rw [hflight]
    exact congrArg (fun u : State => Host.Outcome.next (u.setReply none)) (if_pos ⟨hmode, hfault⟩)

/-! ## PAIR (R84 to R87) -/

section Pair

variable {s : State} {c : Fin 8} {ms now : Nat} {f : Flight}

/-- A timing that its maximum interval still covers is not settled before an edge is judged. -/
theorem settlePair_running (hf : (s.channel c).flight = some f) (hshort : ms - f.ms ≤ (s.chanCfg c).interval) :
    settlePair c ms s = s := by
  have hlate : ¬ (s.chanCfg c).interval + 1 ≤ f.elapsed ms := by
    simp only [Flight.elapsed]
    omega
  have hpair : pairRunsOut 1 c ms s = s := by
    unfold pairRunsOut
    cases hm : measuring .pair c s with
    | none => rfl
    | some fn =>
      obtain ⟨f', now⟩ := fn
      have hsame : f' = f := by
        unfold measuring at hm
        rw [hf] at hm
        split at hm
        · next h =>
          obtain rfl := Option.some.inj h
          split at hm
          · exact (congrArg Prod.fst (Option.some.inj hm)).symm
          · cases hm
        · cases hm
      rw [hsame]
      exact if_neg hlate
  rw [settlePair, hpair, guardRunsOut]
  rw [hf]
  exact if_neg fun h => hlate h.2.2

theorem settlePair_idle (hf : (s.channel c).flight = none) : settlePair c ms s = s := by
  have hmeasuring : measuring .pair c s = none := by
    unfold measuring
    rw [hf]
    split
    · next h => cases h
    · rfl
  rw [settlePair, pairRunsOut, hmeasuring]
  dsimp only
  rw [guardRunsOut, hf]

end Pair

/-- The levels after an edge of a pair. -/
def InputUnit.paired (u : InputUnit) (n ms : Nat) : InputUnit :=
  { u with
    inputs := u.inputs.setIfInBounds n true
    pairEdge := u.pairEdge.setIfInBounds n true
    msTimer := max u.msTimer ms }

theorem pairSeesB_armed {s : State} {c : Fin 8} {ms now : Nat} (hnow : s.now = some now)
    (hmode : (s.chanCfg c).mode = .pair) (harmed : (s.channel c).state = .armed) :
    pairSeesB c ms s = s.setChannel c { s.channel c with
      state := .guard, reverse := bump (s.channel c).reverse, flight := some ⟨ms, now⟩ } := by
  rw [pairSeesB, measuring_other (by simp [harmed])]
  dsimp only
  rw [hnow]
  exact if_pos ⟨hmode, harmed⟩

theorem pairSeesB_guard {s : State} {c : Fin 8} {ms : Nat} (hguard : (s.channel c).state = .guard) :
    pairSeesB c ms s = s := by
  rw [pairSeesB, measuring_other (by simp [hguard])]
  dsimp only
  split
  · rfl
  · exact if_neg fun h => absurd (hguard.symm.trans h.2) (by simp)

/-- Settles O33 (R79, R84 to R87). -/
theorem pairChannel : Obligations.PairChannel := by
  intro s c ms now hpower hnow _ hmode
  dsimp only
  have hA : (s.inputUnit.inputs[c.val]? = some false ∨ s.inputUnit.pairEdge[c.val]? = some true) →
      exec (.pairAEdge c ms) s = .next ((leadingEdge .pair c ms (settlePair c ms
        (s.setInputUnit (s.inputUnit.paired c ms)))).setReply none) := fun h =>
    rising_judged c true ms (fun s => leadingEdge .pair c ms (settlePair c ms s)) s hpower (mayRise_of_rises h)
  have hB : (s.inputUnit.inputs[c.val + 1]? = some false ∨ s.inputUnit.pairEdge[c.val + 1]? = some true) →
      exec (.pairBEdge c ms) s = .next ((pairSeesB c ms (settlePair c ms
        (s.setInputUnit (s.inputUnit.paired (c + 1) ms)))).setReply none) := fun h =>
    rising_judged (c + 1) true ms (fun s => pairSeesB c ms (settlePair c ms s)) s hpower (mayRise_of_rises h)
  refine ⟨fun hactive hpair => ?_, fun hactive hpair => ?_, fun harmed hidle => ⟨fun hrises => ?_, fun hrises => ?_⟩,
    fun f hf hms => ⟨fun hstate hshort hrises => ?_, fun hstate hshort hrises => ?_, fun hstate hlong => ?_,
      fun hguard hshort => ⟨fun hrises => ?_, fun hrises => ?_⟩, fun hguard hlong => ?_⟩⟩
  · exact rising_active c true ms (fun s => leadingEdge .pair c ms (settlePair c ms s)) s hpower (by
      rw [mayRise_val, hpair, hactive]; rfl)
  · exact rising_active (c + 1) true ms (fun s => pairSeesB c ms (settlePair c ms s)) s hpower
      (mayRise_of_active hactive hpair)
  · refine (hA hrises).trans ?_
    rw [settlePair_idle (s := s.setInputUnit (s.inputUnit.paired c ms)) hidle,
      leadingEdge_armed (s := s.setInputUnit (s.inputUnit.paired c ms)) hnow hmode harmed]
    rfl
  · refine (hB hrises).trans ?_
    rw [settlePair_idle (s := s.setInputUnit (s.inputUnit.paired (c + 1) ms)) hidle,
      pairSeesB_armed (s := s.setInputUnit (s.inputUnit.paired (c + 1) ms)) hnow hmode harmed]
    rfl
  · refine (hA hrises).trans ?_
    rw [settlePair_running (s := s.setInputUnit (s.inputUnit.paired c ms)) hf hshort,
      leadingEdge_other (s := s.setInputUnit (s.inputUnit.paired c ms)) fun h => absurd (hstate.symm.trans h) (by simp)]
    rfl
  · refine (hB hrises).trans ?_
    rw [settlePair_running (s := s.setInputUnit (s.inputUnit.paired (c + 1) ms)) hf hshort, pairSeesB,
      measuring_eq (s := s.setInputUnit (s.inputUnit.paired (c + 1) ms)) hnow hmode hstate hf]
    rfl
  · refine (happen_powered (f := fun s => pairRunsOut 0 c ms (tickTo ms s)) hpower).trans ?_
    rw [tickTo_eq, pairRunsOut, measuring_eq (s := s.setInputUnit (s.inputUnit.ticked ms)) hnow hmode hstate hf]
    exact congrArg (fun u : State => Host.Outcome.next (u.setReply none)) (if_pos hlong)
  · refine (hA hrises).trans ?_
    rw [settlePair_running (s := s.setInputUnit (s.inputUnit.paired c ms)) hf hshort,
      leadingEdge_other (s := s.setInputUnit (s.inputUnit.paired c ms)) fun h => absurd (hguard.symm.trans h) (by simp)]
    rfl
  · refine (hB hrises).trans ?_
    rw [settlePair_running (s := s.setInputUnit (s.inputUnit.paired (c + 1) ms)) hf hshort,
      pairSeesB_guard (s := s.setInputUnit (s.inputUnit.paired (c + 1) ms)) hguard]
    rfl
  · refine (happen_powered (f := fun s => guardRunsOut 0 c ms (tickTo ms s)) hpower).trans ?_
    rw [tickTo_eq, guardRunsOut]
    have hflight : ((s.setInputUnit (s.inputUnit.ticked ms)).channel c).flight = some f := hf
    rw [hflight]
    exact congrArg (fun u : State => Host.Outcome.next (u.setReply none)) (if_pos ⟨hmode, hguard, hlong⟩)

end Sys2Proof.Machine


/-! PROOF. The commands that write the profile: what turns them away, and what they leave where they are taken (R1 to
R14, R88, R137). -/

namespace Sys2Proof.Machine

/-! ## Commands that wait for the store (R2) -/

section Idle

variable {i : Instr} {m : Master} {k : Command} {l : List MasterClass} {body : State → State × Answer} {s t : State}

theorem exec_idle (hexec : exec i s = serve m k (whenIdle body) s) (hk : ∀ c ∈ l, mayUse c k = true) (h : s.serves m l)
    (hidle : s.store.writing = none) : exec i s = .next (respond m k.code (body s)) := by
  rw [hexec, serve_open m k _ s h.1 (mayUse_class h hk), whenIdle_idle _ hidle]

theorem refuses_idle {r : Reason} (hi : i.request = some (m, k)) (hexec : exec i s = serve m k (whenIdle body) s)
    (hk : ∀ c ∈ l, mayUse c k = true) (h : s.serves m l) (hidle : s.store.writing = none) (hbody : body s = refuse r s) :
    Refuses i r s :=
  refuses_of hi ((exec_idle hexec hk h hidle).trans (by rw [hbody, refuse]))

theorem done_idle {d : ReplyData} (hexec : exec i s = serve m k (whenIdle body) s)
    (hk : ∀ c ∈ l, mayUse c k = true) (h : s.serves m l) (hidle : s.store.writing = none) (hbody : body s = done d t) :
    exec i s = .next (sendReply m (.done d) t) :=
  (exec_idle hexec hk h hidle).trans (by rw [hbody, done, respond_done])

end Idle

/-- The commands that wait for the store. -/
def storeCommands : List Command :=
  [.defineLine, .defineStation, .defineReach, .defineSignaller, .defineTracking, .defineTrap, .defineMaster,
    .setChannelMode, .setWatch, .readProfile]

theorem exec_storeCommand {i : Instr} {m : Master} {k : Command} (hi : i.request = some (m, k)) (hk : k ∈ storeCommands) :
    ∃ body, ∀ s, exec i s = serve m k (whenIdle body) s := by
  cases i <;> simp only [Instr.request, Option.some.injEq, Prod.mk.injEq, reduceCtorEq] at hi <;>
    obtain ⟨rfl, rfl⟩ := hi <;> first
      | exact ⟨_, fun _ => rfl⟩
      | exact absurd hk (by decide)

/-- While the store is WRITING a command that waits for it is answered WAIT. -/
theorem waits_of {i : Instr} {m : Master} {k : Command} {s : State} (hi : i.request = some (m, k))
    (hk : k ∈ storeCommands) (hpower : s.powered = true) (hclass : mayUse (s.context m).cls k = true)
    (hwriting : s.store.writing ≠ none) : AnswersOnly i .wait s := by
  obtain ⟨body, hbody⟩ := exec_storeCommand hi hk
  refine ⟨m, k, hi, ?_⟩
  rw [hbody, serve_open m k _ s hpower hclass, whenIdle, if_pos (Option.isSome_iff_ne_none.mpr hwriting), respond_wait]

/-! ## The checks of a changed profile (R3) -/

theorem locked_eq_false_iff {r : Register} : r.locked = false ↔ r.view = [] := by
  rw [Register.locked, size_eq_view]
  simp

theorem locked_iff {r : Register} : r.locked = true ↔ r.view ≠ [] := by
  rw [Ne, ← locked_eq_false_iff, Bool.not_eq_false]

section Judge

variable {p : Profile} {conflict breaks : Bool} {after : State → State} {s : State}

theorem judgeProfile_same (h : p = s.profile) : judgeProfile p conflict breaks after s = done .nothing s := if_pos h

theorem judgeProfile_locked (hgeometry : geometryOf p ≠ geometryOf s.profile) (hview : s.register.view ≠ []) :
    judgeProfile p conflict breaks after s = refuse .locked s :=
  (if_neg fun h => hgeometry (congrArg geometryOf h)).trans (if_pos ⟨hgeometry, locked_iff.mpr hview⟩)

/-- A change that the lock does not turn away. -/
def PassesLock (p : Profile) (s : State) : Prop :=
  p ≠ s.profile ∧ (geometryOf p = geometryOf s.profile ∨ s.register.view = [])

theorem PassesLock.judgeProfile (h : PassesLock p s) : judgeProfile p conflict breaks after s =
    if conflict = true then refuse .state s
    else if breaks = true then refuse .range s else done .nothing (after (takeProfile p s)) := by
  refine (if_neg h.1).trans (if_neg fun hlock => ?_)
  obtain hgeometry | hview := h.2
  · exact hlock.1 hgeometry
  · exact locked_iff.mp hlock.2 hview

theorem judgeProfile_conflict (h : PassesLock p s) (hconflict : conflict = true) :
    judgeProfile p conflict breaks after s = refuse .state s := h.judgeProfile.trans (if_pos hconflict)

theorem judgeProfile_breaks (h : PassesLock p s) (hconflict : conflict = false) (hbreaks : breaks = true) :
    judgeProfile p conflict breaks after s = refuse .range s := by
  rw [h.judgeProfile, hconflict, hbreaks]
  rfl

theorem judgeProfile_taken (h : PassesLock p s) (hconflict : conflict = false) (hbreaks : breaks = false) :
    judgeProfile p conflict breaks after s = done .nothing (after (takeProfile p s)) := by
  rw [h.judgeProfile, hconflict, hbreaks]
  rfl

end Judge

/-! ## A profile that is taken (R1, R2, R193) -/

theorem image_setImage_self (x : ProfileStore) (slot : Slot) (i : Image) : (x.setImage slot i).image slot = i := by
  cases slot <;> rfl

theorem image_setImage_ne (x : ProfileStore) {slot other : Slot} (i : Image) (h : other ≠ slot) :
    (x.setImage slot i).image other = x.image other := by
  cases slot <;> cases other <;> first | rfl | exact absurd rfl h

theorem image_congr {x y : ProfileStore} (hfirst : x.firstImage = y.firstImage) (hsecond : x.secondImage = y.secondImage)
    (slot : Slot) : x.image slot = y.image slot := by
  cases slot
  · exact hfirst
  · exact hsecond

theorem setImage_rest (x : ProfileStore) (slot : Slot) (i : Image) :
    (x.setImage slot i).running = x.running ∧ (x.setImage slot i).currentImage = x.currentImage ∧
      (x.setImage slot i).imageState = x.imageState := by
  cases slot <;> exact ⟨rfl, rfl, rfl⟩

theorem profileTaken_takeProfile (p : Profile) (s : State) : ProfileTaken p s (takeProfile p s) := by
  have hcount : ({ s.store with running := p } : ProfileStore).count = s.store.count := by
    unfold ProfileStore.count
    cases s.store.currentImage with
    | none => rfl
    | some slot => exact congrArg Image.writeCount (image_congr rfl rfl slot)
  have htarget : ({ s.store with running := p } : ProfileStore).target = s.store.target := rfl
  obtain ⟨hrunning, hcurrent, hstate⟩ :=
    setImage_rest { s.store with running := p } s.store.target ⟨s.store.count + 1, false, p⟩
  have hstore : (takeProfile p s).store = { ({ s.store with running := p } : ProfileStore).setImage s.store.target
      ⟨s.store.count + 1, false, p⟩ with writing := some s.store.target } := by
    rw [takeProfile_store, ProfileStore.startWrite, hcount, htarget]
  have hmark : (takeProfile p s).geometryMark =
      if geometryOf p = geometryOf s.profile then s.geometryMark else geometryOf p := by
    simp only [takeProfile]
    split <;> rfl
  refine ⟨?_, ?_, ?_, fun slot hslot => ?_, ?_, ?_, hmark⟩ <;> rw [hstore]
  · exact hrunning
  · exact (image_congr rfl rfl _).trans (image_setImage_self _ _ _)
  · exact (image_congr rfl rfl _).trans ((image_setImage_ne _ _ hslot).trans (image_congr rfl rfl _))
  · exact hcurrent
  · exact hstate

/-- What is done besides leaves the store and the mark. -/
theorem ProfileTaken.congr {p : Profile} {s t u : State} (h : ProfileTaken p s t) (hstore : u.store = t.store)
    (hmark : u.geometryMark = t.geometryMark) : ProfileTaken p s u := by
  rw [ProfileTaken, hstore, hmark]
  exact h

theorem ProfileTaken.of_only {p : Profile} {s t u : State} {l : List Block} (h : ProfileTaken p s t)
    (honly : OnlyChanges l t u) (hstore : .store ∉ l) (hmark : .geometryMark ∉ l) : ProfileTaken p s u :=
  h.congr (honly .store hstore) (honly .geometryMark hmark)

/-- A profile of the geometry that is held leaves the mark. -/
theorem takeProfile_only_store {p : Profile} {s : State} (h : geometryOf p = geometryOf s.profile) :
    OnlyChanges [.store] s (takeProfile p s) := by
  simp only [takeProfile, if_pos h]
  exact setStore_only s _

/-! ## The end of a store write (R2) -/

theorem finishWrite_some {x : ProfileStore} {slot : Slot} (h : x.writing = some slot) :
    x.finishWrite = { x.setImage slot { x.image slot with valid := true } with
      currentImage := some slot, imageState := .current, writing := none } := by
  simp only [ProfileStore.finishWrite, h]

theorem finishWrite_none {x : ProfileStore} (h : x.writing = none) : x.finishWrite = x := by
  simp only [ProfileStore.finishWrite, h]

theorem finishWrite_leaves {x : ProfileStore} {slot : Slot} (h : x.writing = some slot) :
    x.finishWrite.running = x.running ∧ x.finishWrite.writing = none ∧ x.finishWrite.currentImage = some slot ∧
      x.finishWrite.imageState = .current ∧ x.finishWrite.image slot = { x.image slot with valid := true } ∧
      ∀ other, other ≠ slot → x.finishWrite.image other = x.image other := by
  rw [finishWrite_some h]
  exact ⟨(setImage_rest _ _ _).1, rfl, rfl, rfl, (image_congr rfl rfl _).trans (image_setImage_self _ _ _),
    fun other hother => (image_congr rfl rfl _).trans (image_setImage_ne _ _ hother)⟩

/-! ## Which profiles change, and which change the geometry (R4) -/

section Places

variable {α β : Type} {n : Nat} {v : Vector (Option α) n} {i : Nat}

theorem join_getElem? (hi : i < n) : (v[i]?).join = v[i] := by rw [Vector.getElem?_eq_getElem hi, Option.join_some]

theorem setIfInBounds_eq_self_iff (hi : i < n) (x : Option α) : v.setIfInBounds i x = v ↔ (v[i]?).join = x := by
  rw [join_getElem? hi]
  constructor
  · intro h
    have hat : (v.setIfInBounds i x)[i] = v[i] := by rw [h]
    rw [← hat, Vector.getElem_setIfInBounds_self]
  · intro h
    rw [← h]
    ext1 j hj
    rw [Vector.getElem_setIfInBounds]
    split
    · next hij => simp only [hij]
    · rfl

theorem mapIdx_setIfInBounds_eq_iff (hi : i < n) (f : α → β) (x : Option α) :
    (v.setIfInBounds i x).mapIdx (fun _ o => o.map f) = v.mapIdx (fun _ o => o.map f) ↔
      ((v[i]?).join).map f = x.map f := by
  rw [join_getElem? hi]
  constructor
  · intro h
    have hat : ((v.setIfInBounds i x).mapIdx (fun _ o => o.map f))[i] = (v.mapIdx (fun _ o => o.map f))[i] := by rw [h]
    rw [Vector.getElem_mapIdx, Vector.getElem_mapIdx, Vector.getElem_setIfInBounds_self] at hat
    exact hat.symm
  · intro h
    ext1 j hj
    rw [Vector.getElem_mapIdx, Vector.getElem_mapIdx, Vector.getElem_setIfInBounds]
    split
    · next hij =>
      subst hij
      exact h.symm
    · rfl

theorem set_ne_self {w : Vector α n} {k : Fin n} {x : α} (h : w[k] ≠ x) : w.set k x ≠ w := by
  intro heq
  refine h ?_
  have hat : (w.set k x)[k] = w[k] := by rw [heq]
  rw [← hat]
  exact Vector.getElem_set_self _

end Places

theorem geometryOf_eq_iff {p q : Profile} : geometryOf p = geometryOf q ↔
    p.line = q.line ∧
      p.stations.mapIdx (fun _ o => o.map (fun s => (s.chainage, s.halfWidth))) =
        q.stations.mapIdx (fun _ o => o.map (fun s => (s.chainage, s.halfWidth))) ∧
      p.reaches.mapIdx (fun _ o => o.map (fun r => r.area)) = q.reaches.mapIdx (fun _ o => o.map (fun r => r.area)) ∧
      p.signallers.mapIdx (fun _ o => o.map (fun g => (g.source, g.chainage))) =
        q.signallers.mapIdx (fun _ o => o.map (fun g => (g.source, g.chainage))) := by
  simp only [geometryOf, Geometry.mk.injEq]

section Geometry

variable {p : Profile} {i : Nat}

theorem setStation_eq_iff (hi : i < 16) (st : Station) : p.setStation i st = p ↔ p.station? i = some st := by
  refine Iff.trans ⟨fun h => congrArg Profile.stations h, fun h => ?_⟩ (setIfInBounds_eq_self_iff hi (some st))
  change p.stations.setIfInBounds i (some st) = p.stations at h
  rw [Profile.setStation, h]

theorem geometryOf_setStation_iff (hi : i < 16) (st : Station) : geometryOf (p.setStation i st) = geometryOf p ↔
    (p.station? i).map (fun h => (h.chainage, h.halfWidth)) = some (st.chainage, st.halfWidth) := by
  rw [geometryOf_eq_iff]
  refine Iff.trans ?_ (mapIdx_setIfInBounds_eq_iff (v := p.stations) hi _ (some st))
  exact ⟨fun ⟨_, h, _⟩ => h, fun h => ⟨rfl, h, rfl, rfl⟩⟩

theorem setReach_eq_iff (hi : i < 15) (r : Reach) : p.setReach i r = p ↔ p.reach? i = some r := by
  refine Iff.trans ⟨fun h => congrArg Profile.reaches h, fun h => ?_⟩ (setIfInBounds_eq_self_iff hi (some r))
  change p.reaches.setIfInBounds i (some r) = p.reaches at h
  rw [Profile.setReach, h]

theorem geometryOf_setReach_iff (hi : i < 15) (r : Reach) : geometryOf (p.setReach i r) = geometryOf p ↔
    (p.reach? i).map (·.area) = some r.area := by
  rw [geometryOf_eq_iff]
  refine Iff.trans ?_ (mapIdx_setIfInBounds_eq_iff (v := p.reaches) hi _ (some r))
  exact ⟨fun ⟨_, _, h, _⟩ => h, fun h => ⟨rfl, rfl, h, rfl⟩⟩

theorem setSignaller_eq_iff (hi : i < 32) (g : Option Signaller) : p.setSignaller i g = p ↔ p.signaller? i = g := by
  refine Iff.trans ⟨fun h => congrArg Profile.signallers h, fun h => ?_⟩ (setIfInBounds_eq_self_iff hi g)
  change p.signallers.setIfInBounds i g = p.signallers at h
  rw [Profile.setSignaller, h]

theorem geometryOf_setSignaller_iff (hi : i < 32) (g : Option Signaller) :
    geometryOf (p.setSignaller i g) = geometryOf p ↔
      (p.signaller? i).map (fun h => (h.source, h.chainage)) = g.map (fun h => (h.source, h.chainage)) := by
  rw [geometryOf_eq_iff]
  refine Iff.trans ?_ (mapIdx_setIfInBounds_eq_iff (v := p.signallers) hi _ g)
  exact ⟨fun ⟨_, _, _, h⟩ => h, fun h => ⟨rfl, rfl, rfl, h⟩⟩

end Geometry

theorem channelInUse_iff {p : Profile} : p.channelInUse = true ↔ ∃ c : Fin 8, p.channels[c].mode ≠ .off := by
  simp only [Profile.channelInUse, List.any_eq_true, Vector.mem_toList_iff, bne_iff_ne]
  constructor
  · rintro ⟨c, hc, hmode⟩
    obtain ⟨i, hi, rfl⟩ := Vector.mem_iff_getElem.mp hc
    exact ⟨⟨i, hi⟩, hmode⟩
  · rintro ⟨c, hmode⟩
    exact ⟨_, Vector.getElem_mem c.isLt, hmode⟩

theorem channelOn_iff {p : Profile} {n : Nat} : p.channelOn n = true ↔
    ∃ c : Fin 8, p.channels[c].mode ≠ .off ∧ p.channels[c].signaller = some n := by
  simp only [Profile.channelOn, List.any_eq_true, Vector.mem_toList_iff, Bool.and_eq_true, bne_iff_ne, beq_iff_eq]
  constructor
  · rintro ⟨c, hc, hmode⟩
    obtain ⟨i, hi, rfl⟩ := Vector.mem_iff_getElem.mp hc
    exact ⟨⟨i, hi⟩, hmode⟩
  · rintro ⟨c, hmode⟩
    exact ⟨_, Vector.getElem_mem c.isLt, hmode⟩

end Sys2Proof.Machine


/-! PROOF. DEFINE LINE, STATION, REACH and SIGNALLER: their checks and what they take (R4 to R10). -/

namespace Sys2Proof.Machine

/-! ## Items of a line (R3) -/

section Item

variable {α : Type} {f : α → State → State × Answer} {s : State}

/-- An item of the line: STATE comes before its fields are looked at. -/
def lineItem (a : Carried α) (f : α → State → State × Answer) (s : State) : State × Answer :=
  if s.profile.line.isNone then refuse .state s else withParams a f s

theorem lineItem_undefined {a : Carried α} (h : s.profile.line = none) : lineItem a f s = refuse .state s :=
  if_pos (Option.isNone_iff_eq_none.mpr h)

theorem lineItem_defined {a : Carried α} (h : s.profile.line ≠ none) : lineItem a f s = withParams a f s :=
  if_neg fun hn => h (Option.isNone_iff_eq_none.mp hn)

end Item

/-! ## DEFINE LINE (R5) -/

/-- The fields of DEFINE LINE lie in their ranges. -/
def LineFits (x : LineArgs) : Prop := 2 ≤ x.count ∧ x.count ≤ 16 ∧ 1000 ≤ x.lineEnd ∧ x.lineEnd ≤ 999999

section Line

variable {x : LineArgs} {s : State}

theorem lineArgs_fits_iff : (within 2 16 x.count && within 1000 999999 x.lineEnd) = true ↔ LineFits x := by
  simp only [Bool.and_eq_true, within_iff, LineFits, and_assoc]

theorem defineLine_unfit (h : ¬ LineFits x) : defineLine x s = refuse .range s := by
  rw [← lineArgs_fits_iff, Bool.not_eq_true] at h
  rw [defineLine, h]
  rfl

theorem defineLine_held (h : LineFits x) (hheld : s.profile.line = some ⟨x.count, x.lineEnd⟩) :
    defineLine x s = done .nothing s := by
  rw [defineLine, lineArgs_fits_iff.mpr h]
  exact (if_neg (by simp)).trans (if_pos hheld)

theorem defineLine_fits (h : LineFits x) (hheld : s.profile.line ≠ some ⟨x.count, x.lineEnd⟩) :
    defineLine x s = judgeProfile (s.profile.withLine ⟨x.count, x.lineEnd⟩)
      (s.profile.line.isSome && s.profile.channelInUse) false clearLine s := by
  rw [defineLine, lineArgs_fits_iff.mpr h]
  exact (if_neg (by simp)).trans (if_neg hheld)

theorem geometryOf_withLine_ne (hheld : s.profile.line ≠ some ⟨x.count, x.lineEnd⟩) :
    geometryOf (s.profile.withLine ⟨x.count, x.lineEnd⟩) ≠ geometryOf s.profile :=
  fun h => hheld (congrArg Geometry.line h).symm

theorem withLine_passesLock (hheld : s.profile.line ≠ some ⟨x.count, x.lineEnd⟩) (hview : s.register.view = []) :
    PassesLock (s.profile.withLine ⟨x.count, x.lineEnd⟩) s :=
  ⟨fun h => geometryOf_withLine_ne hheld (congrArg geometryOf h), .inr hview⟩

/-- What a changed line starts anew. -/
theorem clearLine_leaves (t : State) :
    (clearLine t).signallers = Vector.replicate 32 SigRuntime.fresh ∧
      (clearLine t).tracker = { t.tracker with flows := Vector.replicate 15 FlowEntry.empty } ∧
      (clearLine t).intake = { t.intake with entries := [] } ∧
      (clearLine t).fixUnit = { t.fixUnit with unmatched := [] } ∧
      (∀ st : Fin 16, (clearLine t).valves[st] = ⟨.unknown, 0#7, none, none, none,
        t.powered && t.now.isSome && decide (st.val < t.profile.count)⟩) ∧
      ∀ st : Fin 16, (clearLine t).watchUnit.watches[st].state = .off := by
  refine ⟨rfl, rfl, rfl, rfl, fun st => ?_, fun st => ?_⟩
  · rw [clearLine, setContacts_valves]
    simp [contactFor, Valve.fresh]
    rfl
  · simp [clearLine, setContacts, Watch.toOff, Watch.off]

end Line

/-! ## DEFINE STATION (R6, R7) -/

/-- The fields of DEFINE STATION lie in their ranges. -/
def StationFits (x : StationArgs) (p : Profile) : Prop :=
  x.index < p.count ∧ x.chainage ≤ 999999 ∧ optWithin 5 2000 x.halfWidth = true ∧ optWithin 5 600 x.strokeTime = true

section Station

variable {x : StationArgs} {s : State}

/-- The station moves, or its zone changes. -/
def stationMoves (x : StationArgs) (p : Profile) : Bool :=
  (p.station? x.index).map (fun h => (h.chainage, h.halfWidth)) ≠
    some ((stationFrom x (p.station? x.index)).chainage, (stationFrom x (p.station? x.index)).halfWidth)

theorem stationArgs_fits_iff {p : Profile} : (decide (x.index < p.count) && chainageOk x.chainage &&
    optWithin 5 2000 x.halfWidth && optWithin 5 600 x.strokeTime) = true ↔ StationFits x p := by
  simp only [Bool.and_eq_true, StationFits, decide_eq_true_eq, chainageOk_iff, and_assoc]

theorem defineStation_unfit (h : ¬ StationFits x s.profile) : defineStation x s = refuse .range s := by
  rw [← stationArgs_fits_iff, Bool.not_eq_true] at h
  rw [defineStation, h]
  rfl

theorem defineStation_fits (h : StationFits x s.profile) : defineStation x s =
    judgeProfile (s.profile.setStation x.index (stationFrom x (s.profile.station? x.index))) false
      (stationMoves x s.profile && !(s.profile.stationPlaceOk x.index x.chainage &&
        s.profile.stationFits x.index (stationFrom x (s.profile.station? x.index)))) id s := by
  rw [defineStation, stationArgs_fits_iff.mpr h]
  rfl

end Station

/-! ## DEFINE REACH (R8) -/

/-- The fields of DEFINE REACH lie in their ranges. -/
def ReachFits (x : ReachArgs) (p : Profile) : Prop :=
  x.index + 1 < p.count ∧ 50 ≤ x.area ∧ x.area ≤ 20000 ∧ optWithin 60 7200 x.stallTime = true ∧
    optWithin 10 600 x.flowTimeout = true

section Reach

variable {x : ReachArgs} {s : State}

theorem reachArgs_fits_iff {p : Profile} : (decide (x.index < p.count - 1) && within 50 20000 x.area &&
    optWithin 60 7200 x.stallTime && optWithin 10 600 x.flowTimeout) = true ↔ ReachFits x p := by
  have hindex : x.index < p.count - 1 ↔ x.index + 1 < p.count := by omega
  simp only [Bool.and_eq_true, ReachFits, decide_eq_true_eq, within_iff, hindex, and_assoc]

theorem defineReach_unfit (h : ¬ ReachFits x s.profile) : defineReach x s = refuse .range s := by
  rw [← reachArgs_fits_iff, Bool.not_eq_true] at h
  rw [defineReach, h]
  rfl

theorem defineReach_fits (h : ReachFits x s.profile) : defineReach x s =
    judgeProfile (s.profile.setReach x.index (reachFrom x (s.profile.reach? x.index))) false false id s := by
  rw [defineReach, reachArgs_fits_iff.mpr h]
  rfl

end Reach

/-! ## DEFINE SIGNALLER (R9, R10) -/

/-- The fields of DEFINE SIGNALLER lie in their ranges. -/
def SignallerFits (x : SignallerArgs) : Prop :=
  x.index ≤ 31 ∧ ∀ pl, x.place = some pl → pl.chainage ≤ 999999 ∧ optWithin 10 20000 pl.window = true

section Signaller

variable {x : SignallerArgs} {n : Nat} {held made : Option Signaller} {s : State}

/-- The source or chainage of a signaller changes, or it comes or goes. -/
def sourceMoves (held made : Option Signaller) : Bool :=
  held.map (fun h => (h.source, h.chainage)) ≠ made.map (fun h => (h.source, h.chainage))

theorem defineSignaller_unfit (h : ¬ SignallerFits x) : defineSignaller x s = refuse .range s := by
  obtain ⟨index, place⟩ := x
  simp only [SignallerFits] at h
  cases place with
  | none =>
    refine if_pos (show 31 < index from ?_)
    by_contra hlow
    exact h ⟨by omega, fun pl hpl => by cases hpl⟩
  | some pl =>
    refine if_pos ?_
    rw [Bool.not_eq_true', Bool.eq_false_iff]
    intro hfits
    simp only [Bool.and_eq_true, decide_eq_true_eq, chainageOk_iff] at hfits
    obtain ⟨⟨hindex, hchainage⟩, hwindow⟩ := hfits
    exact h ⟨hindex, fun q hq => by cases hq; exact ⟨hchainage, hwindow⟩⟩

/-- Without a place the signaller is removed. -/
theorem defineSignaller_removes (hn : n ≤ 31) : defineSignaller ⟨n, none⟩ s =
    judgeProfile (s.profile.setSignaller n none) (s.profile.channelOn n) false
      (resignal n (s.profile.signaller? n) none) s := if_neg (by simpa using hn)

theorem defineSignaller_places {pl : SignallerPlace} (hn : n ≤ 31) (hchainage : pl.chainage ≤ 999999)
    (hwindow : optWithin 10 20000 pl.window = true) : defineSignaller ⟨n, some pl⟩ s =
    judgeProfile (s.profile.setSignaller n (some (signallerFrom pl (s.profile.signaller? n))))
      (sourceMoves (s.profile.signaller? n) (some (signallerFrom pl (s.profile.signaller? n))) &&
        s.profile.channelOn n)
      (sourceMoves (s.profile.signaller? n) (some (signallerFrom pl (s.profile.signaller? n))) &&
        !s.profile.signallerFits n pl.chainage)
      (resignal n (s.profile.signaller? n) (some (signallerFrom pl (s.profile.signaller? n)))) s := by
  refine if_neg ?_
  simp [hn, hchainage, hwindow]

end Signaller

/-- What a taken DEFINE SIGNALLER leaves (R9, R73, R110). -/
theorem resignal_leaves {n : Nat} {held made : Option Signaller} (t : State) :
    OnlyChanges [.signallers, .intake, .fixUnit] t (resignal n held made t) ∧
      (∀ k : Fin 32, (resignal n held made t).signallers[k] =
        if k.val = n ∧ held.isSome ≠ made.isSome then SigRuntime.fresh else t.signallers[k]) ∧
      (resignal n held made t).intake = { t.intake with entries :=
        (if held ≠ none ∧ sourceMoves held made = true then t.intake.entries.filter (fun e => e.signaller != n)
        else t.intake.entries) } ∧
      (resignal n held made t).fixUnit = { t.fixUnit with unmatched :=
        (if held ≠ none ∧ sourceMoves held made = true then t.fixUnit.unmatched.filter (fun e => e.signaller != n)
        else t.fixUnit.unmatched) } := by
  obtain ⟨s1, hs1⟩ : ∃ s1, s1 = if held ≠ none ∧ sourceMoves held made = true then dropPassages n t else t := ⟨_, rfl⟩
  have hresignal : resignal n held made t =
      if held.isSome = made.isSome then s1 else s1.setRuntime n SigRuntime.fresh := by
    rw [hs1]
    simp only [resignal, sourceMoves, decide_eq_true_eq, Option.isSome_iff_ne_none]
  have hdropped : OnlyChanges [.intake, .fixUnit] t s1 ∧
      s1.intake = { t.intake with entries :=
        (if held ≠ none ∧ sourceMoves held made = true then t.intake.entries.filter (fun e => e.signaller != n)
        else t.intake.entries) } ∧
      s1.fixUnit = { t.fixUnit with unmatched :=
        (if held ≠ none ∧ sourceMoves held made = true then t.fixUnit.unmatched.filter (fun e => e.signaller != n)
        else t.fixUnit.unmatched) } := by
    rw [hs1]
    split
    · exact ⟨((setIntake_only t _).mono (by simp)).then (setFixUnit_only _ _) (by simp), rfl, rfl⟩
    · exact ⟨OnlyChanges.refl _ t, rfl, rfl⟩
  obtain ⟨honly, hintake, hfixUnit⟩ := hdropped
  have hsignallers : s1.signallers = t.signallers := honly .signallers (by simp)
  by_cases hsame : held.isSome = made.isSome
  · rw [hresignal, if_pos hsame]
    refine ⟨honly.mono (by simp), fun k => ?_, hintake, hfixUnit⟩
    rw [if_neg fun h => h.2 hsame, hsignallers]
  · rw [hresignal, if_neg hsame]
    refine ⟨(honly.mono (by simp)).then (setSignallers_only s1 _) (by simp), fun k => ?_, hintake, hfixUnit⟩
    rw [setRuntime_signallers, hsignallers]
    simp only [hsame, ne_eq, not_false_eq_true, and_true]

section SignallerTaken

variable {n : Nat} {place : Option SignallerPlace} {new : Option Signaller} {s : State}

/-- DEFINE SIGNALLER taken, with a place or without. -/
theorem defineSignaller_taken (hn : n < 32) (hlock : PassesLock (s.profile.setSignaller n new) s)
    (hgone : place = none → new = none ∧ s.profile.channelOn n = false)
    (hplaced : ∀ pl, place = some pl → pl.chainage ≤ 999999 ∧ optWithin 10 20000 pl.window = true ∧
      new = some (signallerFrom pl (s.profile.signaller? n)))
    (hmoves : sourceMoves (s.profile.signaller? n) new = true →
      s.profile.channelOn n = false ∧ ∀ g, new = some g → SignallerRoom s.profile n g.chainage) :
    defineSignaller ⟨n, place⟩ s =
      done .nothing (resignal n (s.profile.signaller? n) new (takeProfile (s.profile.setSignaller n new) s)) := by
  cases place with
  | none =>
    obtain ⟨rfl, hfree⟩ := hgone rfl
    exact (defineSignaller_removes (by omega)).trans (judgeProfile_taken hlock hfree rfl)
  | some pl =>
    obtain ⟨hchainage, hwindow, rfl⟩ := hplaced pl rfl
    refine (defineSignaller_places (by omega) hchainage hwindow).trans (judgeProfile_taken hlock ?_ ?_)
    · rw [Bool.and_eq_false_iff, ← Bool.not_eq_true, or_iff_not_imp_left, Classical.not_not]
      exact fun h => (hmoves h).1
    · rw [Bool.and_eq_false_iff, ← Bool.not_eq_true, or_iff_not_imp_left, Classical.not_not, Bool.not_eq_false']
      exact fun h => (signallerFits_iff _ _ _).mpr ((hmoves h).2 _ rfl)

end SignallerTaken

/-! ## What a taken definition leaves -/

section Taken

variable {m : Master} {s : State}

theorem service_may (k : Command) (hk : k ∈ openToClass .service) : ∀ c ∈ [MasterClass.service], mayUse c k = true := by
  intro c hc
  rw [List.mem_singleton.mp hc]
  exact (mayUse_iff _ _).mpr (.inr hk)

theorem defineLine_leaves {x : LineArgs} (hserves : s.serves m [.service]) (hidle : s.store.writing = none)
    (hfits : LineFits x) (hheld : s.profile.line ≠ some ⟨x.count, x.lineEnd⟩) (hview : s.register.view = [])
    (hfree : (s.profile.line.isSome && s.profile.channelInUse) = false) :
    ∃ u, exec (.defineLine m (some x)) s = .next (sendReply m (.done .nothing) u) ∧
      ProfileTaken (s.profile.withLine ⟨x.count, x.lineEnd⟩) s u ∧
      OnlyChanges [.store, .geometryMark, .signallers, .tracker, .intake, .fixUnit, .valves, .watchUnit] s u ∧
      u.signallers = Vector.replicate 32 SigRuntime.fresh ∧
      u.tracker = { s.tracker with flows := Vector.replicate 15 FlowEntry.empty } ∧
      u.intake = { s.intake with entries := [] } ∧ u.fixUnit = { s.fixUnit with unmatched := [] } ∧
      (∀ st : Fin 16, u.valves[st] =
        ⟨.unknown, 0#7, none, none, none, s.now.isSome && decide (st.val < x.count)⟩) ∧
      ∀ st : Fin 16, u.watchUnit.watches[st].state = .off := by
  have hbody : defineLine x s =
      done .nothing (clearLine (takeProfile (s.profile.withLine ⟨x.count, x.lineEnd⟩) s)) :=
    (defineLine_fits hfits hheld).trans (judgeProfile_taken (withLine_passesLock hheld hview) hfree rfl)
  have htaken := profileTaken_takeProfile (s.profile.withLine ⟨x.count, x.lineEnd⟩) s
  have honly := takeProfile_only (s.profile.withLine ⟨x.count, x.lineEnd⟩) s
  have hprofile : (takeProfile (s.profile.withLine ⟨x.count, x.lineEnd⟩) s).profile.count = x.count := by
    rw [takeProfile_profile]
    rfl
  generalize takeProfile (s.profile.withLine ⟨x.count, x.lineEnd⟩) s = t at *
  obtain ⟨hsignallers, htracker, hintake, hfixUnit, hvalves, hwatches⟩ := clearLine_leaves t
  have hpower : t.powered = true := (honly .powered (by simp)).trans hserves.1
  have hnow : t.now = s.now := congrArg LineClock.lineTime (honly .clock (by simp))
  refine ⟨clearLine t, done_idle rfl (service_may _ (by decide)) hserves hidle hbody,
    htaken.of_only (clearLine_only t) (by simp) (by simp), ?_, hsignallers, ?_, ?_, ?_, fun st => ?_, hwatches⟩
  · exact (honly.mono (by simp)).trans ((clearLine_only t).mono (by simp))
  · exact htracker.trans (by rw [honly .tracker (by simp)])
  · exact hintake.trans (by rw [honly .intake (by simp)])
  · exact hfixUnit.trans (by rw [honly .fixUnit (by simp)])
  · rw [hvalves st, hpower, hnow, hprofile, Bool.true_and]

theorem defineStation_leaves {x : StationArgs} (hserves : s.serves m [.service]) (hidle : s.store.writing = none)
    (hline : s.profile.line ≠ none) (hfits : StationFits x s.profile) (hindex : x.index < 16)
    (hchange : s.profile.station? x.index ≠ some (stationFrom x (s.profile.station? x.index)))
    (hplace : stationMoves x s.profile = false ∨ (s.register.view = [] ∧ StationPlace s.profile x.index x.chainage ∧
      StationRoom s.profile x.index (stationFrom x (s.profile.station? x.index)))) :
    ∃ u, exec (.defineStation m (some x)) s = .next (sendReply m (.done .nothing) u) ∧
      ProfileTaken (s.profile.setStation x.index (stationFrom x (s.profile.station? x.index))) s u ∧
      OnlyChanges [.store, .geometryMark] s u := by
  have hlock : PassesLock (s.profile.setStation x.index (stationFrom x (s.profile.station? x.index))) s := by
    refine ⟨fun h => hchange ((setStation_eq_iff hindex _).mp h), hplace.imp (fun h => ?_) (·.1)⟩
    exact (geometryOf_setStation_iff hindex _).mpr (Classical.not_not.mp (of_decide_eq_false h))
  have hbody := (defineStation_fits hfits).trans (judgeProfile_taken hlock rfl (by
    obtain hstays | ⟨-, hplace, hroom⟩ := hplace
    · rw [hstays, Bool.false_and]
    · rw [(stationPlaceOk_iff _ _ _).mpr hplace, (stationFits_iff _ _ _).mpr hroom]
      exact Bool.and_false _))
  exact ⟨_, done_idle rfl (service_may _ (by decide)) hserves hidle ((lineItem_defined hline).trans hbody),
    profileTaken_takeProfile _ s, takeProfile_only _ s⟩

theorem defineReach_leaves {x : ReachArgs} (hserves : s.serves m [.service]) (hidle : s.store.writing = none)
    (hline : s.profile.line ≠ none) (hfits : ReachFits x s.profile) (hindex : x.index < 15)
    (hchange : s.profile.reach? x.index ≠ some (reachFrom x (s.profile.reach? x.index)))
    (hgeometry : (s.profile.reach? x.index).map (·.area) = some x.area ∨ s.register.view = []) :
    ∃ u, exec (.defineReach m (some x)) s = .next (sendReply m (.done .nothing) u) ∧
      ProfileTaken (s.profile.setReach x.index (reachFrom x (s.profile.reach? x.index))) s u ∧
      OnlyChanges [.store, .geometryMark] s u := by
  have hlock : PassesLock (s.profile.setReach x.index (reachFrom x (s.profile.reach? x.index))) s :=
    ⟨fun h => hchange ((setReach_eq_iff hindex _).mp h), hgeometry.imp_left (geometryOf_setReach_iff hindex _).mpr⟩
  have hbody := (defineReach_fits hfits).trans (judgeProfile_taken hlock rfl rfl)
  exact ⟨_, done_idle rfl (service_may _ (by decide)) hserves hidle ((lineItem_defined hline).trans hbody),
    profileTaken_takeProfile _ s, takeProfile_only _ s⟩

end Taken

/-- Settles O34 (R4 to R10): each definition is judged, taken and followed by what it starts anew. -/
theorem geometryIsDefined : Obligations.GeometryIsDefined := by
  intro m s hserves hidle
  refine ⟨fun x hlow hhigh hshort hlong hheld hview hfree => ?_,
    fun x st held hline hcount hindex hchainage hhalf hstroke hheld hst hchange hplace => ?_,
    fun x rc held hline hcount hindex hlow hhigh hstall hflow hheld hrc hchange hgeometry => ?_,
    fun n held new place hline hn hheld hchange hgone hplaced hmoves => ?_⟩
  · refine defineLine_leaves hserves hidle ⟨hlow, hhigh, hshort, hlong⟩ hheld hview ?_
    rw [Bool.and_eq_false_iff, ← Bool.not_eq_true, ← Bool.not_eq_true, or_iff_not_imp_left, Classical.not_not]
    intro hsome hused
    obtain ⟨c, hc⟩ := channelInUse_iff.mp hused
    exact hc (hfree (Option.isSome_iff_ne_none.mp hsome) c)
  · subst hheld hst
    refine defineStation_leaves hserves hidle hline ⟨hcount, hchainage, hhalf, hstroke⟩ hindex hchange
      (hplace.imp_left fun h => decide_eq_false (Classical.not_not.mpr h))
  · subst hheld hrc
    exact defineReach_leaves hserves hidle hline ⟨hcount, hlow, hhigh, hstall, hflow⟩ hindex hchange hgeometry
  · subst hheld
    have hlock : PassesLock (s.profile.setSignaller n new) s :=
      ⟨fun h => hchange ((setSignaller_eq_iff hn _).mp h),
        hmoves.imp (geometryOf_setSignaller_iff hn _).mpr (·.1)⟩
    have hbody := defineSignaller_taken hn hlock hgone hplaced fun h =>
      (hmoves.resolve_left (of_decide_eq_true h)).2
    have htaken := profileTaken_takeProfile (s.profile.setSignaller n new) s
    have honly := takeProfile_only (s.profile.setSignaller n new) s
    generalize takeProfile (s.profile.setSignaller n new) s = t at *
    obtain ⟨hresignal, hsignallers, hintake, hfixUnit⟩ :=
      resignal_leaves (n := n) (held := s.profile.signaller? n) (made := new) t
    refine ⟨_, done_idle rfl (service_may _ (by decide)) hserves hidle ((lineItem_defined hline).trans hbody),
      htaken.of_only hresignal (by simp) (by simp),
      (honly.mono (by simp)).trans (hresignal.mono (by simp)), fun k => ?_, ?_, ?_⟩
    · rw [hsignallers k, honly .signallers (by simp)]
    · rw [hintake, honly .intake (by simp)]
      simp only [sourceMoves, decide_eq_true_eq]
    · rw [hfixUnit, honly .fixUnit (by simp)]
      simp only [sourceMoves, decide_eq_true_eq]

end Sys2Proof.Machine


/-! PROOF. DEFINE TRACKING, DEFINE TRAP and DEFINE MASTER: their checks and what they take (R11 to R13, R72). -/

namespace Sys2Proof.Machine

/-! ## A shortened hold-back (R72) -/

section HandDue

variable {now : Nat} {s : State}

/-- Where the first entry is not due, none is handed. -/
theorem handFirst_waits (h : ∀ e, s.intake.entries.head? = some e → isDue s.profile now e = false) :
    handFirst now s = s := by
  unfold handFirst
  split
  · rfl
  · next e rest hentries =>
    have hwaits := h e (by rw [hentries, List.head?_cons])
    rw [hwaits]
    rfl

theorem handDue_waits (h : ∀ e, s.intake.entries.head? = some e → isDue s.profile now e = false) (n : Nat) :
    handDue now n s = s := by
  induction n with
  | zero => rfl
  | succ n ih => rw [handDue, handFirst_waits h, ih]

/-- Every entry that is due leaves the front of the list. -/
theorem handDue_entries {n : Nat} (hn : s.intake.entries.length ≤ n) :
    (handDue now n s).intake.entries = s.intake.entries.dropWhile (isDue s.profile now) := by
  induction n generalizing s with
  | zero =>
    rw [List.length_eq_zero_iff.mp (Nat.le_zero.mp hn), List.dropWhile_nil]
    exact List.length_eq_zero_iff.mp (Nat.le_zero.mp hn)
  | succ n ih =>
    cases hentries : s.intake.entries with
    | nil =>
      rw [handDue_waits fun e he => by rw [hentries] at he; cases he]
      exact hentries
    | cons e rest =>
      cases hdue : isDue s.profile now e with
      | true =>
        have hfirst := handFirst_intake hentries hdue
        have hleft : (handFirst now s).intake.entries = rest := by rw [hfirst]
        rw [handDue, ih (by rw [hleft]; rw [hentries] at hn; exact Nat.le_of_succ_le_succ hn), hleft, handFirst_profile,
          List.dropWhile_cons_of_pos hdue]
      | false =>
        rw [handDue_waits, List.dropWhile_cons_of_neg (by simp [hdue]), hentries]
        intro x hx
        rw [hentries, List.head?_cons, Option.some.injEq] at hx
        rwa [← hx]

end HandDue

/-! ## DEFINE TRACKING (R11) -/

/-- The fields of DEFINE TRACKING lie in their ranges. -/
def TrackingFits (x : TrackingArgs) : Prop :=
  1 ≤ x.period ∧ x.period ≤ 60 ∧ (∀ n, x.holdBack = some n → n ≤ 120) ∧ ∀ n, x.weight = some n → n ≤ 16

/-- The tracking item that a DEFINE TRACKING makes. -/
def trackingFrom (x : TrackingArgs) (held : Tracking) : Tracking :=
  ⟨x.period, x.holdBack.getD held.holdBack, x.weight.getD held.weight⟩

section Tracking

variable {x : TrackingArgs} {s : State}

theorem trackingFits_iff :
    (within 1 60 x.period && optWithin 0 120 x.holdBack && optWithin 0 16 x.weight) = true ↔ TrackingFits x := by
  simp only [Bool.and_eq_true, within_iff, optWithin_iff, TrackingFits, Nat.zero_le, true_and, and_assoc]

theorem defineTracking_unfit (h : ¬ TrackingFits x) : defineTracking x s = refuse .range s := by
  rw [← trackingFits_iff, Bool.not_eq_true] at h
  rw [defineTracking, h]
  rfl

theorem defineTracking_fits (h : TrackingFits x) : defineTracking x s =
    judgeProfile { s.profile with tracking := trackingFrom x s.profile.tracking } false false
      (shortenHoldBack s.profile.tracking.holdBack) s := by
  rw [defineTracking, trackingFits_iff.mpr h]
  rfl

end Tracking

/-! ## DEFINE TRAP (R12) -/

section Trap

variable {p : Profile} {t : TrapId} {k : TrapParam} {v : Nat}

theorem putTrap_cons (q : TrapParam × Nat) (l : List (TrapParam × Nat)) :
    p.putTrap t (q :: l) = (p.putTrap t [q]).putTrap t l := by
  cases t <;> rfl

theorem trapParam_put_self (hk : k.ofTrap t = true) : (p.putTrap t [(k, v)]).trapParam t k = some v := by
  cases t <;> cases k <;> first | rfl | exact absurd hk (by decide)

theorem trapParam_put_ne {t' : TrapId} {k' : TrapParam} (h : t' ≠ t ∨ k' ≠ k) :
    (p.putTrap t [(k, v)]).trapParam t' k' = p.trapParam t' k' := by
  cases t <;> cases k <;> cases t' <;> first
    | rfl
    | (cases k' <;> first | rfl | exact (h.elim (absurd rfl) (absurd rfl)))

/-- A parameter written with the value that it holds changes nothing. -/
theorem putTrap_held (h : p.trapParam t k = some v) : p.putTrap t [(k, v)] = p := by
  cases t <;> cases k <;> first | (cases h; rfl) | cases h

theorem trapParam_putTrap_ne {t' : TrapId} {k' : TrapParam} {l : List (TrapParam × Nat)}
    (h : t' ≠ t ∨ k' ∉ l.map (·.1)) : (p.putTrap t l).trapParam t' k' = p.trapParam t' k' := by
  induction l generalizing p with
  | nil => cases t <;> rfl
  | cons q l ih =>
    rw [putTrap_cons, ih (h.imp_right fun hk hl => hk (List.mem_cons_of_mem _ hl))]
    exact trapParam_put_ne (h.imp_right fun hk heq => hk (by rw [heq, List.map_cons]; exact List.mem_cons_self))

/-- Each parameter named holds the value given, where none is named twice. -/
theorem trapParam_putTrap_mem {l : List (TrapParam × Nat)} (hnodup : (l.map (·.1)).Nodup)
    (hof : ∀ q ∈ l, q.1.ofTrap t = true) (hmem : (k, v) ∈ l) : (p.putTrap t l).trapParam t k = some v := by
  induction l generalizing p with
  | nil => cases hmem
  | cons q l ih =>
    rw [List.map_cons, List.nodup_cons] at hnodup
    rw [putTrap_cons]
    obtain rfl | hmem := List.mem_cons.mp hmem
    · rw [trapParam_putTrap_ne (.inr hnodup.1), trapParam_put_self (hof _ List.mem_cons_self)]
    · exact ih hnodup.2 (fun r hr => hof r (List.mem_cons_of_mem _ hr)) hmem

theorem putTrap_all_held {l : List (TrapParam × Nat)} (h : ∀ q ∈ l, p.trapParam t q.1 = some q.2) :
    p.putTrap t l = p := by
  induction l with
  | nil => cases t <;> rfl
  | cons q l ih =>
    rw [putTrap_cons, putTrap_held (h q List.mem_cons_self)]
    exact ih fun r hr => h r (List.mem_cons_of_mem _ hr)

theorem putTrap_rest (l : List (TrapParam × Nat)) :
    p.putTrap t l = { p with launch := (p.putTrap t l).launch, receive := (p.putTrap t l).receive } := by
  cases t <;> rfl

theorem geometryOf_putTrap (l : List (TrapParam × Nat)) : geometryOf (p.putTrap t l) = geometryOf p := by
  cases t <;> rfl

end Trap

/-- The pairs of DEFINE TRAP are one to six, of the trap and in range, and none is named twice. -/
def TrapFits (x : TrapArgs) : Prop :=
  1 ≤ x.settings.length ∧ x.settings.length ≤ 6 ∧ (x.settings.map (·.1)).Nodup ∧
    ∀ p ∈ x.settings, TrapTakes x.trap p.2 p.1

section DefineTrap

variable {x : TrapArgs} {s : State}

theorem trapFits_iff : trapArgsOk x = true ↔ TrapFits x := by
  simp only [trapArgsOk, Bool.and_eq_true, within_iff, List.all_eq_true, decide_eq_true_eq, TrapFits, ← trapTakes_iff]
  tauto

theorem ofTrap_of_takes {t : TrapId} {v : Nat} {k : TrapParam} (h : TrapTakes t v k) : k.ofTrap t = true :=
  (Bool.and_eq_true_iff.mp (trapTakes_iff.mpr h)).1

theorem defineTrap_unfit (h : ¬ TrapFits x) : defineTrap x s = refuse .range s :=
  if_pos (by rw [← trapFits_iff] at h; simpa using h)

theorem defineTrap_fits (h : TrapFits x) :
    defineTrap x s = judgeProfile (s.profile.putTrap x.trap x.settings) false false id s :=
  if_neg (by simp [trapFits_iff.mpr h])

end DefineTrap

/-! ## DEFINE MASTER (R13) -/

section DefineMaster

variable {x : MasterArgs} {k : Master} {c : MasterClass} {s : State}

theorem defineMaster_number (h : 5 < x.master) : defineMaster x s = refuse .range s := by
  have hnone : masterIndex x.master = none := dif_neg (by omega)
  simp only [defineMaster, hnone]

theorem contains_service_iff {v : Vector MasterClass 6} :
    (v.set k c).toList.contains .service = true ↔ c = .service ∨ ∃ j : Master, j ≠ k ∧ v[j] = .service := by
  rw [List.contains_iff_mem, Vector.mem_toList_iff, Vector.mem_iff_getElem]
  constructor
  · rintro ⟨i, hi, h⟩
    rw [Vector.getElem_set] at h
    split at h
    · exact .inl h
    · next hne => exact .inr ⟨⟨i, hi⟩, fun heq => hne (by rw [← heq]), h⟩
  · rintro (rfl | ⟨j, hne, hj⟩)
    · exact ⟨k.val, k.isLt, Vector.getElem_set_self _⟩
    · refine ⟨j.val, j.isLt, ?_⟩
      rw [Vector.getElem_set_ne _ _ fun heq => hne (Fin.ext heq.symm)]
      exact hj

theorem defineMaster_last (h : c ≠ .service) (hlast : ∀ j : Master, j ≠ k → s.profile.masters[j] ≠ .service) :
    defineMaster ⟨k.val, c⟩ s = refuse .range s := by
  have hnone : ¬ (s.profile.masters.set k c).toList.contains .service = true := fun hc =>
    (contains_service_iff.mp hc).elim h fun ⟨j, hne, hj⟩ => hlast j hne hj
  simp only [defineMaster, masterIndex_val]
  exact if_neg hnone

theorem defineMaster_keeps (h : c = .service ∨ ∃ j : Master, j ≠ k ∧ s.profile.masters[j] = .service) :
    defineMaster ⟨k.val, c⟩ s =
      judgeProfile { s.profile with masters := s.profile.masters.set k c } false false (setClass k c) s := by
  simp only [defineMaster, masterIndex_val]
  exact if_pos (contains_service_iff.mpr h)

end DefineMaster

/-! ## What the settings leave -/

section Settings

variable {m : Master} {s : State}

theorem shortenHoldBack_short {t : State} {old now : Nat} (hnow : t.now = some now)
    (h : t.profile.tracking.holdBack < old) : shortenHoldBack old t = handDue now t.intake.entries.length t := by
  simp only [shortenHoldBack, hnow]
  exact if_pos h

theorem shortenHoldBack_idle {t : State} {old : Nat} (h : old ≤ t.profile.tracking.holdBack ∨ t.now = none) :
    shortenHoldBack old t = t := by
  cases hnow : t.now with
  | none => simp only [shortenHoldBack, hnow]
  | some now =>
    simp only [shortenHoldBack, hnow]
    exact if_neg (Nat.not_lt.mpr (h.resolve_right (by rw [hnow]; exact Option.some_ne_none _)))

theorem shortenHoldBack_only (old : Nat) (t : State) : OnlyChanges handBlocks t (shortenHoldBack old t) := by
  unfold shortenHoldBack
  split
  · split
    · exact handDue_only _ _ t
    · exact OnlyChanges.refl _ t
  · exact OnlyChanges.refl _ t

theorem defineTracking_leaves {x : TrackingArgs} (hserves : s.serves m [.service]) (hidle : s.store.writing = none)
    (hfits : TrackingFits x) (hchange : trackingFrom x s.profile.tracking ≠ s.profile.tracking) :
    ∃ b, ProfileTaken { s.profile with tracking := trackingFrom x s.profile.tracking } s b ∧ OnlyChanges [.store] s b ∧
      b.profile.tracking = trackingFrom x s.profile.tracking ∧
      exec (.defineTracking m (some x)) s =
        .next (sendReply m (.done .nothing) (shortenHoldBack s.profile.tracking.holdBack b)) := by
  refine ⟨takeProfile { s.profile with tracking := trackingFrom x s.profile.tracking } s,
    profileTaken_takeProfile _ s, takeProfile_only_store rfl, by rw [takeProfile_profile], ?_⟩
  refine done_idle rfl (service_may _ (by decide)) hserves hidle ((defineTracking_fits hfits).trans ?_)
  exact judgeProfile_taken ⟨fun h => hchange (congrArg Profile.tracking h), .inl rfl⟩ rfl rfl

theorem defineTrap_leaves {x : TrapArgs} (hserves : s.serves m [.service]) (hidle : s.store.writing = none)
    (hfits : TrapFits x) (hchange : s.profile.putTrap x.trap x.settings ≠ s.profile) :
    ∃ u, exec (.defineTrap m (some x)) s = .next (sendReply m (.done .nothing) u) ∧
      ProfileTaken (s.profile.putTrap x.trap x.settings) s u ∧ OnlyChanges [.store] s u ∧
      u.profile = s.profile.putTrap x.trap x.settings :=
  ⟨_, done_idle rfl (service_may _ (by decide)) hserves hidle
      ((defineTrap_fits hfits).trans (judgeProfile_taken ⟨hchange, .inl (geometryOf_putTrap _)⟩ rfl rfl)),
    profileTaken_takeProfile _ s, takeProfile_only_store (geometryOf_putTrap _), takeProfile_profile _ s⟩

theorem defineMaster_leaves {k : Master} {c : MasterClass} (hserves : s.serves m [.service])
    (hidle : s.store.writing = none) (hchange : s.profile.masters[k] ≠ c)
    (hservice : c = .service ∨ ∃ j : Master, j ≠ k ∧ s.profile.masters[j] = .service) :
    ∃ u, exec (.defineMaster m (some ⟨k.val, c⟩)) s = .next (sendReply m (.done .nothing) u) ∧
      ProfileTaken { s.profile with masters := s.profile.masters.set k c } s u ∧
      OnlyChanges [.store, .port] s u ∧ u.port = s.port.setContext k { s.context k with cls := c } := by
  have hne : ({ s.profile with masters := s.profile.masters.set k c } : Profile) ≠ s.profile := fun h =>
    set_ne_self hchange (congrArg Profile.masters h)
  have hbody := (defineMaster_keeps hservice).trans (judgeProfile_taken ⟨hne, .inl rfl⟩ rfl rfl)
  have hexec := done_idle (m := m) (i := .defineMaster m (some ⟨k.val, c⟩)) rfl (service_may _ (by decide)) hserves hidle
    hbody
  have htaken := profileTaken_takeProfile { s.profile with masters := s.profile.masters.set k c } s
  have honly : OnlyChanges [.store] s (takeProfile { s.profile with masters := s.profile.masters.set k c } s) :=
    takeProfile_only_store rfl
  generalize takeProfile { s.profile with masters := s.profile.masters.set k c } s = t at *
  have hport : t.port = s.port := honly .port (by simp)
  refine ⟨_, hexec, htaken.of_only (setContext_only t k _) (by simp) (by simp),
    (honly.mono (by simp)).then (setContext_only t k _) (by simp), ?_⟩
  change t.port.setContext k { t.port.contexts[k] with cls := c } = _
  rw [hport]
  rfl

end Settings

/-- Settles O35 (R11 to R13, R72). -/
theorem settingsAreDefined : Obligations.SettingsAreDefined := by
  intro m s hserves hidle
  refine ⟨fun x k hlow hhigh hhold hweight hk hchange => ?_, fun x hone hsix hnodup htakes hchange => ?_,
    fun k c hchange => ⟨fun hlast hc => ?_, fun hservice => defineMaster_leaves hserves hidle hchange hservice⟩⟩
  · have hfits : TrackingFits x := by
      rw [← trackingFits_iff, hhold, hweight, within_iff.mpr ⟨hlow, hhigh⟩]
      rfl
    obtain rfl : k = trackingFrom x s.profile.tracking := hk
    obtain ⟨b, htaken, honly, htracking, hexec⟩ := defineTracking_leaves hserves hidle hfits hchange
    have hnowb : b.now = s.now := congrArg LineClock.lineTime (honly .clock (by simp))
    have hentries : b.intake.entries = s.intake.entries := by rw [honly .intake (by simp)]
    refine ⟨_, hexec, htaken.of_only (shortenHoldBack_only _ b) (by simp [handBlocks]) (by simp [handBlocks]),
      fun hlong => ?_, fun now hnow hshort => ?_⟩
    · rwa [shortenHoldBack_idle (by rwa [htracking, hnowb])]
    · have hdue : isDue b.profile now = fun e =>
          decide (min (e.time + (trackingFrom x s.profile.tracking).holdBack * 10) 4294967295 ≤ now) := by
        funext e
        rw [isDue, dueTime, htracking]
        rfl
      rw [shortenHoldBack_short (hnowb.trans hnow) (by rwa [htracking]), hentries]
      refine ⟨?_, fun hwaits => ?_, b, htaken, honly, rfl⟩
      · rw [handDue_entries (Nat.le_of_eq (by rw [hentries])), hentries, hdue]
      · rw [handDue_waits]
        · exact honly
        · intro e he
          rw [hdue]
          exact decide_eq_false (Nat.not_le.mpr (hwaits e (by rwa [hentries] at he)))
  · have hof : ∀ q ∈ x.settings, q.1.ofTrap x.trap = true := fun q hq => ofTrap_of_takes (htakes q hq)
    have hne : s.profile.putTrap x.trap x.settings ≠ s.profile := by
      intro h
      obtain ⟨⟨q, v⟩, hmem, hq⟩ := hchange
      have hset := trapParam_putTrap_mem (p := s.profile) hnodup hof hmem
      rw [h] at hset
      exact hq hset
    obtain ⟨u, hexec, htaken, honly, hprofile⟩ := defineTrap_leaves hserves hidle ⟨hone, hsix, hnodup, htakes⟩ hne
    refine ⟨u, hexec, by rwa [hprofile], honly, ?_, fun t k => ⟨fun v ht hmem => ?_, fun hout => ?_⟩⟩
    · rw [hprofile]
      exact putTrap_rest _
    · rw [hprofile, ht]
      exact trapParam_putTrap_mem hnodup hof hmem
    · rw [hprofile]
      exact trapParam_putTrap_ne hout
  · exact refuses_idle rfl rfl (service_may _ (by decide)) hserves hidle (defineMaster_last hc hlast)

end Sys2Proof.Machine


/-! PROOF. SET CHANNEL MODE and SET WATCH: their checks; and what turns a profile command away (R88, R137, R2 to R14). -/

namespace Sys2Proof.Machine

/-! ## SET CHANNEL MODE (R88) -/

section SetChannel

variable {x : ChannelArgs} {c : Fin 8} {s : State}

theorem setChannelMode_number (h : 7 < x.channel) : setChannelMode x s = refuse .range s := by
  have hnone : channelIndex x.channel = none := dif_neg (by omega)
  simp only [setChannelMode, hnone]

theorem setChannelMode_unfit (hc : x.channel = c.val) (h : ¬ ChannelFits s.profile c x) :
    setChannelMode x s = refuse .range s := by
  simp only [setChannelMode, hc, channelIndex_val]
  exact if_neg fun hrange => h (channelInRange_iff.mp hrange)

theorem setChannelMode_fits (hc : x.channel = c.val) (h : ChannelFits s.profile c x) : setChannelMode x s =
    judgeProfile
      { s.profile with channels := s.profile.channels.set c (channelFrom x s.profile.channels[c]) }
      (channelConflict s.profile c (channelFrom x s.profile.channels[c])) false
      (rechannel c s.profile.channels[c] (channelFrom x s.profile.channels[c])) s := by
  simp only [setChannelMode, hc, channelIndex_val]
  exact if_pos (channelInRange_iff.mpr h)

end SetChannel

/-! ## SET WATCH (R137) -/

section SetWatch

variable {x : WatchArgs} {st : Fin 16} {s : State}

theorem setWatch_number (h : 15 < x.station) : setWatch x s = refuse .range s := by
  have hnone : watchIndex x.station = none := dif_neg (by omega)
  simp only [setWatch, hnone]

theorem setWatch_unfit (hst : x.station = st.val) (h : ¬ WatchFits s.profile.watches[st] x) :
    setWatch x s = refuse .range s := by
  simp only [setWatch, hst, watchIndex_val]
  exact if_neg fun hrange => h (watchInRange_iff.mp hrange)

theorem setWatch_fits (hst : x.station = st.val) (h : WatchFits s.profile.watches[st] x) : setWatch x s =
    judgeProfile
      { s.profile with watches := s.profile.watches.set st (watchFrom x s.profile.watches[st]) } false false
      (rewatch st s.profile.watches[st] (watchFrom x s.profile.watches[st])) s := by
  simp only [setWatch, hst, watchIndex_val]
  exact if_pos (watchInRange_iff.mpr h)

end SetWatch

/-! ## What turns a profile command away -/

section Guards

variable {i : Instr} {m : Master} {k : Command} {s : State}

theorem serviceOrDispatch_may : ∀ c ∈ [MasterClass.service, .dispatch], mayUse c .setWatch = true := by decide

/-- A SERVICE command of the profile. -/
theorem profileCommand_may (hk : k ∈ [Command.defineLine, .defineStation, .defineReach, .defineSignaller, .defineTracking,
    .defineTrap, .defineMaster, .setChannelMode]) : k ∈ storeCommands ∧ k ∈ openToClass .service := by
  revert hk
  cases k <;> decide

theorem guards_wait (hwriting : s.store.writing ≠ none) (hi : i.request = some (m, k))
    (h : (s.serves m [.service] ∧ k ∈ [Command.defineLine, .defineStation, .defineReach, .defineSignaller,
        .defineTracking, .defineTrap, .defineMaster, .setChannelMode]) ∨
      (s.serves m [.service, .dispatch] ∧ k = .setWatch) ∨ (s.powered = true ∧ k = .readProfile)) :
    AnswersOnly i .wait s := by
  obtain ⟨hserves, hk⟩ | ⟨hserves, rfl⟩ | ⟨hpower, rfl⟩ := h
  · obtain ⟨hstore, hopen⟩ := profileCommand_may hk
    exact waits_of hi hstore hserves.1 (mayUse_class hserves (service_may k hopen)) hwriting
  · exact waits_of hi (by decide) hserves.1 (mayUse_class hserves serviceOrDispatch_may) hwriting
  · exact waits_of hi (by decide) hpower (mayUse_all (by decide) _) hwriting

theorem guards_undefined (hserves : s.serves m [.service]) (hidle : s.store.writing = none)
    (hline : s.profile.line = none) (hi : i.request = some (m, k))
    (hk : k ∈ [Command.defineStation, .defineReach, .defineSignaller]) : Refuses i .state s := by
  have hmay := service_may k (by revert hk; cases k <;> decide)
  cases i <;> simp only [Instr.request, Option.some.injEq, Prod.mk.injEq, reduceCtorEq] at hi <;>
    obtain ⟨rfl, rfl⟩ := hi <;> first
      | exact absurd hk (by decide)
      | exact refuses_idle rfl rfl hmay hserves hidle (lineItem_undefined hline)

end Guards

section Refusals

variable {m : Master} {s : State}

/-- What DEFINE LINE answers where it is not taken. -/
theorem defineLine_guards {x : LineArgs} (hserves : s.serves m [.service]) (hidle : s.store.writing = none)
    (hfits : LineFits x) :
    (s.profile.line = some ⟨x.count, x.lineEnd⟩ → AnswersOnly (.defineLine m (some x)) (.done .nothing) s) ∧
      (s.profile.line ≠ some ⟨x.count, x.lineEnd⟩ → s.register.view ≠ [] →
        Refuses (.defineLine m (some x)) .locked s) ∧
      (s.profile.line ≠ none → s.profile.line ≠ some ⟨x.count, x.lineEnd⟩ → s.register.view = [] →
        (∃ c : Fin 8, s.profile.channels[c].mode ≠ .off) → Refuses (.defineLine m (some x)) .state s) := by
  have hrefused : ∀ {r}, defineLine x s = refuse r s → Refuses (.defineLine m (some x)) r s := fun h =>
    refuses_idle rfl rfl (service_may _ (by decide)) hserves hidle h
  refine ⟨fun hheld => ?_, fun hheld hview => hrefused ?_, fun hline hheld hview hused => hrefused ?_⟩
  · exact ⟨m, _, rfl, done_idle rfl (service_may _ (by decide)) hserves hidle (defineLine_held hfits hheld)⟩
  · exact (defineLine_fits hfits hheld).trans (judgeProfile_locked (geometryOf_withLine_ne hheld) hview)
  · refine (defineLine_fits hfits hheld).trans (judgeProfile_conflict (withLine_passesLock hheld hview) ?_)
    rw [channelInUse_iff.mpr hused, Option.isSome_iff_ne_none.mpr hline]
    rfl

theorem defineStation_guards {x : StationArgs} (hserves : s.serves m [.service]) (hidle : s.store.writing = none)
    (hline : s.profile.line ≠ none) :
    (¬ StationFits x s.profile → Refuses (.defineStation m (some x)) .range s) ∧
      (StationFits x s.profile → x.index < 16 → stationMoves x s.profile = true → s.register.view ≠ [] →
        Refuses (.defineStation m (some x)) .locked s) ∧
      (StationFits x s.profile → x.index < 16 → stationMoves x s.profile = true → s.register.view = [] →
        ¬ (StationPlace s.profile x.index x.chainage ∧
          StationRoom s.profile x.index (stationFrom x (s.profile.station? x.index))) →
        Refuses (.defineStation m (some x)) .range s) := by
  have hrefused : ∀ {r}, defineStation x s = refuse r s → Refuses (.defineStation m (some x)) r s := fun h =>
    refuses_idle rfl rfl (service_may _ (by decide)) hserves hidle ((lineItem_defined hline).trans h)
  have hgeometry : x.index < 16 → stationMoves x s.profile = true →
      geometryOf (s.profile.setStation x.index (stationFrom x (s.profile.station? x.index))) ≠ geometryOf s.profile :=
    fun hindex hmoves h => of_decide_eq_true hmoves ((geometryOf_setStation_iff hindex _).mp h)
  refine ⟨fun h => hrefused (defineStation_unfit h), fun hfits hindex hmoves hview => hrefused ?_,
    fun hfits hindex hmoves hview hplace => hrefused ?_⟩
  · exact (defineStation_fits hfits).trans (judgeProfile_locked (hgeometry hindex hmoves) hview)
  · refine (defineStation_fits hfits).trans (judgeProfile_breaks ⟨fun h => ?_, .inr hview⟩ rfl ?_)
    · exact hgeometry hindex hmoves (congrArg geometryOf h)
    · rw [hmoves, Bool.true_and, Bool.not_eq_true', Bool.eq_false_iff]
      intro hboth
      obtain ⟨hp, hr⟩ := Bool.and_eq_true_iff.mp hboth
      exact hplace ⟨(stationPlaceOk_iff _ _ _).mp hp, (stationFits_iff _ _ _).mp hr⟩

theorem defineReach_guards {x : ReachArgs} (hserves : s.serves m [.service]) (hidle : s.store.writing = none)
    (hline : s.profile.line ≠ none) :
    (¬ ReachFits x s.profile → Refuses (.defineReach m (some x)) .range s) ∧
      (ReachFits x s.profile → x.index < 15 → (s.profile.reach? x.index).map (·.area) ≠ some x.area →
        s.register.view ≠ [] → Refuses (.defineReach m (some x)) .locked s) := by
  have hrefused : ∀ {r}, defineReach x s = refuse r s → Refuses (.defineReach m (some x)) r s := fun h =>
    refuses_idle rfl rfl (service_may _ (by decide)) hserves hidle ((lineItem_defined hline).trans h)
  refine ⟨fun h => hrefused (defineReach_unfit h), fun hfits hindex hmoves hview => hrefused ?_⟩
  exact (defineReach_fits hfits).trans
    (judgeProfile_locked (fun h => hmoves ((geometryOf_setReach_iff hindex _).mp h)) hview)

/-- What becomes of a signaller in its range that changes the geometry. -/
theorem defineSignaller_changes {n : Nat} {place : Option SignallerPlace} (hfits : SignallerFits ⟨n, place⟩)
    (hmoves : (s.profile.signaller? n).map (fun h => (h.source, h.chainage)) ≠
      place.map (fun pl => (pl.source, pl.chainage))) :
    ∃ p breaks after, geometryOf p ≠ geometryOf s.profile ∧
      defineSignaller ⟨n, place⟩ s = judgeProfile p (s.profile.channelOn n) breaks after s ∧
      ∀ pl, place = some pl → breaks = !s.profile.signallerFits n pl.chainage := by
  obtain ⟨hn, hplace⟩ := hfits
  have hlow : n < 32 := Nat.lt_succ_of_le hn
  cases place with
  | none =>
    exact ⟨_, _, _, fun h => hmoves ((geometryOf_setSignaller_iff hlow none).mp h), defineSignaller_removes hn,
      fun pl hpl => by cases hpl⟩
  | some pl =>
    obtain ⟨hchainage, hwindow⟩ := hplace pl rfl
    have hsource : sourceMoves (s.profile.signaller? n) (some (signallerFrom pl (s.profile.signaller? n))) = true :=
      decide_eq_true hmoves
    have hbody := defineSignaller_places (s := s) hn hchainage hwindow
    rw [hsource, Bool.true_and, Bool.true_and] at hbody
    exact ⟨_, _, _, fun h => hmoves ((geometryOf_setSignaller_iff hlow (some (signallerFrom pl _))).mp h), hbody, fun q hq => by cases hq; rfl⟩

theorem defineSignaller_guards {n : Nat} {place : Option SignallerPlace} (hserves : s.serves m [.service])
    (hidle : s.store.writing = none) (hline : s.profile.line ≠ none) :
    let i := Instr.defineSignaller m (some ⟨n, place⟩)
    let moves := (s.profile.signaller? n).map (fun h => (h.source, h.chainage)) ≠
      place.map (fun pl => (pl.source, pl.chainage))
    (¬ SignallerFits ⟨n, place⟩ → Refuses i .range s) ∧
      (SignallerFits ⟨n, place⟩ → place = none → s.profile.signaller? n = none → AnswersOnly i (.done .nothing) s) ∧
      (SignallerFits ⟨n, place⟩ → moves → s.register.view ≠ [] → Refuses i .locked s) ∧
      (SignallerFits ⟨n, place⟩ → moves → s.register.view = [] → s.profile.channelOn n = true → Refuses i .state s) ∧
      (SignallerFits ⟨n, place⟩ → moves → s.register.view = [] → s.profile.channelOn n = false → ∀ pl, place = some pl →
        ¬ SignallerRoom s.profile n pl.chainage → Refuses i .range s) := by
  intro i moves
  have hrefused : ∀ {r}, defineSignaller ⟨n, place⟩ s = refuse r s → Refuses i r s := fun h =>
    refuses_idle rfl rfl (service_may _ (by decide)) hserves hidle ((lineItem_defined hline).trans h)
  refine ⟨fun h => hrefused (defineSignaller_unfit h), fun hfits hnone hheld => ?_,
    fun hfits hmoves hview => hrefused ?_, fun hfits hmoves hview hused => hrefused ?_,
    fun hfits hmoves hview hfree pl hpl hroom => hrefused ?_⟩
  · subst hnone
    have hbody := (defineSignaller_removes (s := s) hfits.1).trans
      (judgeProfile_same ((setSignaller_eq_iff (Nat.lt_succ_of_le hfits.1) _).mpr hheld))
    exact ⟨m, _, rfl, done_idle rfl (service_may _ (by decide)) hserves hidle ((lineItem_defined hline).trans hbody)⟩
  all_goals obtain ⟨p, breaks, after, hgeometry, hbody, hbreaks⟩ := defineSignaller_changes hfits hmoves
  · exact hbody.trans (judgeProfile_locked hgeometry hview)
  · exact hbody.trans (judgeProfile_conflict ⟨fun h => hgeometry (congrArg geometryOf h), .inr hview⟩ hused)
  · refine hbody.trans (judgeProfile_breaks ⟨fun h => hgeometry (congrArg geometryOf h), .inr hview⟩ hfree ?_)
    rw [hbreaks pl hpl, Bool.not_eq_true', Bool.eq_false_iff]
    exact fun h => hroom ((signallerFits_iff _ _ _).mp h)

theorem defineTracking_guards {x : TrackingArgs} (hserves : s.serves m [.service]) (hidle : s.store.writing = none) :
    (¬ TrackingFits x → Refuses (.defineTracking m (some x)) .range s) ∧
      (TrackingFits x → trackingFrom x s.profile.tracking = s.profile.tracking →
        AnswersOnly (.defineTracking m (some x)) (.done .nothing) s) := by
  refine ⟨fun h => refuses_idle rfl rfl (service_may _ (by decide)) hserves hidle (defineTracking_unfit h),
    fun hfits hheld => ⟨m, _, rfl, done_idle rfl (service_may _ (by decide)) hserves hidle ?_⟩⟩
  exact (defineTracking_fits hfits).trans (judgeProfile_same (by rw [hheld]))

theorem defineTrap_guards {x : TrapArgs} (hserves : s.serves m [.service]) (hidle : s.store.writing = none) :
    (¬ TrapFits x → Refuses (.defineTrap m (some x)) .range s) ∧
      (TrapFits x → (∀ p ∈ x.settings, s.profile.trapParam x.trap p.1 = some p.2) →
        AnswersOnly (.defineTrap m (some x)) (.done .nothing) s) := by
  refine ⟨fun h => refuses_idle rfl rfl (service_may _ (by decide)) hserves hidle (defineTrap_unfit h),
    fun hfits hheld => ⟨m, _, rfl, done_idle rfl (service_may _ (by decide)) hserves hidle ?_⟩⟩
  exact (defineTrap_fits hfits).trans (judgeProfile_same (putTrap_all_held hheld))

theorem defineMaster_guards {k : Master} (hserves : s.serves m [.service]) (hidle : s.store.writing = none)
    (hservice : ∃ j : Master, s.profile.masters[j] = .service) :
    AnswersOnly (.defineMaster m (some ⟨k.val, s.profile.masters[k]⟩)) (.done .nothing) s := by
  have hkeeps : s.profile.masters[k] = .service ∨ ∃ j : Master, j ≠ k ∧ s.profile.masters[j] = .service := by
    obtain ⟨j, hj⟩ := hservice
    by_cases hjk : j = k
    · exact .inl (hjk ▸ hj)
    · exact .inr ⟨j, hjk, hj⟩
  have hsame : s.profile.masters.set k s.profile.masters[k] = s.profile.masters := Vector.set_getElem_self _
  refine ⟨m, _, rfl, done_idle rfl (service_may _ (by decide)) hserves hidle ?_⟩
  exact (defineMaster_keeps hkeeps).trans (judgeProfile_same (by rw [hsame]))

theorem setChannelMode_guards {x : ChannelArgs} {c : Fin 8} (hserves : s.serves m [.service])
    (hidle : s.store.writing = none) (hc : x.channel = c.val) :
    let i := Instr.setChannelMode m (some x)
    let unchanged := channelFrom x s.profile.channels[c] = s.profile.channels[c]
    (¬ ChannelFits s.profile c x → Refuses i .range s) ∧
      (ChannelFits s.profile c x → unchanged → AnswersOnly i (.done .nothing) s) ∧
      (ChannelFits s.profile c x → ¬ unchanged → ChannelConflicts s.profile c x → Refuses i .state s) := by
  intro i unchanged
  have hrefused : ∀ {r}, setChannelMode x s = refuse r s → Refuses i r s := fun h =>
    refuses_idle rfl rfl (service_may _ (by decide)) hserves hidle h
  refine ⟨fun h => hrefused (setChannelMode_unfit hc h), fun hfits hheld => ?_, fun hfits hchange hconflict => hrefused ?_⟩
  · have hsame : s.profile.channels.set c s.profile.channels[c] = s.profile.channels := Vector.set_getElem_self _
    refine ⟨m, _, rfl, done_idle rfl (service_may _ (by decide)) hserves hidle ?_⟩
    refine (setChannelMode_fits hc hfits).trans (judgeProfile_same ?_)
    rw [show channelFrom x s.profile.channels[c] = s.profile.channels[c] from hheld, hsame]
  · refine (setChannelMode_fits hc hfits).trans (judgeProfile_conflict ⟨fun h => ?_, .inl rfl⟩
      (channelConflict_iff.mpr hconflict))
    exact set_ne_self (fun h => hchange h.symm) (congrArg Profile.channels h)

theorem setWatch_guards {x : WatchArgs} {st : Fin 16} (hserves : s.serves m [.service, .dispatch])
    (hidle : s.store.writing = none) (hst : x.station = st.val) :
    (¬ WatchFits s.profile.watches[st] x → Refuses (.setWatch m (some x)) .range s) ∧
      (WatchFits s.profile.watches[st] x → watchFrom x s.profile.watches[st] = s.profile.watches[st] →
        AnswersOnly (.setWatch m (some x)) (.done .nothing) s) := by
  refine ⟨fun h => refuses_idle rfl rfl serviceOrDispatch_may hserves hidle (setWatch_unfit hst h),
    fun hfits hheld => ⟨m, _, rfl, done_idle rfl serviceOrDispatch_may hserves hidle ?_⟩⟩
  have hsame : s.profile.watches.set st s.profile.watches[st] = s.profile.watches := Vector.set_getElem_self _
  refine (setWatch_fits hst hfits).trans (judgeProfile_same ?_)
  rw [hheld, hsame]

/-- The end of a store write. -/
theorem storeWrite_ends (hpower : s.powered = true) :
    exec .storeWriteComplete s = .next ((s.setStore s.store.finishWrite).setReply none) :=
  happen_powered (f := fun s => s.setStore s.store.finishWrite) hpower

end Refusals

/-- Settles O37 (R1 to R14, R88, R137): one group of refusals for each command of the profile, and the end of a write. -/
theorem profileStoreGuards : Obligations.ProfileStoreGuards := by
  refine ⟨fun m i k s hwriting hi h => guards_wait hwriting hi h,
    fun m i k s hserves hidle hline hi hk => guards_undefined hserves hidle hline hi hk,
    fun m x s hserves hidle h1 h2 h3 h4 => defineLine_guards hserves hidle ⟨h1, h2, h3, h4⟩,
    fun m x s hserves hidle hout => ?_, fun m x s hserves hidle hline => ?_, fun m x s hserves hidle hline => ?_,
    fun m n place s hserves hidle hline => ?_, fun m s hserves hidle => ?_, fun m s hserves hidle => ?_,
    fun s hpower => ?_⟩
  · refine refuses_idle rfl rfl (service_may _ (by decide)) hserves hidle (defineLine_unfit ?_)
    rintro ⟨h1, h2, h3, h4⟩
    omega
  · obtain ⟨hrange, hlocked, hplace⟩ := defineStation_guards (x := x) hserves hidle hline
    refine ⟨hrange, fun hfits hindex hmoves => hlocked hfits hindex (decide_eq_true hmoves),
      fun hfits hindex hmoves hview hout => hplace hfits hindex (decide_eq_true hmoves) hview ?_⟩
    rintro ⟨hp, hr⟩
    exact hout.elim (fun h => h hp) (fun h => h _ hr)
  · obtain ⟨hrange, hlocked⟩ := defineReach_guards (x := x) hserves hidle hline
    refine ⟨fun hout => hrange ?_, fun hcount hindex hlow hhigh hstall hflow =>
      hlocked ⟨hcount, hlow, hhigh, hstall, hflow⟩ hindex⟩
    rintro ⟨hcount, hlow, hhigh, hstall, hflow⟩
    rw [hstall, hflow] at hout
    simp only [reduceCtorEq, or_false] at hout
    omega
  · obtain ⟨hrange, hsame, hlocked, hassigned, hroom⟩ :=
      defineSignaller_guards (n := n) (place := place) hserves hidle hline
    refine ⟨hrange, hsame, hlocked, fun hfits hmoves hview hused => hassigned hfits hmoves hview (channelOn_iff.mpr hused),
      fun hfits hmoves hview hfree => hroom hfits hmoves hview ?_⟩
    rw [Bool.eq_false_iff]
    exact fun h => hfree (channelOn_iff.mp h)
  · refine ⟨fun i hi => ?_, fun hline i hi => ?_, fun x => ?_,
      fun x => defineTrap_guards hserves hidle, fun x hx => ?_, fun k hservice => defineMaster_guards hserves hidle hservice,
      fun x hx => ?_, fun x c hc => setChannelMode_guards hserves hidle hc⟩
    · simp only [List.mem_cons, List.not_mem_nil, or_false] at hi
      obtain rfl | rfl | rfl | rfl | rfl := hi <;>
        exact refuses_idle rfl rfl (service_may _ (by decide)) hserves hidle (withParams_none _ s)
    · simp only [List.mem_cons, List.not_mem_nil, or_false] at hi
      obtain rfl | rfl | rfl := hi <;>
        exact refuses_idle rfl rfl (service_may _ (by decide)) hserves hidle
          ((lineItem_defined hline).trans (withParams_none _ s))
    · obtain ⟨hrange, hsame⟩ := defineTracking_guards (x := x) hserves hidle
      refine ⟨hrange, fun hfits hperiod hhold hweight => hsame hfits ?_⟩
      rw [trackingFrom, hperiod, hhold, hweight]
    · exact refuses_idle rfl rfl (service_may _ (by decide)) hserves hidle (defineMaster_number hx)
    · exact refuses_idle rfl rfl (service_may _ (by decide)) hserves hidle (setChannelMode_number hx)
  · refine ⟨refuses_idle rfl rfl serviceOrDispatch_may hserves hidle (withParams_none _ s), fun x hx => ?_,
      fun x st hst => setWatch_guards hserves hidle hst⟩
    exact refuses_idle rfl rfl serviceOrDispatch_may hserves hidle (setWatch_number hx)
  · refine ⟨_, storeWrite_ends hpower, ((setStore_only s _).mono (by simp)).then (setReply_only _ _) (by simp), rfl,
      finishWrite_none, fun slot hslot => finishWrite_leaves hslot⟩

end Sys2Proof.Machine


/-! PROOF. SET CHANNEL MODE and SET WATCH taken (R88, R89, R137, R138). -/

namespace Sys2Proof.Machine

/-! ## SET CHANNEL MODE taken (R89) -/

section ChannelTaken

variable {c : Fin 8} {old new : ChanCfg} {t : State}

theorem measuring_some {mode : ChanMode} {f : Flight} {now : Nat} (h : measuring mode c t = some (f, now)) :
    (t.channel c).flight = some f ∧ (t.chanCfg c).mode = mode := by
  unfold measuring at h
  split at h
  · next hflight =>
    split at h
    · next hmode =>
      cases h
      exact ⟨hflight, hmode.1⟩
    · cases h
  · cases h

/-- A PAIR whose interval has not passed stays in flight. -/
theorem pairRunsOut_waits {overrun ms : Nat} (h : (t.chanCfg c).mode = .pair → ∀ f, (t.channel c).flight = some f →
    f.elapsed ms < (t.chanCfg c).interval) : pairRunsOut overrun c ms t = t := by
  unfold pairRunsOut
  split
  · next f now hmeasuring =>
    obtain ⟨hflight, hmode⟩ := measuring_some hmeasuring
    exact if_neg (Nat.not_le.mpr (Nat.lt_of_lt_of_le (h hmode f hflight) (Nat.le_add_right _ _)))
  · rfl

theorem rechannel_limits (hmode : old.mode = new.mode) (hsignaller : old.signaller = new.signaller) :
    rechannel c old new t = pairRunsOut 0 c t.inputUnit.msTimer t := if_pos ⟨hmode, hsignaller⟩

theorem rechannel_restarts (h : new.mode ≠ old.mode ∨ new.signaller ≠ old.signaller) :
    rechannel c old new t = restartChannel c t :=
  if_neg fun hsame => h.elim (fun hm => hm hsame.1.symm) (fun hs => hs hsame.2.symm)

theorem restartChannel_inputUnit :
    (restartChannel c t).inputUnit = { t.inputUnit with channels :=
      (t.inputUnit.channels.set c ⟨(match t.now, (t.chanCfg c).mode with
        | none, _ => .idle
        | some _, .off => .idle
        | some _, .contact => if t.inputUnit.inputs[c] then .tripped else .armed
        | some _, .pulse => .armed
        | some _, .pair => .armed), none, none, 0, 0, 0, 0, none⟩) } := by
  have hinput := input_val t c
  rw [restartChannel]
  cases t.now with
  | none => rfl
  | some now =>
    rw [hinput]
    cases (t.chanCfg c).mode <;> rfl

/-- SET CHANNEL MODE where the profile takes its item. -/
theorem setChannelMode_leaves {m : Master} {x : ChannelArgs} {s : State} (hserves : s.serves m [.service])
    (hidle : s.store.writing = none) (hc : x.channel = c.val) (hfits : ChannelFits s.profile c x)
    (hfree : ¬ ChannelConflicts s.profile c x) (hchange : channelFrom x s.profile.channels[c] ≠ s.profile.channels[c]) :
    exec (.setChannelMode m (some x)) s = .next (sendReply m (.done .nothing)
      (rechannel c s.profile.channels[c] (channelFrom x s.profile.channels[c])
        (takeProfile { s.profile with
          channels := s.profile.channels.set c (channelFrom x s.profile.channels[c]) } s))) := by
  have hconflict : channelConflict s.profile c (channelFrom x s.profile.channels[c]) = false := by
    rw [Bool.eq_false_iff]
    exact fun h => hfree (channelConflict_iff.mp h)
  exact done_idle rfl (service_may _ (by decide)) hserves hidle ((setChannelMode_fits hc hfits).trans
    (judgeProfile_taken
      ⟨fun h => set_ne_self (fun h => hchange h.symm) (congrArg Profile.channels h), .inl rfl⟩ hconflict rfl))

end ChannelTaken

/-! ## SET WATCH taken (R138) -/

section WatchTaken

variable {st : Fin 16} {old new : WatchCfg} {t : State}

/-- The runtime that starts the watch anew. -/
def startedAnew (st : Fin 16) (t : State) : Watch :=
  { t.watchStart st with lastJudged := t.watchUnit.watches[st].lastJudged }

/-- The runtime that goes on under the configuration now set. -/
def goesOn (st : Fin 16) (new : WatchCfg) (t : State) : Watch := (t.watchUnit.watches[st].unlatch new).redelay new

/-- Enabled or the source changes. -/
def restarts (old new : WatchCfg) : Prop := old.enabled ≠ new.enabled ∨ old.source ≠ new.source

theorem rewatch_restarts (h : restarts old new) : rewatch st old new t =
    judgeOne st (applyHold st (t.setWatch st (startedAnew st t))) := if_pos h

theorem rewatch_goesOn (h : ¬ restarts old new) : rewatch st old new t =
    judgeOne st (applyHold st (settleDelay st (t.setWatch st (goesOn st new t)))) := if_neg h

theorem setWatch_watch (t : State) (a : Watch) : (t.setWatch st a).watchUnit.watches[st] = a := by
  rw [setWatch_watches, if_pos rfl]

/-- A delay is not settled where none is in flight, line time is unset, or its point lies ahead. -/
theorem settleDelay_waits (h : ∀ now, t.now = some now → t.watchUnit.watches[st].delayDue now = false) :
    settleDelay st t = t := by
  unfold settleDelay
  split
  · rfl
  · next now hnow => exact if_neg (by rw [h now hnow]; exact Bool.false_ne_true)

theorem settleDelay_due {now : Nat} (hnow : t.now = some now) (h : t.watchUnit.watches[st].delayDue now = true) :
    settleDelay st t = expireDelay st t := by
  simp only [settleDelay, hnow]
  exact if_pos h

theorem expireDelay_other (hmaking : t.watchUnit.watches[st].state ≠ .making)
    (hbreaking : t.watchUnit.watches[st].state ≠ .breaking) : expireDelay st t = t := by
  unfold expireDelay
  dsimp only
  split
  · next h => exact absurd h hmaking
  · next h => exact absurd h hbreaking
  · rfl

/-- What a set-up watch has gone through where a rewatch goes on. -/
theorem settleDelay_setUp (w : Watch) :
    ∃ w' n, SetUp st w' n t (applyHold st (settleDelay st (t.setWatch st w))) ∧
      ((∀ now, t.now = some now → w.delayDue now = false) → w' = w ∧ n = 0) ∧
      (∀ now, t.now = some now → w.delayDue now = true →
        (w.state = .making → w' = { w with state := .made, delay := none } ∧ n = 1) ∧
        (w.state = .breaking → w' = { w with state := (t.watchCfg st).broken, delay := none } ∧ n = 0)) := by
  have hself := setWatch_watch (st := st) t w
  by_cases hwaits : ∀ now, t.now = some now → w.delayDue now = false
  · have hidle : settleDelay st (t.setWatch st w) = t.setWatch st w :=
      settleDelay_waits fun now hnow => by rw [hself]; exact hwaits now hnow
    rw [hidle]
    exact ⟨w, 0, applyHold_setUp t w, fun _ => ⟨rfl, rfl⟩, fun now hnow hdue => by
      rw [hwaits now hnow] at hdue
      cases hdue⟩
  · obtain ⟨now, hnow, hdue⟩ : ∃ now, t.now = some now ∧ w.delayDue now = true := by
      by_contra hnone
      exact hwaits fun now hnow => Bool.eq_false_iff.mpr fun hdue => hnone ⟨now, hnow, hdue⟩
    have hexpire : settleDelay st (t.setWatch st w) = expireDelay st (t.setWatch st w) :=
      settleDelay_due hnow (by rw [hself]; exact hdue)
    by_cases hmaking : w.state = .making
    · have hsettled := settleWatch_setUp (st := st) true t { w with state := .made, delay := none }
      rw [hexpire, expireDelay_making (by rw [hself]; exact hmaking), hself, setWatch_setWatch, hsettled.applyHold_eq]
      refine ⟨_, 1, hsettled, fun h => absurd h hwaits, fun _ _ _ => ⟨fun _ => ⟨rfl, rfl⟩, fun hbreaking => ?_⟩⟩
      rw [hmaking] at hbreaking
      cases hbreaking
    · by_cases hbreaking : w.state = .breaking
      · have hsettled := settleWatch_setUp (st := st) false t { w with state := (t.watchCfg st).broken, delay := none }
        rw [hexpire, expireDelay_breaking (by rw [hself]; exact hbreaking), hself, setWatch_setWatch]
        rw [show ((t.setWatch st w).watchCfg st) = t.watchCfg st from rfl, hsettled.applyHold_eq]
        exact ⟨_, 0, hsettled, fun h => absurd h hwaits, fun _ _ _ => ⟨fun h => absurd h hmaking, fun _ => ⟨rfl, rfl⟩⟩⟩
      · rw [hexpire, expireDelay_other (by rw [hself]; exact hmaking) (by rw [hself]; exact hbreaking)]
        exact ⟨w, 0, applyHold_setUp t w, fun _ => ⟨rfl, rfl⟩,
          fun _ _ _ => ⟨fun h => absurd h hmaking, fun h => absurd h hbreaking⟩⟩

/-- A taken SET WATCH sets its watch up and judges it alone. -/
theorem rewatch_setUp (old new : WatchCfg) (t : State) :
    ∃ w n v, rewatch st old new t = judgeOne st v ∧ SetUp st w n t v ∧
      (restarts old new → w = startedAnew st t ∧ n = 0) ∧
      (¬ restarts old new →
        ((∀ now, t.now = some now → (goesOn st new t).delayDue now = false) → w = goesOn st new t ∧ n = 0) ∧
        ∀ now, t.now = some now → (goesOn st new t).delayDue now = true →
          ((goesOn st new t).state = .making → w = { goesOn st new t with state := .made, delay := none } ∧ n = 1) ∧
          ((goesOn st new t).state = .breaking →
            w = { goesOn st new t with state := (t.watchCfg st).broken, delay := none } ∧ n = 0)) := by
  by_cases h : restarts old new
  · exact ⟨_, 0, _, rewatch_restarts h, applyHold_setUp t _, fun _ => ⟨rfl, rfl⟩, fun hn => absurd h hn⟩
  · obtain ⟨w, n, hsetUp, hwaits, hdue⟩ := settleDelay_setUp (st := st) (t := t) (goesOn st new t)
    exact ⟨w, n, _, rewatch_goesOn h, hsetUp, fun hr => absurd hr h, fun _ => ⟨hwaits, hdue⟩⟩

theorem settleDelay_effects (t : State) : WatchEffects t (settleDelay st t) := by
  unfold settleDelay
  split
  · exact WatchEffects.refl t
  · split
    · exact expireDelay_effects st t
    · exact WatchEffects.refl t

theorem rewatch_effects (old new : WatchCfg) (t : State) : WatchEffects t (rewatch st old new t) := by
  unfold rewatch
  split
  · exact ((setWatch_effects t st _).trans (applyHold_effects st _)).trans (judgeOne_effects st _)
  · exact (((setWatch_effects t st _).trans (settleDelay_effects _)).trans (applyHold_effects st _)).trans
      (judgeOne_effects st _)

end WatchTaken

/-! ## A delay in flight under a new configuration (R138) -/

section Redelay

variable {w : Watch} {c : WatchCfg}

/-- The deadline of a delay in flight under the configuration now set. -/
def redelayed (w : Watch) (c : WatchCfg) (d : Delay) : Nat :=
  min (d.start + (if w.state = .making then c.makeDelay else c.breakDelay) * 10) 4294967295

theorem unlatch_delay : (w.unlatch c).delay = w.delay := by
  unfold Watch.unlatch
  split <;> rfl

theorem unlatch_other (h : w.state ≠ .latched) : w.unlatch c = w := if_neg fun hl => h hl.1

theorem unlatch_making : (w.unlatch c).state = .making ↔ w.state = .making := by
  unfold Watch.unlatch
  split
  · next h => exact iff_of_false (fun hclear => by cases hclear) fun hm => by rw [hm] at h; cases h.1
  · exact Iff.rfl

theorem redelay_none (h : w.delay = none) : w.redelay c = w := by
  obtain ⟨state, tag, value, delay, judged⟩ := w
  cases h
  rfl

theorem redelay_some {d : Delay} (h : w.delay = some d) :
    w.redelay c = { w with delay := some ⟨d.start, redelayed w c d⟩ } := by
  simp only [Watch.redelay, h, Option.map_some]
  rfl

theorem redelayed_unlatch {d : Delay} : redelayed (w.unlatch c) c d = redelayed w c d := by
  simp only [redelayed, unlatch_making]

variable {st : Fin 16} {t : State}

theorem goesOn_none (h : t.watchUnit.watches[st].delay = none) :
    goesOn st c t = t.watchUnit.watches[st].unlatch c := redelay_none (unlatch_delay.trans h)

theorem goesOn_some {d : Delay} (h : t.watchUnit.watches[st].delay = some d) :
    goesOn st c t = { t.watchUnit.watches[st].unlatch c with
      delay := some ⟨d.start, redelayed t.watchUnit.watches[st] c d⟩ } := by
  rw [goesOn, redelay_some (unlatch_delay.trans h), redelayed_unlatch]

end Redelay

/-! ## What SET WATCH leaves -/

section WatchLeaves

variable {st : Fin 16} {cfg : WatchCfg} {s u : State}

/-- A watch that was judged alone while it is disabled is OFF. -/
theorem OneWatchJudged.off {w : Watch} {n now : Nat} (h : OneWatchJudged st w n s u) (hnow : u.now = some now)
    (hdisabled : (u.watchCfg st).enabled = false) : u.watchUnit.watches[st].state = .off := by
  obtain ⟨hjudged, -⟩ := h
  obtain ⟨-, hoff, -⟩ := hjudged now hnow
  rw [hoff (.inl hdisabled)]

theorem watchStart_state {t : State} (hprofile : t.profile = { s.profile with watches := s.profile.watches.set st cfg }) :
    (startedAnew st t).state = if cfg.enabled = true ∧ (s.watchStation st).isSome then .clear else .off := by
  have hcfg : t.watchCfg st = cfg := by
    rw [State.watchCfg, hprofile]
    exact Vector.getElem_set_self _
  have hstation : t.watchStation st = s.watchStation st := by
    rw [State.watchStation, hprofile]
    rfl
  rw [startedAnew, State.watchStart, State.watchOff, hcfg, hstation]
  cases cfg.enabled <;> cases s.watchStation st <;> rfl

end WatchLeaves

/-- Settling a PAIR touches the channels and what a report touches. -/
theorem pairRunsOut_only (overrun : Nat) (c : Fin 8) (ms : Nat) (t : State) :
    OnlyChanges (.inputUnit :: handBlocks) t (pairRunsOut overrun c ms t) := by
  have hreport (now time : Nat) (speed : Option Nat) (v : State) :
      OnlyChanges handBlocks v (localReport now c time speed v) := by
    unfold localReport
    split
    · exact OnlyChanges.refl _ v
    · exact takeReport_only _ _ v
  unfold pairRunsOut
  split
  · split
    · exact ((setInputUnit_only t _).mono (by simp)).trans ((hreport _ _ _ _).mono fun _ hb => List.mem_cons_of_mem _ hb)
    · exact OnlyChanges.refl _ t
  · exact OnlyChanges.refl _ t

/-- A SET CHANNEL MODE leaves the store and the mark to the profile taken. -/
theorem rechannel_only (c : Fin 8) (old new : ChanCfg) (t : State) :
    OnlyChanges (.inputUnit :: handBlocks) t (rechannel c old new t) := by
  unfold rechannel
  split
  · exact pairRunsOut_only _ _ _ t
  · exact (setInputUnit_only t _).mono (by simp)

/-- SET CHANNEL MODE taken, from the state with the profile. -/
theorem channelIsSet {m : Master} {s : State} {x : ChannelArgs} {c : Fin 8} (hserves : s.serves m [.service])
    (hidle : s.store.writing = none) (hc : x.channel = c.val) (hfits : ChannelFits s.profile c x)
    (hfree : ¬ ChannelConflicts s.profile c x) (hchange : channelFrom x s.profile.channels[c] ≠ s.profile.channels[c]) :
    ∃ t, exec (.setChannelMode m (some x)) s = .next (sendReply m (.done .nothing)
        (rechannel c s.profile.channels[c] (channelFrom x s.profile.channels[c]) t)) ∧
      ProfileTaken { s.profile with
        channels := s.profile.channels.set c (channelFrom x s.profile.channels[c]) } s t ∧
      OnlyChanges [.store] s t ∧ t.chanCfg c = channelFrom x s.profile.channels[c] := by
  refine ⟨_, setChannelMode_leaves hserves hidle hc hfits hfree hchange, profileTaken_takeProfile _ s,
    takeProfile_only_store rfl, ?_⟩
  rw [State.chanCfg, takeProfile_profile]
  exact Vector.getElem_set_self _

/-- SET WATCH taken, from the state with the profile. -/
theorem watchIsSet {m : Master} {s : State} {x : WatchArgs} {st : Fin 16} (hserves : s.serves m [.service, .dispatch])
    (hidle : s.store.writing = none) (hst : x.station = st.val) (hfits : WatchFits s.profile.watches[st] x)
    (hchange : watchFrom x s.profile.watches[st] ≠ s.profile.watches[st]) :
    ∃ t, exec (.setWatch m (some x)) s = .next (sendReply m (.done .nothing)
        (rewatch st s.profile.watches[st] (watchFrom x s.profile.watches[st]) t)) ∧
      ProfileTaken { s.profile with watches := s.profile.watches.set st (watchFrom x s.profile.watches[st]) } s t ∧
      OnlyChanges [.store] s t ∧
      t.profile = { s.profile with watches := s.profile.watches.set st (watchFrom x s.profile.watches[st]) } :=
  ⟨_, done_idle rfl serviceOrDispatch_may hserves hidle ((setWatch_fits hst hfits).trans (judgeProfile_taken
      ⟨fun h => set_ne_self (fun h => hchange h.symm) (congrArg Profile.watches h), .inl rfl⟩ rfl rfl)),
    profileTaken_takeProfile _ s, takeProfile_only_store rfl, takeProfile_profile _ s⟩

/-- Settles O36 (R88, R89, R137, R138): the item is taken, and the channel or the watch goes on from there. -/
theorem channelsAndWatchesAreSet : Obligations.ChannelsAndWatchesAreSet := by
  intro m s hidle
  refine ⟨fun x c cfg hserves hc hcfg hfits hfree hchange => ?_, fun x st cfg hserves hst hcfg hfits hchange => ?_⟩
  · subst hcfg
    obtain ⟨t, hexec, htaken, honly, hmode⟩ := channelIsSet hserves hidle hc hfits hfree hchange
    generalize channelFrom x s.profile.channels[c] = cfg at *
    have hnow : t.now = s.now := congrArg LineClock.lineTime (honly .clock (by simp))
    have hinputs : t.inputUnit = s.inputUnit := honly .inputUnit (by simp)
    refine ⟨_, hexec, htaken.of_only (rechannel_only c _ cfg t) (by simp [handBlocks]) (by simp [handBlocks]),
      fun hrestarts => ?_, fun hsame hsignaller hflight => ?_⟩
    · rw [rechannel_restarts hrestarts]
      refine ⟨(honly.mono (by simp)).then (setInputUnit_only t _) (by simp), ?_⟩
      have hunit := restartChannel_inputUnit (c := c) (t := t)
      rw [hinputs, hnow, hmode] at hunit
      exact hunit
    · rw [rechannel_limits hsame.symm hsignaller.symm, pairRunsOut_waits]
      · exact honly
      · rw [hmode, State.channel, hinputs]
        exact hflight
  · subst hcfg
    obtain ⟨t, hexec, htaken, honly, hprofile⟩ := watchIsSet hserves hidle hst hfits hchange
    generalize watchFrom x s.profile.watches[st] = cfg at *
    have hnow : t.now = s.now := congrArg LineClock.lineTime (honly .clock (by simp))
    have hunit : t.watchUnit = s.watchUnit := honly .watchUnit (by simp)
    have hcfg : t.watchCfg st = cfg := by
      rw [State.watchCfg, hprofile]
      exact Vector.getElem_set_self _
    have heffects := rewatch_effects (st := st) s.profile.watches[st] cfg t
    obtain ⟨huprofile, -, hunow, -⟩ := heffects.frame
    obtain ⟨w, n, v, hu, hsetUp, hrestart, hgoes⟩ := rewatch_setUp (st := st) s.profile.watches[st] cfg t
    have hstart := watchStart_state (s := s) (st := st) (cfg := cfg) hprofile
    obtain ⟨hjudged, hother, hown, hpending, hposts, hmember⟩ :=
      (hsetUp.of_eq hnow (honly .port (by simp)) (honly .valves (by simp)) hunit).judgeOne
    rw [← hu] at hjudged hother hown hpending hposts hmember
    have hucfg : (rewatch st s.profile.watches[st] cfg t).watchCfg st = cfg := by
      rw [State.watchCfg, huprofile]
      exact hcfg
    generalize rewatch st s.profile.watches[st] cfg t = u at *
    have hcase : ∀ {w' n'}, w = w' ∧ n = n' → OneWatchJudged st w' n' s u := by
      rintro w' n' ⟨rfl, rfl⟩
      exact hjudged
    rw [hucfg] at hmember
    refine ⟨u, hexec, htaken.of_only heffects.1 (by simp) (by simp),
      (honly.mono (by simp)).trans (heffects.1.mono (by simp)), hother, hown, hpending, hposts, hmember,
      ⟨fun hr => ?_, fun hr hnone => ?_, fun d hr hd => ?_⟩, fun hset hdisabled => ?_, fun hunset hr => ?_⟩
    · have hw := hcase (hrestart (hr.imp Ne.symm Ne.symm))
      have hanew : startedAnew st t = ⟨if cfg.enabled = true ∧ (s.watchStation st).isSome then .clear else .off,
          none, none, none, s.watchUnit.watches[st].lastJudged⟩ := by
        rw [← hstart, ← hunit]
        rfl
      rwa [hanew] at hw
    · obtain ⟨hwaits, -⟩ := hgoes fun h => hr (h.imp Ne.symm Ne.symm)
      have hon : goesOn st cfg t = s.watchUnit.watches[st].unlatch cfg := by
        rw [goesOn_none (by rw [hunit]; exact hnone), hunit]
      have hw := hcase (hwaits fun now _ => by
        rw [hon, Watch.delayDue, unlatch_delay, hnone])
      rwa [hon] at hw
    · obtain ⟨hwaits, hdue⟩ := hgoes fun h => hr (h.imp Ne.symm Ne.symm)
      have hon : goesOn st cfg t = { s.watchUnit.watches[st].unlatch cfg with
          delay := some ⟨d.start, redelayed s.watchUnit.watches[st] cfg d⟩ } := by
        rw [goesOn_some (by rw [hunit]; exact hd), hunit]
      rw [hon] at hwaits hdue
      rw [hcfg] at hdue
      refine ⟨fun hlater => hcase (hwaits fun now hn => ?_), fun now hn hpast => ?_⟩
      · obtain hnone | ⟨now', hn', hlater⟩ := hlater
        · rw [hnow, hnone] at hn
          cases hn
        · rw [hnow, hn'] at hn
          cases hn
          exact decide_eq_false (Nat.not_le.mpr hlater)
      · obtain ⟨hmaking, hbreaking⟩ := hdue now (hnow.trans hn) (decide_eq_true hpast)
        refine ⟨fun hm => ?_, fun hb => ?_⟩
        · rw [unlatch_other (by rw [hm]; decide)] at hmaking
          exact hcase (hmaking hm)
        · rw [unlatch_other (by rw [hb]; decide)] at hbreaking
          exact hcase (hbreaking hb)
    · obtain ⟨now, hn⟩ := Option.ne_none_iff_exists'.mp hset
      exact hjudged.off (hunow.trans (hnow.trans hn)) (by rw [hucfg]; exact hdisabled)
    · have hw := hcase (hrestart (hr.imp Ne.symm Ne.symm))
      rw [hw.2.1 (hunow.trans (hnow.trans hunset))]
      exact hstart

end Sys2Proof.Machine


/-! PROOF. Power-on, power loss and RESTART (R17, R37, R38, R193 to R196). -/

namespace Sys2Proof.Machine

/-! ## Power-on (R193, R195) -/

/-- The state at power-on before the retained records are looked at. -/
def loaded (store : ProfileStore) (valid : Bool) (s : State) : State :=
  ((s.setPowered true).setStore store).setClock
    ⟨none, ⟨if valid then RestartCause.powerOn else RestartCause.powerOnRetentionLost, none, none⟩⟩

/-- What a power-on starts anew from the state with the retained records. -/
def startedUp (valid : Bool) (t : State) : State :=
  let s3 := restartMatching (restartIntake (restartTracker t))
  let s4 := s3.setInputUnit { s3.inputUnit with channels := Vector.replicate 8 Channel.idle, msTimer := 0 }
  restartPort (restartWatches (s4.setValves (s4.valves.mapIdx (fun _ v => v.afterPower valid))))

section StartUp

variable {a b retention : Bool} {s t : State}

/-- The store that a power-on loads. -/
def loadedStore (a b : Bool) (s : State) : ProfileStore :=
  loadImages (s.store.firstImage.kept a) (s.store.secondImage.kept b)

theorem watchStart_eq (t : State) (st : Fin 16) : t.watchStart st =
    ⟨if t.profile.watches[st].enabled = true ∧ st.val < t.profile.count ∧ (t.profile.station? st).isSome
      then .clear else .off, none, none, none, none⟩ := by
  rw [State.watchStart, State.watchOff, State.watchStation, State.watchCfg]
  by_cases hst : st.val < t.profile.count
  · rw [if_pos hst]
    cases t.profile.watches[st].enabled <;> cases t.profile.station? st <;> simp [hst]
  · rw [if_neg hst]
    simp [hst]

/-- The blocks that a power-on keeps from the retained records, and those that it starts anew. -/
theorem startedUp_keeps (valid : Bool) (t : State) :
    OnlyChanges [.tracker, .intake, .fixUnit, .inputUnit, .valves, .watchUnit, .port] t (startedUp valid t) := by
  unfold startedUp
  refine OnlyChanges.then (k := [.port]) ?_ (setPort_only _ _) (by simp)
  refine OnlyChanges.then (k := [.watchUnit]) ?_ (setWatchUnit_only _ _) (by simp)
  refine OnlyChanges.then (k := [.valves]) ?_ (setValves_only _ _) (by simp)
  refine OnlyChanges.then (k := [.inputUnit]) ?_ (setInputUnit_only _ _) (by simp)
  refine OnlyChanges.then (k := [.fixUnit]) ?_ (setFixUnit_only _ _) (by simp)
  refine OnlyChanges.then (k := [.intake]) ?_ (setIntake_only _ _) (by simp)
  exact (setTracker_only t _).mono (by simp)

theorem startedUp_anew (valid : Bool) (t : State) :
    (startedUp valid t).tracker = ⟨Vector.replicate 15 FlowEntry.empty, t.now.isSome, t.now,
        t.now.map (fun v => addTime v (tenths t.profile.tracking.period))⟩ ∧
      (startedUp valid t).intake = ⟨[], IntakeCounts.zero⟩ ∧ (startedUp valid t).fixUnit = ⟨[], 0⟩ ∧
      (startedUp valid t).inputUnit.channels = Vector.replicate 8 Channel.idle ∧
      (startedUp valid t).inputUnit.inputs = t.inputUnit.inputs ∧
      (startedUp valid t).port = ⟨t.profile.masters.mapIdx (fun _ c => Context.restarted c),
        (Vector.replicate 16 Detail.empty).set 0 ⟨none, t.now, 1⟩, 0, none⟩ ∧
      (startedUp valid t).watchUnit.firstPending = true := ⟨rfl, rfl, rfl, rfl, rfl, rfl, rfl⟩

theorem startedUp_valves (valid : Bool) (t : State) (st : Fin 16) :
    (startedUp valid t).valves[st] = t.valves[st].afterPower valid := by
  change (t.valves.mapIdx (fun _ v => v.afterPower valid))[st.val] = _
  rw [Vector.getElem_mapIdx]
  rfl

theorem startedUp_watches (valid : Bool) (t : State) (st : Fin 16) :
    (startedUp valid t).watchUnit.watches[st] = t.watchStart st := restartWatches_watches _ st

theorem loadRetention_only (valid : Bool) (t : State) :
    OnlyChanges [.register, .traps, .signallers, .geometryMark] t (loadRetention valid t) := by
  intro block hblock
  cases valid <;> cases block <;> first | rfl | exact absurd hblock (by simp)

theorem afterPower_eq (p : Pig) : p.afterPower =
    if p.status = .running ∨ p.status = .overdue ∨ p.status = .stalled then
      { p with status := .unverified, overdueAt := none, speed := 0, estimate := none }
    else { p with estimate := none } := by
  unfold Pig.afterPower
  cases p.status <;> simp

/-- A trap record after a restart, by whether a step was in progress. -/
theorem restarted_eq (r : TrapRecord) :
    r.restarted = ⟨if r.step = none then r.state else .unknown, none, none, none, none⟩ := by
  unfold TrapRecord.restarted
  cases r.step <;> rfl

theorem traps_restarted (t : Traps) (x : TrapId) : t.restarted.record x =
    ⟨if (t.record x).step = none then (t.record x).state else .unknown, none, none, none, none⟩ := by
  cases x <;> exact restarted_eq _

end StartUp

/-! ## The images that a power-on takes (R17) -/

theorem loadImages_leaves (x y : Image) :
    (x.valid = false → y.valid = false → (loadImages x y).running = Profile.empty ∧
        (loadImages x y).imageState = .empty ∧ (loadImages x y).currentImage = none) ∧
      (x.valid = true → y.valid = false → (loadImages x y).running = x.contents ∧
        (loadImages x y).currentImage = some .first ∧
        (loadImages x y).imageState = if x.writeCount < y.writeCount then .reverted else .current) ∧
      (x.valid = false → y.valid = true → (loadImages x y).running = y.contents ∧
        (loadImages x y).currentImage = some .second ∧
        (loadImages x y).imageState = if y.writeCount < x.writeCount then .reverted else .current) ∧
      (x.valid = true → y.valid = true → (loadImages x y).imageState = .current ∧
        (x.writeCount < y.writeCount →
          (loadImages x y).running = y.contents ∧ (loadImages x y).currentImage = some .second) ∧
        (y.writeCount ≤ x.writeCount →
          (loadImages x y).running = x.contents ∧ (loadImages x y).currentImage = some .first)) := by
  refine ⟨fun hx hy => ?_, fun hx hy => ?_, fun hx hy => ?_, fun hx hy => ⟨?_, fun hless => ?_, fun hless => ?_⟩⟩
  · simp [loadImages, chooseImage, hx, hy]
  · simp [loadImages, chooseImage, hx, hy]
  · simp [loadImages, chooseImage, hx, hy]
  · simp [loadImages, chooseImage, hx, hy]
  · simp [loadImages, chooseImage, hx, hy, hless]
  · simp [loadImages, chooseImage, hx, hy, Nat.not_lt.mpr hless]

/-! ## Power loss (R133, R182) -/

theorem losePower_leaves (s : State) :
    OnlyChanges [.powered, .valves, .port] s (losePower s) ∧ (losePower s).powered = false ∧
      (∀ st : Fin 16, (losePower s).valves[st] = { s.valves[st] with contact := false }) ∧
      (∀ m : Master, (losePower s).context m = { s.context m with line := false }) ∧
      (losePower s).port.detail = s.port.detail ∧ (losePower s).port.dropCount = s.port.dropCount ∧
      (losePower s).port.lastDrop = s.port.lastDrop := by
  refine ⟨?_, rfl, fun st => ?_, fun m => ?_, rfl, rfl, rfl⟩
  · exact (((setPowered_only s _).mono (by simp)).then (setValves_only _ _) (by simp)).then (setPort_only _ _) (by simp)
  · change (s.valves.mapIdx (fun _ v => { v with contact := false }))[st.val] = _
    rw [Vector.getElem_mapIdx]
    rfl
  · change (s.port.contexts.mapIdx (fun _ c => { c with line := false }))[m.val] = _
    rw [Vector.getElem_mapIdx]
    rfl

/-- The state that a power-on leaves, by the block. -/
theorem startUp_leaves (a b retention : Bool) (s : State) :
    let store := loadedStore a b s
    let valid := retentionValid retention store s.geometryMark
    ∃ t, exec (.powerOn a b retention) s = .next t ∧ t.powered = true ∧ t.reply = none ∧ t.pending = s.pending ∧
      t.store = store ∧
      t.clock = ⟨none, ⟨if valid then .powerOn else .powerOnRetentionLost, none, none⟩⟩ ∧
      (valid = false → t.register = ⟨[], [], [], 1⟩ ∧ t.signallers = Vector.replicate 32 SigRuntime.fresh ∧
        t.geometryMark = geometryOf store.running ∧ t.traps = ⟨TrapRecord.unknown, TrapRecord.unknown, none⟩) ∧
      (valid = true → t.register = s.register.afterPower ∧ t.signallers = s.signallers ∧
        t.geometryMark = s.geometryMark ∧ t.traps = s.traps.restarted) ∧
      (∀ st : Fin 16, t.valves[st] = s.valves[st].afterPower valid) ∧
      t.tracker = ⟨Vector.replicate 15 FlowEntry.empty, false, none, none⟩ ∧
      t.intake = ⟨[], IntakeCounts.zero⟩ ∧ t.fixUnit = ⟨[], 0⟩ ∧
      t.inputUnit.channels = Vector.replicate 8 Channel.idle ∧ t.inputUnit.inputs = s.inputUnit.inputs ∧
      t.port = ⟨store.running.masters.mapIdx (fun _ c => Context.restarted c),
        (Vector.replicate 16 Detail.empty).set 0 ⟨none, none, 1⟩, 0, none⟩ ∧
      t.watchUnit.firstPending = true ∧ ∀ st : Fin 16, t.watchUnit.watches[st] =
        ⟨if store.running.watches[st].enabled = true ∧ st.val < store.running.count ∧
            (store.running.station? st).isSome then .clear else .off, none, none, none, none⟩ := by
  intro store valid
  have hexec : exec (.powerOn a b retention) s =
      .next ((startedUp valid (loadRetention valid (loaded store valid s))).setReply none) := rfl
  clear_value valid store
  have hretained := loadRetention_only valid (loaded store valid s)
  have hregister : valid = true → (loadRetention valid (loaded store valid s)).register = s.register.afterPower ∧
      (loadRetention valid (loaded store valid s)).signallers = s.signallers ∧
      (loadRetention valid (loaded store valid s)).geometryMark = s.geometryMark ∧
      (loadRetention valid (loaded store valid s)).traps = s.traps.restarted := by
    rintro rfl
    exact ⟨rfl, rfl, rfl, rfl⟩
  have hlost : valid = false → (loadRetention valid (loaded store valid s)).register = ⟨[], [], [], 1⟩ ∧
      (loadRetention valid (loaded store valid s)).signallers = Vector.replicate 32 SigRuntime.fresh ∧
      (loadRetention valid (loaded store valid s)).geometryMark = geometryOf store.running ∧
      (loadRetention valid (loaded store valid s)).traps = ⟨TrapRecord.unknown, TrapRecord.unknown, none⟩ := by
    rintro rfl
    exact ⟨rfl, rfl, rfl, rfl⟩
  generalize loadRetention valid (loaded store valid s) = r at *
  have hstore : r.store = store := hretained .store (by simp)
  have hprofile : r.profile = store.running := congrArg ProfileStore.running hstore
  have hclock : r.clock = ⟨none, ⟨if valid then .powerOn else .powerOnRetentionLost, none, none⟩⟩ :=
    hretained .clock (by simp)
  have hnow : r.now = none := congrArg LineClock.lineTime hclock
  have hvalves : r.valves = s.valves := hretained .valves (by simp)
  have hinputs : r.inputUnit = s.inputUnit := hretained .inputUnit (by simp)
  have hkeeps := startedUp_keeps valid r
  obtain ⟨htracker, hintake, hfixUnit, hchannels, hlevels, hport, hpending⟩ := startedUp_anew valid r
  have hwatches := startedUp_watches valid r
  have hstarted := startedUp_valves valid r
  rw [hnow] at htracker hport
  rw [hprofile] at hport
  generalize startedUp valid r = u at *
  refine ⟨u.setReply none, hexec, ?_, rfl, ?_, ?_, ?_, fun h => ?_, fun h => ?_, fun st => ?_, htracker, hintake,
    hfixUnit, hchannels, hlevels.trans (congrArg InputUnit.inputs hinputs), hport, hpending, fun st => ?_⟩
  · exact (hkeeps .powered (by simp)).trans (hretained .powered (by simp))
  · exact (hkeeps .pending (by simp)).trans (hretained .pending (by simp))
  · exact (hkeeps .store (by simp)).trans hstore
  · exact (hkeeps .clock (by simp)).trans hclock
  · obtain ⟨h1, h2, h3, h4⟩ := hlost h
    exact ⟨(hkeeps .register (by simp)).trans h1, (hkeeps .signallers (by simp)).trans h2,
      (hkeeps .geometryMark (by simp)).trans h3, (hkeeps .traps (by simp)).trans h4⟩
  · obtain ⟨h1, h2, h3, h4⟩ := hregister h
    exact ⟨(hkeeps .register (by simp)).trans h1, (hkeeps .signallers (by simp)).trans h2,
      (hkeeps .geometryMark (by simp)).trans h3, (hkeeps .traps (by simp)).trans h4⟩
  · exact (hstarted st).trans (by rw [hvalves])
  · exact (hwatches st).trans (by rw [watchStart_eq, hprofile])

/-- Settles O51 (R17, R37, R38, R133, R182, R193 to R195). -/
theorem powerComesAndGoes : Obligations.PowerComesAndGoes := by
  refine ⟨fun s => ?_, fun a b retention s => ?_⟩
  · obtain ⟨honly, hpower, hvalves, hcontexts, hdetail, hcount, hdrop⟩ := losePower_leaves s
    exact ⟨(losePower s).setReply none, rfl, (honly.mono (by simp)).then (setReply_only _ _) (by simp), hpower, rfl,
      hvalves, hcontexts, hdetail, hcount, hdrop⟩
  · obtain ⟨t, hexec, hpower, hreply, hpending, hstore, hclock, hlost, hkept, hvalves, htracker, hintake, hfixUnit,
      hchannels, hinputs, hport, hfirst, hwatches⟩ := startUp_leaves a b retention s
    have hprofile : t.profile = (loadedStore a b s).running := congrArg ProfileStore.running hstore
    obtain ⟨hneither, honlyFirst, honlySecond, hboth⟩ :=
      loadImages_leaves (s.store.firstImage.kept a) (s.store.secondImage.kept b)
    refine ⟨t, hexec, hpower, hreply, hpending, ?_⟩
    intro first second
    have hvalid : (retention && t.store.imageState != .empty && s.geometryMark == geometryOf t.profile) =
        retentionValid retention (loadedStore a b s) s.geometryMark := by
      rw [hprofile, hstore]
      rfl
    rw [hvalid]
    generalize retentionValid retention (loadedStore a b s) s.geometryMark = valid at *
    rw [← hprofile] at hlost hport hwatches
    refine ⟨by rw [hstore]; rfl, by rw [hstore]; rfl, by rw [hstore]; rfl, by rw [hprofile, hstore]; exact hneither,
      by rw [hprofile, hstore]; exact honlyFirst, by rw [hprofile, hstore]; exact honlySecond,
      by rw [hprofile, hstore]; exact hboth, ?_⟩
    intro valid
    refine ⟨hclock, hlost, fun h => ?_, fun st => ?_, htracker, hintake, hfixUnit, hchannels, hinputs,
      by rw [hport]; rfl, by rw [hport], by rw [hport], by rw [hport], hfirst, hwatches⟩
    · obtain ⟨hregister, hsignallers, hmark, htraps⟩ := hkept h
      refine ⟨hsignallers, hmark, ?_, fun x => ?_, by rw [htraps]; rfl⟩
      · rw [hregister, Register.afterPower, funext afterPower_eq]
      · rw [State.trap, htraps]
        exact traps_restarted s.traps x
    · rw [hvalves st]
      rfl

end Sys2Proof.Machine


/-! PROOF. RESTART, and the first setting of line time (R79, R136, R191, R196). -/

namespace Sys2Proof.Machine

/-! ## The channels as they are armed (R79, R91) -/

theorem armAll_channels (t : State) (c : Fin 8) : (armAll t).inputUnit.channels[c] =
    { t.inputUnit.channels[c] with
      flight := none, state := armedState t.profile.channels[c].mode t.inputUnit.inputs[c] } := by
  change (t.inputUnit.channels.mapFinIdx (fun i x h => x.arm (t.chanCfg ⟨i, h⟩).mode (t.input i)))[c.val] = _
  rw [Vector.getElem_mapFinIdx, input_val]
  rfl

/-- A channel as a restart leaves it: idle, or armed where line time is set. -/
def restartedChannel (s : State) (c : Fin 8) : Channel :=
  ⟨if s.now.isSome then armedState s.profile.channels[c].mode s.inputUnit.inputs[c] else .idle,
    none, none, 0, 0, 0, 0, none⟩

theorem restartChannels_channels (t : State) (c : Fin 8) :
    (restartChannels t).inputUnit.channels[c] = restartedChannel t c := by
  have hidle : (Vector.replicate 8 Channel.idle)[c] = Channel.idle := Vector.getElem_replicate _
  unfold restartChannels restartedChannel
  dsimp only
  split
  · rw [armAll_channels]
    exact congrArg (fun x : Channel => { x with
      flight := none, state := armedState t.profile.channels[c].mode t.inputUnit.inputs[c] }) hidle
  · exact hidle

theorem restartChannels_inputs (t : State) : (restartChannels t).inputUnit.inputs = t.inputUnit.inputs := by
  unfold restartChannels
  dsimp only
  split <;> rfl

/-! ## What a RESTART leaves before the first judgement (R196) -/

/-- The blocks that a RESTART starts anew besides the valves, the watches, the traps and the port. -/
def restartedBlocks (t : State) : State :=
  restartMatching (restartChannels (restartIntake (restartEstimates (restartTracker t))))

/-- The valves, the watches, the traps and the port as a RESTART starts them. -/
def restartedUnits (t : State) : State :=
  let s3 := setContacts (t.setValves (t.valves.mapIdx (fun _ v => v.restarted)))
  restartPort ((restartWatches s3).setTraps s3.traps.restarted)

theorem restartBase_eq (s : State) : restartBase s =
    restartedUnits (restartedBlocks (s.setClock { s.clock with record := ⟨.commanded, s.now, none⟩ })) := rfl

theorem restartedBlocks_leaves (t : State) :
    OnlyChanges [.register, .tracker, .intake, .inputUnit, .fixUnit] t (restartedBlocks t) ∧
      (restartedBlocks t).register = { t.register with inLine := t.register.inLine.map (fun p =>
        { p with estimate := t.now }) } ∧
      (restartedBlocks t).tracker = ⟨Vector.replicate 15 FlowEntry.empty, t.now.isSome, t.now,
        t.now.map (fun v => addTime v (tenths t.profile.tracking.period))⟩ ∧
      (restartedBlocks t).intake = ⟨[], IntakeCounts.zero⟩ ∧ (restartedBlocks t).fixUnit = ⟨[], 0⟩ ∧
      (restartedBlocks t).inputUnit.inputs = t.inputUnit.inputs ∧
      ∀ c : Fin 8, (restartedBlocks t).inputUnit.channels[c] = restartedChannel t c := by
  obtain ⟨u, hu⟩ : ∃ u, u = restartIntake (restartEstimates (restartTracker t)) := ⟨_, rfl⟩
  have hearly : OnlyChanges [.register, .tracker, .intake] t u := by
    rw [hu]
    exact (((setTracker_only t _).mono (by simp)).then (setRegister_only _ _) (by simp)).then (setIntake_only _ _) (by simp)
  have hregister : u.register = { t.register with inLine := t.register.inLine.map (fun p =>
      { p with estimate := t.now }) } := by rw [hu]; rfl
  have htracker : u.tracker = ⟨Vector.replicate 15 FlowEntry.empty, t.now.isSome, t.now,
      t.now.map (fun v => addTime v (tenths t.profile.tracking.period))⟩ := by rw [hu]; rfl
  have hintake : u.intake = ⟨[], IntakeCounts.zero⟩ := by rw [hu]; rfl
  have heq : restartedBlocks t = restartMatching (restartChannels u) := by rw [hu]; rfl
  clear hu
  have honly := restartChannels_only u
  have hlate : OnlyChanges [.inputUnit, .fixUnit] u (restartMatching (restartChannels u)) :=
    (honly.mono (by simp)).then (setFixUnit_only _ _) (by simp)
  have hinputs : u.inputUnit = t.inputUnit := hearly .inputUnit (by simp)
  have hprofile : u.profile = t.profile := congrArg ProfileStore.running (hearly .store (by simp))
  have hnow : u.now = t.now := congrArg LineClock.lineTime (hearly .clock (by simp))
  rw [heq]
  refine ⟨(hearly.mono (by simp)).trans (hlate.mono (by simp)), (hlate .register (by simp)).trans hregister,
    (hlate .tracker (by simp)).trans htracker, (hlate .intake (by simp)).trans hintake, rfl,
    (restartChannels_inputs u).trans (congrArg InputUnit.inputs hinputs), fun c => ?_⟩
  refine (restartChannels_channels u c).trans ?_
  rw [restartedChannel, hnow, hprofile, hinputs]
  rfl

theorem restartedUnits_leaves (t : State) :
    OnlyChanges [.valves, .watchUnit, .traps, .port] t (restartedUnits t) ∧
      (∀ st : Fin 16, (restartedUnits t).valves[st] = { t.valves[st].restarted with
        contact := contactFor t st (manualHolds t.valves[st].hold) }) ∧
      (restartedUnits t).traps = t.traps.restarted ∧
      (restartedUnits t).port = ⟨t.profile.masters.mapIdx (fun _ c => Context.restarted c),
        (Vector.replicate 16 Detail.empty).set 0 ⟨none, t.now, 1⟩, 0, none⟩ ∧
      (restartedUnits t).watchUnit.firstPending = true ∧
      ∀ st : Fin 16, (restartedUnits t).watchUnit.watches[st] = t.watchStart st := by
  obtain ⟨v, hv⟩ : ∃ v, v = setContacts (t.setValves (t.valves.mapIdx (fun _ v => v.restarted))) := ⟨_, rfl⟩
  have honly : OnlyChanges [.valves] t v := by
    rw [hv]
    exact (setValves_only t _).trans (setContacts_only _)
  have hvalves (st : Fin 16) : v.valves[st] = { t.valves[st].restarted with
      contact := contactFor t st (manualHolds t.valves[st].hold) } := by
    have hst : (t.setValves (t.valves.mapIdx (fun _ v => v.restarted))).valves[st] = t.valves[st].restarted := by
      change (t.valves.mapIdx (fun _ v => v.restarted))[st.val] = _
      rw [Vector.getElem_mapIdx]
      rfl
    rw [hv, setContacts_valves, hst]
    rfl
  have heq : restartedUnits t = restartPort ((restartWatches v).setTraps v.traps.restarted) := by rw [hv]; rfl
  clear hv
  have hprofile : v.profile = t.profile := congrArg ProfileStore.running (honly .store (by simp))
  have hnow : v.now = t.now := congrArg LineClock.lineTime (honly .clock (by simp))
  have htraps : v.traps = t.traps := honly .traps (by simp)
  rw [heq]
  refine ⟨?_, hvalves, congrArg Traps.restarted htraps, ?_, rfl, fun st => ?_⟩
  · refine OnlyChanges.then (k := [.port]) ?_ (setPort_only _ _) (by simp)
    refine OnlyChanges.then (k := [.traps]) ?_ (setTraps_only _ _) (by simp)
    exact (honly.mono (by simp)).then (setWatchUnit_only v _) (by simp)
  · rw [← hprofile, ← hnow]
    rfl
  · refine (restartWatches_watches v st).trans ?_
    rw [watchStart_eq, watchStart_eq, hprofile]

/-- The state of a RESTART before the first judgement of the watches. -/
theorem restartBase_leaves (s : State) :
    OnlyChanges [.clock, .register, .tracker, .intake, .inputUnit, .fixUnit, .valves, .watchUnit, .traps, .port] s
        (restartBase s) ∧
      (restartBase s).clock = ⟨s.now, ⟨.commanded, s.now, none⟩⟩ ∧
      (restartBase s).register = { s.register with inLine := s.register.inLine.map (fun p =>
        { p with estimate := s.now }) } ∧
      (restartBase s).tracker = ⟨Vector.replicate 15 FlowEntry.empty, s.now.isSome, s.now,
        s.now.map (fun v => addTime v (tenths s.profile.tracking.period))⟩ ∧
      (restartBase s).intake = ⟨[], IntakeCounts.zero⟩ ∧ (restartBase s).fixUnit = ⟨[], 0⟩ ∧
      (restartBase s).inputUnit.inputs = s.inputUnit.inputs ∧
      (∀ c : Fin 8, (restartBase s).inputUnit.channels[c] = restartedChannel s c) ∧
      (∀ st : Fin 16, (restartBase s).valves[st].own =
          (.unknown, manualHolds s.valves[st].hold, none, none, s.valves[st].forced) ∧
        (restartBase s).valves[st].hold = manualHolds s.valves[st].hold) ∧
      (restartBase s).traps = s.traps.restarted ∧
      (restartBase s).port = ⟨s.profile.masters.mapIdx (fun _ c => Context.restarted c),
        (Vector.replicate 16 Detail.empty).set 0 ⟨none, s.now, 1⟩, 0, none⟩ ∧
      (restartBase s).watchUnit.firstPending = true ∧
      ∀ st : Fin 16, (restartBase s).watchUnit.watches[st] = s.watchStart st := by
  rw [restartBase_eq]
  have hclock : (s.setClock { s.clock with record := ⟨.commanded, s.now, none⟩ }).clock =
      ⟨s.now, ⟨.commanded, s.now, none⟩⟩ := rfl
  have hset := setClock_only s { s.clock with record := ⟨.commanded, s.now, none⟩ }
  generalize s.setClock { s.clock with record := ⟨.commanded, s.now, none⟩ } = t at *
  have htnow : t.now = s.now := by rw [State.now, hclock]
  have htprofile : t.profile = s.profile := congrArg ProfileStore.running (hset .store (by simp))
  have htinputs : t.inputUnit = s.inputUnit := hset .inputUnit (by simp)
  obtain ⟨hblocks, hregister, htracker, hintake, hfixUnit, hinputs, hchannels⟩ := restartedBlocks_leaves t
  generalize restartedBlocks t = v at *
  have hvnow : v.now = s.now := (congrArg LineClock.lineTime (hblocks .clock (by simp))).trans htnow
  have hvprofile : v.profile = s.profile := (congrArg ProfileStore.running (hblocks .store (by simp))).trans htprofile
  have hvvalves : v.valves = s.valves := (hblocks .valves (by simp)).trans (hset .valves (by simp))
  obtain ⟨hunits, hvalves, htraps, hport, hfirst, hwatches⟩ := restartedUnits_leaves v
  generalize restartedUnits v = u at *
  refine ⟨((hset.mono (by simp)).trans (hblocks.mono (by simp))).trans (hunits.mono (by simp)), ?_, ?_, ?_, ?_, ?_, ?_,
    fun c => ?_, fun st => ?_, ?_, ?_, hfirst, fun st => ?_⟩
  · exact (hunits .clock (by simp)).trans ((hblocks .clock (by simp)).trans hclock)
  · rw [hunits .register (by simp), hregister, htnow, hset .register (by simp)]
  · rw [hunits .tracker (by simp), htracker, htnow, htprofile]
  · exact (hunits .intake (by simp)).trans hintake
  · exact (hunits .fixUnit (by simp)).trans hfixUnit
  · rw [hunits .inputUnit (by simp), hinputs, htinputs]
  · rw [hunits .inputUnit (by simp), hchannels, restartedChannel, htnow, htprofile, htinputs]
    rfl
  · rw [hvalves st, hvvalves]
    refine ⟨?_, rfl⟩
    simp only [Valve.own, Valve.restarted, manualHolds_idem]
  · rw [htraps, hblocks .traps (by simp), hset .traps (by simp)]
  · rw [hport, hvnow, hvprofile]
  · rw [hwatches st, watchStart_eq, watchStart_eq, hvprofile]

/-! ## RESTART (R196) -/

/-- A judgement of the watches leaves each line by its two sets. -/
theorem judgeAll_lined {s : State} (h : Lined s.port) : Lined (judgeAll s).port :=
  (judgeAll_moves (i := .trackerUpdate) s).keep (P := fun u => Lined u.port)
    (fun _ _ hmove hu => hmove.keeps_lined (by decide) hu) h

/-- A context as a restart sets it up, and as postings may leave it. -/
theorem restarted_context {b u : State} {k : Master} {c : MasterClass} (hb : b.context k = Context.restarted c)
    (hown : (u.context k).own = (b.context k).own) (hline : (u.context k).Lined) :
    (u.context k).cls = c ∧ (u.context k).enables = 0#16 ∧ (u.context k).line = false ∧
      (u.context k).cursorTag = none ∧ (u.context k).cursorMode = .hold ∧ (u.context k).lastRefusal = none := by
  rw [hb] at hown
  generalize u.context k = x at *
  obtain ⟨cls, attention, enables, line, cursorTag, cursorMode, lastRefusal⟩ := x
  simp only [Context.own, Context.restarted, Prod.mk.injEq] at hown
  obtain ⟨rfl, rfl, rfl, rfl, rfl⟩ := hown
  refine ⟨rfl, rfl, ?_, rfl, rfl, rfl⟩
  simpa [Context.Lined, lineFor] using hline

theorem mayUse_restart : ∀ c ∈ [MasterClass.service], mayUse c .restart = true := by decide

theorem restart_eq (s : State) : restart () s =
    done (.restarted (judgeAll (restartBase s)).clock.record) (judgeAll (restartBase s)) := by
  have hall : restartAll s = judgeAll (restartBase s) := rfl
  unfold restart
  rw [hall]

theorem exec_restart {m : Master} {s : State} (hserves : s.serves m [.service]) :
    exec (.restart m (some ())) s = .next (sendReply m
      (.done (.restarted (judgeAll (restartBase s)).clock.record)) (judgeAll (restartBase s))) := by
  refine (serve_open m .restart (withParams (some ()) restart) s hserves.1 (mayUse_class hserves mayUse_restart)).trans ?_
  rw [withParams_some, restart_eq, done, respond_done]

/-- Settles O50 (R196): each block as it starts anew, and then the first judgement of the watches. -/
theorem restartKeepsTheRecords : Obligations.RestartKeepsTheRecords := by
  intro m s hserves
  have hexec := exec_restart hserves
  obtain ⟨hbase, hclock, hregister, htracker, hintake, hfixUnit, hinputs, hchannels, hvalves, htraps, hport, hfirst,
    hwatches⟩ := restartBase_leaves s
  have hlined : Lined (restartBase s).port := by
    obtain ⟨v, hv⟩ := restartBase_port s
    rw [hv]
    exact lined_restartPort v
  generalize restartBase s = b at *
  have hbnow : b.now = s.now := by rw [State.now, hclock]
  have hulined := judgeAll_lined hlined
  have heffects := judgeAll_effects b
  obtain ⟨honly, hcontexts, hown, -⟩ := heffects
  have hposts := judgeAll_postsOnly b
  have hjudged := judgeAll_judged b
  have hunset : s.now = none → judgeAll b = b := fun h => judgeAll_unset (hbnow.trans h)
  have hset : s.now ≠ none → (judgeAll b).watchUnit.firstPending = false := fun h => by
    obtain ⟨now, hnow⟩ := Option.ne_none_iff_exists'.mp h
    exact judgeAll_firstPending (hbnow.trans hnow)
  have huclock : (judgeAll b).clock = ⟨s.now, ⟨.commanded, s.now, none⟩⟩ := (honly .clock (by simp)).trans hclock
  rw [huclock] at hexec
  generalize judgeAll b = u at *
  have hbwatches : ∀ st : Fin 16, b.watchUnit.watches[st] =
      ⟨if (s.watchCfg st).enabled = true ∧ (s.watchStation st).isSome then .clear else .off,
        none, none, none, none⟩ := fun st => by
    rw [hwatches st, State.watchStart, State.watchOff]
    cases (s.watchCfg st).enabled <;> cases s.watchStation st <;> rfl
  have hbcontext (k : Master) : b.context k = Context.restarted s.profile.masters[k] := by
    rw [State.context, hport]
    exact Vector.getElem_mapIdx ..
  obtain ⟨hdetail, hattention⟩ := hposts.2 .restarted (by decide)
  refine ⟨u, hexec, (hbase.mono (by simp)).trans (honly.mono (by simp)), huclock, ?_, ?_, ?_, ?_, ?_, fun c => ?_,
    fun st => ?_, fun x => ?_, ?_, fun k => ?_, ?_, ?_, ?_, fun h => ?_, hset, b, honly, hport, fun st => (hvalves st).2,
    hbwatches, hfirst, hunset, hposts, hjudged⟩
  · exact (honly .register (by simp)).trans hregister
  · exact (honly .tracker (by simp)).trans htracker
  · exact (honly .intake (by simp)).trans hintake
  · exact (honly .fixUnit (by simp)).trans hfixUnit
  · rw [honly .inputUnit (by simp), hinputs]
  · rw [honly .inputUnit (by simp), hchannels c, restartedChannel]
    cases s.now <;> cases s.profile.channels[c].mode <;> rfl
  · exact (hown st).trans (hvalves st).1
  · rw [State.trap, honly .traps (by simp), htraps]
    exact traps_restarted s.traps x
  · rw [honly .traps (by simp), htraps]
    rfl
  · obtain ⟨h1, h2, h3, h4, h5, h6⟩ := restarted_context (hbcontext k) (hcontexts k) (hulined k)
    refine ⟨h1, h2, h3, h4, h5, h6, ?_⟩
    have hbit := hattention k
    rw [hbcontext k] at hbit
    exact hbit.trans (show (BitVec.getLsbD 1#16 AttnKind.restarted.bit || ! [].isEmpty) = true by decide)
  · exact hdetail.trans (by rw [hport]; rfl)
  · exact hposts.1.2.1.trans (by rw [hport])
  · exact hposts.1.2.2.trans (by rw [hport])
  · rw [hunset h]
    exact ⟨by rw [hport]; rfl, hbwatches, hfirst⟩

end Sys2Proof.Machine


/-! PROOF. What each deadline leaves as it runs out: the records it ends, what it posts, and what it leaves alone (R192). -/

namespace Sys2Proof.Machine

/-! ## Postings of the deadlines -/

/-- Between two states of one line time PERMIT_EXPIRED and LAUNCH_OVERDUE were posted for their subjects and not
otherwise, and TRAP_EVENT for traps alone, once at least where the deadline posts it. -/
def RunPosts (e : AttnKind → List Subject) (s t : State) : Prop :=
  t.now = s.now ∧ ContextsKept s t ∧ Posted .permitExpired (e .permitExpired) s t ∧
    Posted .launchOverdue (e .launchOverdue) s t ∧
    ∃ l : List Subject, (∀ x ∈ l, ∃ y, x = .trap y) ∧ (e .trapEvent ≠ [] → l ≠ []) ∧ Posted .trapEvent l s t

section RunPosts

variable {e e' : AttnKind → List Subject} {s t u : State}

theorem Posts.runPosts (h : Posts e s t) (htraps : ∀ x ∈ e .trapEvent, ∃ y, x = .trap y) : RunPosts e s t :=
  ⟨h.1, h.2.1, h.2.2 _, h.2.2 _, _, htraps, id, h.2.2 _⟩

theorem RunPosts.trans (h : RunPosts e s t) (h' : RunPosts e' t u) : RunPosts (fun k => e k ++ e' k) s u := by
  obtain ⟨hnow, hkept, hpermit, hlaunch, l, hl, hne, hposted⟩ := h
  obtain ⟨hnow', hkept', hpermit', hlaunch', l', hl', hne', hposted'⟩ := h'
  refine ⟨hnow'.trans hnow, hkept.trans hkept', hpermit.trans hpermit' hnow', hlaunch.trans hlaunch' hnow', l ++ l',
    fun x hx => (List.mem_append.mp hx).elim (hl x) (hl' x), fun h => ?_, hposted.trans hposted' hnow'⟩
  rw [Ne, List.append_eq_nil_iff, not_and_or] at h ⊢
  exact h.imp hne hne'

theorem RunPosts.congr (h : RunPosts e s t) (he : ∀ k, e' k = e k) : RunPosts e' s t := by
  rw [show e' = e from funext he]
  exact h

/-- Where neither PERMIT_EXPIRED nor LAUNCH_OVERDUE is posted. -/
theorem RunPosts.silent (h : RunPosts e s t) (hpermit : e .permitExpired = []) (hlaunch : e .launchOverdue = []) :
    RunPosts (fun _ => []) s t := by
  obtain ⟨hnow, hkept, hp, hl, l, htraps, -, hposted⟩ := h
  rw [hpermit] at hp
  rw [hlaunch] at hl
  exact ⟨hnow, hkept, hp, hl, l, htraps, fun h => absurd rfl h, hposted⟩

theorem RunPosts.refl (s : State) : RunPosts (fun _ => []) s s := (Posts.refl s).runPosts (fun _ h => by cases h)

/-- The watches post TRAP_EVENT of the receive trap, and neither PERMIT_EXPIRED nor LAUNCH_OVERDUE. -/
theorem watchPostings_traps (s : State) (st : Fin 16) (n : Nat) (old new : HoldSet) :
    ∀ x ∈ watchPostings s st n old new .trapEvent, ∃ y, x = .trap y := fun _ hx =>
  ⟨.receive, List.eq_of_mem_replicate hx⟩

theorem judgeAll_runPosts (s : State) : RunPosts (fun _ => []) s (judgeAll s) := by
  cases hnow : s.now with
  | none =>
    rw [judgeAll_unset hnow]
    exact RunPosts.refl s
  | some now =>
    obtain ⟨hsame, hkept, hposted⟩ := judgeAll_posts hnow
    have hother : ∀ k, k ∉ watchKinds → Posted k [] s (judgeAll s) := (judgeAll_postsOnly s).2
    refine ⟨hsame, hkept, hother _ (by decide), hother _ (by decide), _, fun x hx => ?_, fun h => absurd rfl h,
      hposted .trapEvent⟩
    obtain ⟨k, -, hk⟩ := List.mem_flatMap.mp hx
    exact watchPostings_traps _ _ _ _ _ x hk

theorem RunPosts.judged (h : RunPosts e s t) : RunPosts e s (judgeAll t) :=
  (h.trans (judgeAll_runPosts t)).congr fun _ => (List.append_nil _).symm

theorem RunPosts.then_port (h : RunPosts e s t) (hnow : u.now = t.now) (hport : u.port = t.port) : RunPosts e s u :=
  (h.trans ((Posts.of_port hnow hport).runPosts fun _ h => by cases h)).congr fun _ => (List.append_nil _).symm

end RunPosts

/-! ## A handed entry -/

section Entry

variable {now : Nat} {x : Passage} {s : State}

/-- A passage is noted, or given to its candidate. -/
theorem takeEntry_cases (now : Nat) (x : Passage) (s : State) : (∃ r, takeEntry now x s = noteUnmatched now x r s) ∨
    ∃ g p early, s.profile.signaller? x.signaller = some g ∧ candidate s x.signaller = some p ∧
      takeEntry now x s = applyPassage now g x early p s := by
  unfold takeEntry
  split
  · exact .inl ⟨_, rfl⟩
  · next hg hp => exact .inr ⟨_, _, _, hg, hp, rfl⟩
  · next hg hp => exact .inr ⟨_, _, _, hg, hp, rfl⟩
  · exact .inl ⟨_, rfl⟩

theorem takeEntry_effects (hnow : s.now = some now) : RunPosts (fun _ => []) s (takeEntry now x s) ∧
    ∀ st : Fin 16, (takeEntry now x s).valves[st].own = s.valves[st].own := by
  have hsame : (takeEntry now x s).now = s.now :=
    congrArg LineClock.lineTime (takeEntry_only now x s .clock (by simp))
  obtain ⟨r, h⟩ | ⟨g, p, early, hg, hp, h⟩ := takeEntry_cases now x s
  · rw [h]
    have hposts : Posts (once .orphan (.signaller x.signaller)) s (noteUnmatched now x r s) :=
      Posts.of_port_then rfl rfl (post_posts _ _ _)
    refine ⟨(hposts.runPosts fun _ h => by cases h).silent rfl rfl, fun st => ?_⟩
    rw [noteUnmatched_only now x r s .valves (by simp)]
  · rw [h] at hsame ⊢
    obtain ⟨hposts, hown, hjudged⟩ := applyPassage_effects (now := now) (early := early) hg hp
    refine ⟨⟨hsame, hposts.1, hposts.2 _ (by decide), hposts.2 _ (by decide), _, fun y hy => ?_, fun h => absurd rfl h,
      (hjudged now (hsame.trans hnow)).2.2.1.2⟩, hown⟩
    obtain ⟨k, -, hk⟩ := List.mem_flatMap.mp hy
    exact ⟨.receive, List.eq_of_mem_replicate hk⟩

theorem handFirst_effects (hnow : s.now = some now) : RunPosts (fun _ => []) s (handFirst now s) ∧
    ∀ st : Fin 16, (handFirst now s).valves[st].own = s.valves[st].own := by
  unfold handFirst
  split
  · exact ⟨RunPosts.refl s, fun _ => rfl⟩
  · next e rest _ =>
    split
    · obtain ⟨⟨hsame, hkept, hpermit, hlaunch, htraps⟩, hown⟩ :=
        takeEntry_effects (x := e.passage) (s := s.setEntries rest) hnow
      exact ⟨⟨hsame, hkept, hpermit, hlaunch, htraps⟩, hown⟩
    · exact ⟨RunPosts.refl s, fun _ => rfl⟩

end Entry

/-! ## An update, a permit, a step, a delay, and the launch overdue deadline -/

section Effects

variable {now : Nat} {s : State}

theorem trackerUpdate_effects (now : Nat) (s : State) : RunPosts (fun _ => []) s (trackerUpdate now s) ∧
    (∀ st : Fin 16, (trackerUpdate now s).valves[st].own = s.valves[st].own) ∧
    (trackerUpdate now s).traps = s.traps ∧ (trackerUpdate now s).intake = s.intake ∧
    (trackerUpdate now s).tracker.running = s.tracker.running ∧ (trackerUpdate now s).tracker.lastUpdate = some now ∧
    (trackerUpdate now s).tracker.deadline = nextDeadline s.profile now := by
  obtain ⟨honly, hrunning, hlast, hnext, -, -, hposts⟩ := updatedState_leaves now s
  rw [trackerUpdate_eq]
  generalize updatedState now s = v at *
  obtain ⟨hjudged, -, hown, -⟩ := judgeAll_effects v
  have htracker : (judgeAll v).tracker = v.tracker := hjudged .tracker (by simp)
  have hnone (k : AttnKind) (hstale : k ≠ .flowStale) (hoverdue : k ≠ .overdue) (hstalled : k ≠ .stalled) :
      (if k = .flowStale then ((List.finRange 15).filter (leavesFresh now s)).map (fun r => Subject.station r.val)
        else []) ++ (treatPigs (judgeFlows now s) now none s.register.inLine).flatMap
          (fun r => (r.2.filter (· = k)).map fun _ => Subject.tag r.1.tag) = [] := by
    rw [if_neg hstale, treatPigs_posted_other hoverdue hstalled]
    rfl
  refine ⟨((hposts.runPosts fun x hx => ?_).silent (hnone _ (by decide) (by decide) (by decide))
    (hnone _ (by decide) (by decide) (by decide))).judged, fun st => ?_, ?_, ?_, ?_, ?_, ?_⟩
  · rw [hnone _ (by decide) (by decide) (by decide)] at hx
    cases hx
  · rw [hown, honly .valves (by simp)]
  · exact (hjudged .traps (by simp)).trans (honly .traps (by simp))
  · exact (hjudged .intake (by simp)).trans (honly .intake (by simp))
  · rw [htracker, hrunning]
  · rw [htracker, hlast]
  · rw [htracker, hnext]

/-- A valve record after its permit has run out, where it has one. -/
def expiredValve (v : Valve) : Valve :=
  match v.permit with
  | some p => { v with position := .unknown, permit := none, lapsed := some ⟨p.owner, p.direction⟩ }
  | none => v

theorem expirePermit_effects {st : Fin 16} {p : Permit} (hp : s.valves[st].permit = some p) :
    RunPosts (once .permitExpired (.station st)) s (expirePermit st s) ∧
      ∀ k : Fin 16, (expirePermit st s).valves[k].own = if k = st then (expiredValve s.valves[st]).own else s.valves[k].own := by
  have hposts := (permitExpired_posts st p s).runPosts fun _ h => by cases h
  rw [expirePermit_eq hp]
  refine ⟨?_, fun k => ?_⟩
  · unfold handPosition
    split
    · exact hposts
    · exact hposts.judged
  · rw [(handPosition_effects _ _ _).2.2.1, permitExpired_valves, expiredValve, hp]
    split <;> rfl

/-- A trap record after its step has run out, where it has one. -/
def expiredTrap (r : TrapRecord) : TrapRecord :=
  match r.step with
  | some h => { r with state := .unknown, step := none, lapsed := some ⟨h.step, h.owner⟩ }
  | none => r

theorem expireStep_effects {x : TrapId} {h : StepInHand} (hstep : (s.trap x).step = some h) :
    RunPosts (once .trapEvent (.trap x)) s (expireStep x s) ∧
      (∀ y : TrapId, (expireStep x s).trap y = if y = x then expiredTrap (s.trap x) else s.trap y) ∧
      (expireStep x s).traps.launchOverdue =
        if x = .launch ∧ (s.trap x).state = .driving then none else s.traps.launchOverdue := by
  have hset := setTrap_only s x { s.trap x with state := .unknown, step := none, lapsed := some ⟨h.step, h.owner⟩ }
  have hposts := Posts.of_port_then (congrArg LineClock.lineTime (hset .clock (by simp))) (hset .port (by simp))
    (post_posts .trapEvent (.trap x) _)
  have hexpired : expiredTrap (s.trap x) =
      { s.trap x with state := .unknown, step := none, lapsed := some ⟨h.step, h.owner⟩ } := by
    rw [expiredTrap, hstep]
  rw [expireStep_eq hstep]
  have hleft := leaveDriving_only x (s.trap x).state .unknown (trapEvent x (s.setTrap x
    { s.trap x with state := .unknown, step := none, lapsed := some ⟨h.step, h.owner⟩ }))
  refine ⟨(hposts.runPosts fun y hy => ⟨x, List.mem_singleton.mp hy⟩).then_port
    (congrArg LineClock.lineTime (hleft .clock (by simp))) (hleft .port (by simp)), fun y => ?_, ?_⟩
  · rw [hexpired]
    exact (congrFun (leaveDriving_trap _ _ _ _) y).trans (setTrap_trap s x y _)
  · rw [leaveDriving_launchOverdue]
    simp only [ne_eq, reduceCtorEq, not_false_iff, and_true]
    rw [show (trapEvent x _).traps.launchOverdue = s.traps.launchOverdue from setTrap_launchOverdue s x _]

theorem expireDelay_runPosts (st : Fin 16) (s : State) : RunPosts (fun _ => []) s (expireDelay st s) := by
  have hsettled (made : Bool) (w : Watch) : RunPosts (fun _ => []) s (settleWatch st made (s.setWatch st w)) :=
    ((Posts.of_port_then rfl rfl (settleWatch_posts st made (s.setWatch st w))).runPosts
      (watchPostings_traps _ _ _ _ _)).silent rfl rfl
  unfold expireDelay
  dsimp only
  split
  · exact hsettled true _
  · exact hsettled false _
  · exact RunPosts.refl s

/-- The watch after its delay has run out has none; the others stay. -/
theorem expireDelay_watches {st : Fin 16} (h : s.watchUnit.watches[st].state = .making ∨ s.watchUnit.watches[st].state = .breaking)
    (k : Fin 16) : if k = st then (expireDelay st s).watchUnit.watches[k].delay = none
      else (expireDelay st s).watchUnit.watches[k] = s.watchUnit.watches[k] := by
  have hsettled (made : Bool) (w : Watch) (hw : w.delay = none) :
      if k = st then (settleWatch st made (s.setWatch st w)).watchUnit.watches[k].delay = none
      else (settleWatch st made (s.setWatch st w)).watchUnit.watches[k] = s.watchUnit.watches[k] := by
    rw [settleWatch_watchUnit, setWatch_watches]
    split
    · exact hw
    · rfl
  obtain hmaking | hbreaking := h
  · rw [expireDelay_making hmaking]
    exact hsettled true _ rfl
  · rw [expireDelay_breaking hbreaking]
    exact hsettled false _ rfl

theorem expireLaunch_effects (s : State) : RunPosts (once .launchOverdue (.trap .launch)) s (expireLaunch s) ∧
    (expireLaunch s).traps.launchOverdue = none ∧ (expireLaunch s).trap = s.trap :=
  ⟨((post_posts .launchOverdue (.trap .launch) s).then_port rfl rfl).runPosts (fun _ h => nomatch h), rfl,
    setLaunchOverdue_trap _ none⟩

end Effects

end Sys2Proof.Machine


/-! PROOF. The deadlines of a forward setting run out one after another, the earliest first, until none is left (R192). -/

namespace Sys2Proof.Machine

/-! ## Deadlines -/

section Deadlines

variable {s : State} {d : Nat}

theorem deadlineOf_update : deadlineOf s .update = some d ↔ s.tracker.running = true ∧ s.tracker.deadline = some d := by
  simp only [deadlineOf]
  split <;> simp [*]

theorem deadlineOf_entry :
    deadlineOf s .entry = some d ↔ ∃ e, s.intake.entries.head? = some e ∧ dueTime s.profile e = d := by
  simp [deadlineOf]

theorem deadlineOf_permit {st : Fin 16} :
    deadlineOf s (.permit st) = some d ↔ ∃ p, s.valves[st].permit = some p ∧ p.expiry = d := by
  simp [deadlineOf]

theorem deadlineOf_step {x : TrapId} :
    deadlineOf s (.step x) = some d ↔ ∃ h, (s.trap x).step = some h ∧ h.deadline = d := by
  simp [deadlineOf]

theorem deadlineOf_delay {st : Fin 16} : deadlineOf s (.delay st) = some d ↔
    (s.watchUnit.watches[st].state = .making ∨ s.watchUnit.watches[st].state = .breaking) ∧
      ∃ x, s.watchUnit.watches[st].delay = some x ∧ x.deadline = d := by
  simp only [deadlineOf]
  split
  · next h =>
    rw [Option.map_eq_some_iff]
    exact ⟨fun hd => ⟨h, hd⟩, fun hd => hd.2⟩
  · next h => exact ⟨fun hd => (nomatch hd), fun hd => absurd hd.1 h⟩

end Deadlines

/-! ## What any deadline leaves as it runs out -/

/-- The kind that a deadline posts, besides what the watches post. -/
def timerPosts : Timer → AttnKind → List Subject
  | .permit st => once .permitExpired (.station st)
  | .step x => once .trapEvent (.trap x)
  | .launch => once .launchOverdue (.trap .launch)
  | .update | .entry | .delay _ => fun _ => []

section RunOut

variable {v d : Nat} {s : State} {t : Timer}

theorem runOut_posts (hnow : s.now = some v) (hd : deadlineOf s t = some d) :
    RunPosts (timerPosts t) s (runOut v s t) := by
  cases t with
  | update => exact (trackerUpdate_effects v s).1
  | entry => exact (handFirst_effects hnow).1
  | permit st =>
    obtain ⟨p, hp, -⟩ := deadlineOf_permit.mp hd
    exact (expirePermit_effects hp).1
  | step x =>
    obtain ⟨h, hstep, -⟩ := deadlineOf_step.mp hd
    exact (expireStep_effects hstep).1
  | delay st => exact expireDelay_runPosts st s
  | launch => exact (expireLaunch_effects s).1

/-- The own fields of a valve record change as its own permit runs out, and not otherwise. -/
theorem runOut_own (hnow : s.now = some v) (hd : deadlineOf s t = some d) (k : Fin 16) :
    (runOut v s t).valves[k].own = if t = .permit k then (expiredValve s.valves[k]).own else s.valves[k].own := by
  cases t with
  | update => exact (trackerUpdate_effects v s).2.1 k
  | entry => exact (handFirst_effects hnow).2 k
  | permit st =>
    obtain ⟨p, hp, -⟩ := deadlineOf_permit.mp hd
    refine ((expirePermit_effects hp).2 k).trans ?_
    by_cases hk : k = st
    · subst hk
      rw [if_pos rfl, if_pos rfl]
    · rw [if_neg hk, if_neg fun h => hk (Timer.permit.inj h).symm]
  | step x => exact congrArg (fun w : Vector Valve 16 => w[k].own) (expireStep_only x s .valves (by simp))
  | delay st => exact (expireDelay_effects st s).2.2.1 k
  | launch => rfl

/-- A trap record changes as its own step runs out, and not otherwise. -/
theorem runOut_trap (hd : deadlineOf s t = some d) (x : TrapId) :
    (runOut v s t).trap x = if t = .step x then expiredTrap (s.trap x) else s.trap x := by
  cases t with
  | update => exact congrArg (fun w : Traps => w.record x) (trackerUpdate_effects v s).2.2.1
  | entry => exact congrFun (handFirst_trap v s) x
  | permit st => exact congrArg (fun w : Traps => w.record x) (expirePermit_only st s .traps (by simp))
  | step y =>
    obtain ⟨h, hstep, -⟩ := deadlineOf_step.mp hd
    refine ((expireStep_effects hstep).2.1 x).trans ?_
    by_cases hx : x = y
    · subst hx
      rw [if_pos rfl, if_pos rfl]
    · rw [if_neg hx, if_neg fun h => hx (Timer.step.inj h).symm]
  | delay st => exact congrArg (fun w : Traps => w.record x) ((expireDelay_effects st s).1 .traps (by simp))
  | launch => exact congrFun (expireLaunch_effects s).2.2 x

/-- The intake list loses its first entry as that falls due, and stays otherwise. -/
theorem runOut_intake (h : t ≠ .entry) : (runOut v s t).intake = s.intake := by
  cases t with
  | update => exact (trackerUpdate_effects v s).2.2.2.1
  | entry => exact absurd rfl h
  | permit st => exact expirePermit_only st s .intake (by simp)
  | step y => exact expireStep_only y s .intake (by simp)
  | delay st => exact (expireDelay_effects st s).1 .intake (by simp)
  | launch => rfl

theorem runOut_entries {e : IntakeEntry} {rest : List IntakeEntry} (hs : s.intake.entries = e :: rest)
    (hdue : dueTime s.profile e ≤ v) : (runOut v s .entry).intake.entries = rest :=
  congrArg Intake.entries (handFirst_intake hs (decide_eq_true hdue))

/-- The update alone writes the tracker. -/
theorem runOut_tracker (h : t ≠ .update) : (runOut v s t).tracker = s.tracker := by
  cases t with
  | update => exact absurd rfl h
  | entry => exact handFirst_only v s .tracker (by simp [handBlocks])
  | permit st => exact expirePermit_only st s .tracker (by simp)
  | step y => exact expireStep_only y s .tracker (by simp)
  | delay st => exact (expireDelay_effects st s).1 .tracker (by simp)
  | launch => rfl

theorem runOut_update : (runOut v s .update).tracker.running = s.tracker.running ∧
    (runOut v s .update).tracker.lastUpdate = some v ∧
    (runOut v s .update).tracker.deadline = nextDeadline s.profile v := by
  obtain ⟨-, -, -, -, h⟩ := trackerUpdate_effects v s
  rw [runOut]
  exact h

/-- The launch overdue deadline stays but for a launch, the end of DRIVE and its own running out. -/
theorem runOut_launchOverdue (hd : deadlineOf s t = some d) (hentry : t ≠ .entry) :
    (runOut v s t).traps.launchOverdue = s.traps.launchOverdue ∨
      (t = .step .launch ∨ t = .launch) ∧ (runOut v s t).traps.launchOverdue = none := by
  cases t with
  | update => exact .inl (congrArg Traps.launchOverdue (trackerUpdate_effects v s).2.2.1)
  | entry => exact absurd rfl hentry
  | permit st => exact .inl (congrArg Traps.launchOverdue (expirePermit_only st s .traps (by simp)))
  | step y =>
    obtain ⟨h, hstep, -⟩ := deadlineOf_step.mp hd
    have hlaunch := (expireStep_effects hstep).2.2
    split at hlaunch
    · next hy =>
      obtain ⟨rfl, -⟩ := hy
      exact .inr ⟨.inl rfl, hlaunch⟩
    · exact .inl hlaunch
  | delay st => exact .inl (congrArg Traps.launchOverdue ((expireDelay_effects st s).1 .traps (by simp)))
  | launch => exact .inr ⟨.inr rfl, rfl⟩

theorem runOut_profile (t : Timer) : (runOut v s t).profile = s.profile :=
  congrArg ProfileStore.running (runOut_only v s t .store (by simp [runBlocks]))

theorem runOut_now (t : Timer) : (runOut v s t).now = s.now :=
  congrArg LineClock.lineTime (runOut_only v s t .clock (by simp [runBlocks]))

end RunOut

/-! ## The work that the deadlines can still do -/

/-- The stations with a delay in flight. -/
def flights (s : State) : Finset (Fin 16) := Finset.univ.filter fun st => (deadlineOf s (.delay st)).isSome

/-- The stations with a permit. -/
def permitted (s : State) : Finset (Fin 16) := Finset.univ.filter fun st => s.valves[st].permit.isSome

/-- 1 where a deadline stands, 0 where it does not. -/
def standing (o : Option Nat) : Nat := if o.isSome then 1 else 0

/-- An upper bound of the deadlines that can still run out at line time `v`: an entry, a permit and an update may start
sixteen delays anew, and an entry the launch overdue deadline too. -/
def workLeft (v : Nat) (s : State) : Nat :=
  18 * s.intake.entries.length + 17 * (permitted s).card + (if reached v (deadlineOf s .update) then 17 else 0) +
    (flights s).card + standing (deadlineOf s (.step .launch)) + standing (deadlineOf s (.step .receive)) +
    standing (deadlineOf s .launch)

section Work

variable {v d : Nat} {s : State} {t : Timer}

theorem standing_le (o : Option Nat) : standing o ≤ 1 := by
  unfold standing
  split <;> omega

theorem flights_card_le (s : State) : (flights s).card ≤ 16 := card_finset_fin_le _

theorem permitted_card_le (s : State) : (permitted s).card ≤ 16 := card_finset_fin_le _

theorem workLeft_le (v : Nat) (s : State) : workLeft v s ≤ 18 * s.intake.entries.length + 512 := by
  have hupdate : (if reached v (deadlineOf s .update) = true then 17 else 0) ≤ 17 := by split <;> omega
  have := flights_card_le s
  have := permitted_card_le s
  have := standing_le (deadlineOf s (.step .launch))
  have := standing_le (deadlineOf s (.step .receive))
  have := standing_le (deadlineOf s .launch)
  unfold workLeft
  omega

/-- The permit of a valve record is one of its own fields. -/
theorem permit_of_own {x y : Valve} (h : x.own = y.own) : x.permit = y.permit := (own_eq_iff.mp h).2.2.1

theorem expiredValve_permit (x : Valve) : (expiredValve x).permit = none := by
  unfold expiredValve
  split
  · rfl
  · next h => exact h

theorem expiredTrap_step (r : TrapRecord) : (expiredTrap r).step = none := by
  unfold expiredTrap
  split
  · rfl
  · next h => exact h

theorem runOut_permitted (hnow : s.now = some v) (hd : deadlineOf s t = some d) (ht : ∀ k, t ≠ .permit k) :
    permitted (runOut v s t) = permitted s := by
  refine Finset.filter_congr fun k _ => ?_
  have hown := runOut_own hnow hd k
  rw [if_neg (ht k)] at hown
  rw [permit_of_own hown]

theorem runOut_permitted_lt {st : Fin 16} (hnow : s.now = some v) (hd : deadlineOf s (.permit st) = some d) :
    (permitted (runOut v s (.permit st))).card < (permitted s).card := by
  obtain ⟨p, hp, -⟩ := deadlineOf_permit.mp hd
  refine Finset.card_lt_card (Finset.ssubset_iff_of_subset (fun k hk => ?_) |>.mpr ⟨st, ?_, ?_⟩)
  · have hown := runOut_own hnow hd k
    rw [permitted, Finset.mem_filter] at hk ⊢
    refine ⟨Finset.mem_univ k, ?_⟩
    split at hown
    · rw [permit_of_own hown, expiredValve_permit] at hk
      cases hk.2
    · rw [← permit_of_own hown]
      exact hk.2
  · rw [permitted, Finset.mem_filter, hp]
    exact ⟨Finset.mem_univ st, rfl⟩
  · have hown := runOut_own hnow hd st
    rw [if_pos rfl] at hown
    rw [permitted, Finset.mem_filter, permit_of_own hown, expiredValve_permit]
    exact fun h => by cases h.2

theorem flights_congr {u : State} (h : u.watchUnit = s.watchUnit) : flights u = flights s := by
  refine Finset.filter_congr fun k _ => ?_
  simp only [deadlineOf, h]

theorem runOut_flights_lt {st : Fin 16} (hd : deadlineOf s (.delay st) = some d) :
    (flights (runOut v s (.delay st))).card < (flights s).card := by
  have hwatches := expireDelay_watches (deadlineOf_delay.mp hd).1
  have hgone : deadlineOf (expireDelay st s) (.delay st) = none := by
    have hst := hwatches st
    rw [if_pos rfl] at hst
    simp only [deadlineOf, hst, Option.map_none, ite_self]
  refine Finset.card_lt_card (Finset.ssubset_iff_of_subset (fun k hk => ?_) |>.mpr ⟨st, ?_, ?_⟩)
  · rw [flights, Finset.mem_filter] at hk ⊢
    refine ⟨Finset.mem_univ k, ?_⟩
    by_cases hk' : k = st
    · subst hk'
      have hsome := hk.2
      rw [show runOut v s (.delay k) = expireDelay k s from rfl, hgone] at hsome
      cases hsome
    · have hsame := hwatches k
      rw [if_neg hk'] at hsame
      have hsome := hk.2
      simp only [deadlineOf, runOut, hsame] at hsome
      exact hsome
  · rw [flights, Finset.mem_filter, hd]
    exact ⟨Finset.mem_univ st, rfl⟩
  · rw [flights, Finset.mem_filter, show runOut v s (.delay st) = expireDelay st s from rfl, hgone]
    exact fun h => by cases h.2

end Work

section Progress

variable {v d : Nat} {s : State} {t : Timer}

/-- After an update no update is due at the same line time. -/
theorem update_not_due {u : State} (hv : v ≤ 4294967295) (hperiod : 1 ≤ s.profile.tracking.period)
    (h : u.tracker.deadline = nextDeadline s.profile v) : reached v (deadlineOf u .update) = false := by
  have hnext : ∀ d, nextDeadline s.profile v = some d → v < d := by
    intro d hd
    unfold nextDeadline at hd
    split at hd
    · cases hd
    · next hmax =>
      cases hd
      simp only [addTime, tenths, maxTime] at hmax ⊢
      omega
  simp only [deadlineOf]
  split
  · rw [h]
    cases hd : nextDeadline s.profile v with
    | none => rfl
    | some d => exact decide_eq_false (Nat.not_le.mpr (hnext d hd))
  · rfl

theorem updateReached_congr {u : State} (h : u.tracker = s.tracker) :
    reached v (deadlineOf u .update) = reached v (deadlineOf s .update) := by
  simp only [deadlineOf, h]

theorem stepDeadline_congr {x : TrapId} {u : State} (h : u.trap x = s.trap x) :
    deadlineOf u (.step x) = deadlineOf s (.step x) := by
  simp only [deadlineOf, h]

/-- Every deadline that runs out leaves less to do. -/
theorem runOut_work (hnow : s.now = some v) (hv : v ≤ 4294967295) (hperiod : 1 ≤ s.profile.tracking.period)
    (hd : deadlineOf s t = some d) (hdue : d ≤ v) : workLeft v (runOut v s t) < workLeft v s := by
  have hflights := flights_card_le (runOut v s t)
  have hsteps (hstep : ∀ x, t ≠ .step x) (x : TrapId) : deadlineOf (runOut v s t) (.step x) = deadlineOf s (.step x) :=
    stepDeadline_congr ((runOut_trap hd x).trans (if_neg (hstep x)))
  have hlaunch (hentry : t ≠ .entry) : standing (deadlineOf (runOut v s t) .launch) ≤ standing (deadlineOf s .launch) := by
    obtain h | ⟨-, h⟩ := runOut_launchOverdue (v := v) hd hentry
    · exact Nat.le_of_eq (by simp only [deadlineOf, h])
    · simp only [deadlineOf, h, standing, Option.isSome_none, Bool.false_eq_true, if_false, Nat.zero_le]
  have hpermits (ht : ∀ k, t ≠ .permit k) := runOut_permitted hnow hd ht
  have hintake (ht : t ≠ .entry) := runOut_intake (v := v) (s := s) ht
  have hupdate (ht : t ≠ .update) := updateReached_congr (v := v) (runOut_tracker (v := v) (s := s) ht)
  cases t with
  | update =>
    have hwas : reached v (deadlineOf s .update) = true := by
      rw [hd]
      exact decide_eq_true hdue
    have his : reached v (deadlineOf (runOut v s .update) .update) = false :=
      update_not_due (s := s) hv hperiod runOut_update.2.2
    have := hlaunch (by simp)
    simp only [workLeft, hwas, his, hpermits (by simp), hintake (by simp), hsteps (by simp), if_true, Bool.false_eq_true,
      if_false]
    omega
  | entry =>
    obtain ⟨e, he, hde⟩ := deadlineOf_entry.mp hd
    obtain ⟨rest, hentries⟩ := List.head?_eq_some_iff.mp he
    have hleft := runOut_entries (v := v) hentries (hde ▸ hdue)
    have := standing_le (deadlineOf (runOut v s .entry) .launch)
    simp only [workLeft, hpermits (by simp), hupdate (by simp), hsteps (by simp), hleft, hentries, List.length_cons]
    omega
  | permit st =>
    have := runOut_permitted_lt hnow hd
    have := hlaunch (by simp)
    simp only [workLeft, hupdate (by simp), hintake (by simp), hsteps (by simp)]
    omega
  | step x =>
    have hsame : flights (runOut v s (.step x)) = flights s := flights_congr (expireStep_only x s .watchUnit (by simp))
    have := hlaunch (by simp)
    have hgone : deadlineOf (runOut v s (.step x)) (.step x) = none := by
      have htrap := (runOut_trap (v := v) hd x).trans (if_pos rfl)
      simp only [deadlineOf, htrap, expiredTrap_step, Option.map_none]
    have hother (y : TrapId) (hy : y ≠ x) : deadlineOf (runOut v s (.step x)) (.step y) = deadlineOf s (.step y) :=
      stepDeadline_congr ((runOut_trap hd y).trans (if_neg fun h => hy (Timer.step.inj h).symm))
    have hone : standing (some d) = 1 := rfl
    have hzero : standing none = 0 := rfl
    cases x with
    | launch =>
      simp only [workLeft, hupdate (by simp), hintake (by simp), hpermits (by simp), hsame, hgone, hd, hone, hzero,
        hother .receive (by simp)]
      omega
    | receive =>
      simp only [workLeft, hupdate (by simp), hintake (by simp), hpermits (by simp), hsame, hgone, hd, hone, hzero,
        hother .launch (by simp)]
      omega
  | delay st =>
    have := runOut_flights_lt (v := v) hd
    have := hlaunch (by simp)
    simp only [workLeft, hupdate (by simp), hintake (by simp), hpermits (by simp), hsteps (by simp)]
    omega
  | launch =>
    have hsame : flights (runOut v s .launch) = flights s := flights_congr rfl
    have hgone : deadlineOf (runOut v s .launch) .launch = none := rfl
    have hone : standing (some d) = 1 := rfl
    have hzero : standing none = 0 := rfl
    simp only [workLeft, hupdate (by simp), hintake (by simp), hpermits (by simp), hsteps (by simp), hsame, hgone, hd,
      hone, hzero]
    omega

end Progress

/-! ## The earliest deadline -/

/-- The least of a list and of a value held before. -/
theorem foldl_capAt {l : List Nat} {best : Option Nat} {d : Nat}
    (h : l.foldl (fun best d => some (capAt d best)) best = some d) :
    (best = some d ∨ d ∈ l) ∧ (∀ b, best = some b → d ≤ b) ∧ ∀ x ∈ l, d ≤ x := by
  induction l generalizing best with
  | nil =>
    refine ⟨.inl h, fun b hb => ?_, fun x hx => by cases hx⟩
    rw [List.foldl_nil, hb, Option.some.injEq] at h
    omega
  | cons y l ih =>
    obtain ⟨hmem, hle, hall⟩ := ih h
    have hcap := hle _ rfl
    cases best with
    | none =>
      refine ⟨.inr (List.mem_cons.mpr (hmem.imp_left fun h => (Option.some.inj h).symm)), fun b hb => (nomatch hb), fun x hx => ?_⟩
      exact (List.mem_cons.mp hx).elim (fun h => h ▸ hcap) (hall x)
    | some b =>
      simp only [capAt] at hcap hmem
      refine ⟨?_, fun c hc => ?_, fun x hx => ?_⟩
      · obtain hmin | hl := hmem
        · obtain h | h := min_choice y b
          · exact .inr (List.mem_cons.mpr (.inl ((Option.some.inj hmin).symm.trans h)))
          · exact .inl (by rw [← hmin, h])
        · exact .inr (List.mem_cons_of_mem _ hl)
      · cases hc
        omega
      · obtain rfl | hx := List.mem_cons.mp hx
        · omega
        · exact hall x hx

theorem earliest_some {l : List Nat} {d : Nat} (h : earliest l = some d) : d ∈ l ∧ ∀ x ∈ l, d ≤ x := by
  obtain ⟨hmem, -, hall⟩ := foldl_capAt h
  exact ⟨hmem.resolve_left (by simp), hall⟩

theorem earliest_cons (x : Nat) (l : List Nat) : ∃ d, earliest (x :: l) = some d := by
  have hsome (l : List Nat) (best : Nat) : ∃ d, l.foldl (fun best d => some (capAt d best)) (some best) = some d := by
    induction l generalizing best with
    | nil => exact ⟨best, rfl⟩
    | cons y l ih => exact ih _
  exact hsome l _

theorem mem_allTimers (t : Timer) : t ∈ allTimers := by
  cases t with
  | permit st => simp [allTimers]
  | delay st => simp [allTimers]
  | step x => cases x <;> simp [allTimers]
  | update | entry | launch => simp [allTimers]

section Next

variable {v : Nat} {s : State} {t : Timer}

/-- A timer that runs out next has been reached, and none has an earlier deadline. -/
theorem nextTimers_due (h : t ∈ nextTimers v s) :
    ∃ d, deadlineOf s t = some d ∧ d ≤ v ∧ ∀ t' d', deadlineOf s t' = some d' → d ≤ d' := by
  simp only [nextTimers, List.mem_filter, beq_iff_eq] at h
  obtain ⟨⟨-, hreached⟩, hfirst⟩ := h
  cases hd : deadlineOf s t with
  | none =>
    rw [hd] at hreached
    cases hreached
  | some d =>
    rw [hd] at hreached hfirst
    have hdue : d ≤ v := of_decide_eq_true hreached
    obtain ⟨-, hleast⟩ := earliest_some hfirst.symm
    refine ⟨d, rfl, hdue, fun t' d' hd' => ?_⟩
    by_cases hdue' : d' ≤ v
    · refine hleast d' (List.mem_filterMap.mpr ⟨t', ?_, hd'⟩)
      rw [List.mem_filter, hd']
      exact ⟨mem_allTimers t', decide_eq_true hdue'⟩
    · omega

/-- Where no timer runs out next, none has been reached. -/
theorem nextTimers_nil (h : nextTimers v s = []) : ∀ t d, deadlineOf s t = some d → v < d := by
  intro t d hd
  by_contra hlate
  have ht : t ∈ allTimers.filter fun t => reached v (deadlineOf s t) := by
    rw [List.mem_filter, hd]
    exact ⟨mem_allTimers t, decide_eq_true (Nat.not_lt.mp hlate)⟩
  have hmem : d ∈ (allTimers.filter fun t => reached v (deadlineOf s t)).filterMap (deadlineOf s) :=
    List.mem_filterMap.mpr ⟨t, ht, hd⟩
  obtain ⟨x, l, hl⟩ := List.exists_cons_of_ne_nil (List.ne_nil_of_mem hmem)
  obtain ⟨first, hfirst⟩ := earliest_cons x l
  rw [← hl] at hfirst
  obtain ⟨t', ht', hd'⟩ := List.mem_filterMap.mp (earliest_some hfirst).1
  have hnext : t' ∈ nextTimers v s := by
    simp only [nextTimers]
    rw [List.mem_filter, hfirst, hd']
    exact ⟨ht', beq_self_eq_true _⟩
  rw [h] at hnext
  cases hnext

/-- One round: no timer is left, or one that runs out next does so, the free value counted on. -/
theorem runDeadlines_succ (v fuel : Nat) (s : State) :
    (nextTimers v s = [] ∧ runDeadlines v (fuel + 1) s = s) ∨
      ∃ t n, t ∈ nextTimers v s ∧ runDeadlines v (fuel + 1) s = runDeadlines v fuel (runOut v (s.setFreeCount n) t) := by
  rw [runDeadlines]
  split
  · next h => exact .inl ⟨h, rfl⟩
  · next t h => exact .inr ⟨t, s.freeCount, by rw [h]; exact List.mem_singleton_self t, rfl⟩
  · next t rest _ h =>
    refine .inr ⟨_, _, ?_, rfl⟩
    rw [h]
    have hlt : Config.tieBreak s.freeCount % (t :: rest).length < (t :: rest).length := Nat.mod_lt _ (by simp)
    rw [List.getElem?_eq_getElem hlt]
    exact List.getElem_mem hlt

/-- What every deadline that runs out keeps, a forward setting keeps. -/
theorem runDeadlines_keep {P : State → Prop} (hfree : ∀ s n, P s → P (s.setFreeCount n))
    (hstep : ∀ s t d, s.now = some v → deadlineOf s t = some d → d ≤ v → P s → P (runOut v s t)) {s : State}
    (hnow : s.now = some v) (hs : P s) (fuel : Nat) : P (runDeadlines v fuel s) := by
  induction fuel generalizing s with
  | zero => exact hs
  | succ fuel ih =>
    obtain ⟨-, h⟩ | ⟨t, n, ht, h⟩ := runDeadlines_succ v fuel s
    · rwa [h]
    · obtain ⟨d, hd, hdue, -⟩ := nextTimers_due ht
      rw [h]
      exact ih ((runOut_now t).trans hnow) (hstep (s.setFreeCount n) t d hnow hd hdue (hfree s n hs))

/-- With fuel for the work that is left, no deadline that has been reached is. -/
theorem runDeadlines_ends {s : State} (hnow : s.now = some v) (hv : v ≤ 4294967295)
    (hperiod : 1 ≤ s.profile.tracking.period) {fuel : Nat} (hfuel : workLeft v s ≤ fuel) :
    ∀ t d, deadlineOf (runDeadlines v fuel s) t = some d → v < d := by
  induction fuel generalizing s with
  | zero =>
    intro t d hd
    by_contra hlate
    have := runOut_work hnow hv hperiod hd (Nat.not_lt.mp hlate)
    omega
  | succ fuel ih =>
    obtain ⟨hnil, h⟩ | ⟨t, n, ht, h⟩ := runDeadlines_succ v fuel s
    · rw [h]
      exact nextTimers_nil hnil
    · obtain ⟨d, hd, hdue, -⟩ := nextTimers_due ht
      have hless : workLeft v (runOut v (s.setFreeCount n) t) < workLeft v (s.setFreeCount n) :=
        runOut_work (s := s.setFreeCount n) hnow hv hperiod hd hdue
      have hsame : workLeft v (s.setFreeCount n) = workLeft v s := rfl
      rw [h]
      exact ih ((runOut_now t).trans hnow) (by rw [runOut_profile]; exact hperiod) (by omega)

/-- A timer that has been reached runs out by its own event. -/
theorem exec_event_of_due {d : Nat} (hpower : s.powered = true) (hnow : s.now = some v) (hd : deadlineOf s t = some d)
    (hdue : d ≤ v) : exec t.event s = .next ((runOut v s t).setReply none) := by
  have hreached := reached_some hdue
  cases t with
  | update =>
    obtain ⟨hrunning, hdeadline⟩ := deadlineOf_update.mp hd
    refine (happen_timed hpower hnow).trans ?_
    rw [if_pos]
    · rfl
    · rw [updateDue, hrunning, hdeadline, hreached]
      rfl
  | entry => exact happen_timed hpower hnow
  | permit st =>
    obtain ⟨p, hp, hexpiry⟩ := deadlineOf_permit.mp hd
    refine (happen_timed (f := fun now s => if permitDue now st s then expirePermit st s else s) hpower hnow).trans ?_
    rw [if_pos]
    · rfl
    · rw [permitDue, hp, Option.map_some, hexpiry, hreached]
  | step x =>
    obtain ⟨h, hstep, hdeadline⟩ := deadlineOf_step.mp hd
    refine (happen_timed (f := fun now s => if stepDue now x s then expireStep x s else s) hpower hnow).trans ?_
    rw [if_pos]
    · rfl
    · rw [stepDue, hstep, Option.map_some, hdeadline, hreached]
  | delay st =>
    obtain ⟨-, x, hx, hdeadline⟩ := deadlineOf_delay.mp hd
    exact exec_watchDelayExpiry hpower hnow hx (hdeadline ▸ hdue)
  | launch =>
    refine (happen_timed (f := fun now s => if launchDue now s then expireLaunch s else s) hpower hnow).trans ?_
    rw [if_pos]
    · rfl
    · rw [launchDue, show s.traps.launchOverdue = some d from hd, hreached]

/-- The run of the deadlines is one of events, each the earliest of those that stand. -/
theorem runDeadlines_runsOut {s : State} (hpower : s.powered = true) (hnow : s.now = some v) (hv : v ≤ 4294967295)
    (hperiod : 1 ≤ s.profile.tracking.period) {fuel : Nat} (hfuel : workLeft v s ≤ fuel) :
    ∃ timers, RunsOut v timers s (runDeadlines v fuel s) := by
  induction fuel generalizing s with
  | zero => exact ⟨[], rfl, runDeadlines_ends hnow hv hperiod hfuel⟩
  | succ fuel ih =>
    obtain ⟨hnil, h⟩ | ⟨t, n, ht, h⟩ := runDeadlines_succ v fuel s
    · exact ⟨[], h, nextTimers_nil hnil⟩
    · obtain ⟨d, hd, hdue, hleast⟩ := nextTimers_due ht
      have hless : workLeft v (runOut v (s.setFreeCount n) t) < workLeft v (s.setFreeCount n) :=
        runOut_work (s := s.setFreeCount n) hnow hv hperiod hd hdue
      have hsame : workLeft v (s.setFreeCount n) = workLeft v s := rfl
      have hkeeps := runOut_only v (s.setFreeCount n) t
      have hexec := exec_event_of_due (s := s.setFreeCount n) hpower hnow hd hdue
      have hreply : ((runOut v (s.setFreeCount n) t).setReply none).setReply s.reply = runOut v (s.setFreeCount n) t := by
        have hr : (runOut v (s.setFreeCount n) t).reply = s.reply := hkeeps .reply (by simp [runBlocks])
        rw [← hr]
        rfl
      obtain ⟨timers, hrun⟩ := ih (s := runOut v (s.setFreeCount n) t)
        ((hkeeps .powered (by simp [runBlocks])).trans hpower) ((runOut_now t).trans hnow)
        (by rw [runOut_profile]; exact hperiod) (by omega)
      rw [h]
      exact ⟨t :: timers, ⟨d, hd, hdue, hleast⟩, n, _, hexec, by rw [hreply]; exact hrun⟩

end Next

end Sys2Proof.Machine


/-! PROOF. What a forward setting of line time leaves of the permits, the trap steps, the update timer and the launch
overdue deadline (R192). -/

namespace Sys2Proof.Machine

/-! ## What the run of the deadlines keeps -/

/-- Each permit that has run out was due, left its valve so, and was posted once; the others stand. -/
def PermitsRun (v : Nat) (a s : State) : Prop :=
  ∃ l : List (Fin 16), l.Nodup ∧ (∀ st ∈ l, (∃ p, a.valves[st].permit = some p ∧ p.expiry ≤ v) ∧
      s.valves[st].own = (expiredValve a.valves[st]).own) ∧
    (∀ st, st ∉ l → s.valves[st].own = a.valves[st].own) ∧
    Posted .permitExpired (l.map fun st => .station st.val) a s

/-- Each step that has run out was due and left its trap so; TRAP_EVENT was posted where one has. -/
def StepsRun (v : Nat) (a s : State) : Prop :=
  (∀ x, s.trap x = a.trap x ∨
      (∃ h, (a.trap x).step = some h ∧ h.deadline ≤ v) ∧ s.trap x = expiredTrap (a.trap x)) ∧
    ∃ l : List Subject, (∀ y ∈ l, ∃ x, y = .trap x) ∧ ((∃ x, s.trap x ≠ a.trap x) → l ≠ []) ∧ Posted .trapEvent l a s

/-- The tracker stands as it was, or has made its update at the new line time. -/
def TrackerRun (v : Nat) (a s : State) : Prop :=
  s.tracker = a.tracker ∨ s.tracker.running = a.tracker.running ∧ s.tracker.lastUpdate = some v ∧
    s.tracker.deadline = nextDeadline a.profile v

/-- What the run keeps, from the state `a` in which line time was set forward. -/
def RunKept (v : Nat) (a s : State) : Prop :=
  s.profile = a.profile ∧ s.now = a.now ∧ ContextsKept a s ∧ PermitsRun v a s ∧ StepsRun v a s ∧ TrackerRun v a s

section Kept

variable {v d : Nat} {a s : State} {t : Timer}

theorem expiredValve_own {x y : Valve} (h : x.own = y.own) : (expiredValve x).own = (expiredValve y).own := by
  obtain ⟨hposition, hhold, hpermit, hlapsed, hforced⟩ := own_eq_iff.mp h
  unfold expiredValve
  rw [hpermit]
  cases y.permit with
  | none => exact h
  | some p => exact own_eq_iff.mpr ⟨rfl, hhold, rfl, rfl, hforced⟩

theorem PermitsRun.step (h : PermitsRun v a s) (hnow : s.now = some v) (hd : deadlineOf s t = some d) (hdue : d ≤ v) :
    PermitsRun v a (runOut v s t) := by
  obtain ⟨l, hnodup, hexpired, hother, hposted⟩ := h
  have hown := runOut_own hnow hd
  obtain ⟨hsame, -, hpermit, -⟩ := runOut_posts hnow hd
  by_cases ht : ∃ st, t = .permit st
  · obtain ⟨st, rfl⟩ := ht
    obtain ⟨p, hp, rfl⟩ := deadlineOf_permit.mp hd
    have hst : st ∉ l := fun hmem => by
      have hnone := permit_of_own (hexpired st hmem).2
      rw [expiredValve_permit, hp] at hnone
      cases hnone
    have hfresh := hother st hst
    have hpa : a.valves[st].permit = some p := (permit_of_own hfresh).symm.trans hp
    refine ⟨l ++ [st], ?_, fun k hk => ?_, fun k hk => ?_, ?_⟩
    · rw [List.nodup_append]
      exact ⟨hnodup, List.nodup_singleton st, fun x hx y hy heq => hst (by rwa [← List.mem_singleton.mp hy, ← heq])⟩
    · obtain hk | hk := List.mem_append.mp hk
      · rw [hown k, if_neg fun h => hst (by rw [Timer.permit.inj h]; exact hk)]
        exact hexpired k hk
      · obtain rfl := List.mem_singleton.mp hk
        rw [hown k, if_pos rfl]
        exact ⟨⟨p, hpa, hdue⟩, expiredValve_own hfresh⟩
    · rw [List.mem_append, not_or, List.mem_singleton] at hk
      rw [hown k, if_neg fun h => hk.2 (Timer.permit.inj h).symm]
      exact hother k hk.1
    · rw [List.map_append]
      exact hposted.trans hpermit hsame
  · have hstays (k : Fin 16) : (runOut v s t).valves[k].own = s.valves[k].own :=
      (hown k).trans (if_neg fun h => ht ⟨k, h⟩)
    have hnone : timerPosts t .permitExpired = [] := by
      cases t with
      | permit st => exact absurd ⟨st, rfl⟩ ht
      | update | entry | step _ | delay _ | launch => rfl
    rw [hnone] at hpermit
    refine ⟨l, hnodup, fun k hk => ⟨(hexpired k hk).1, (hstays k).trans (hexpired k hk).2⟩,
      fun k hk => (hstays k).trans (hother k hk), ?_⟩
    have hall := hposted.trans hpermit hsame
    rwa [List.append_nil] at hall

theorem StepsRun.step (h : StepsRun v a s) (hnow : s.now = some v) (hd : deadlineOf s t = some d) (hdue : d ≤ v) :
    StepsRun v a (runOut v s t) := by
  obtain ⟨htraps, l, hl, hne, hposted⟩ := h
  have htrap := runOut_trap (v := v) hd
  obtain ⟨hsame, -, -, -, l', hl', hne', hposted'⟩ := runOut_posts hnow hd
  refine ⟨fun x => ?_, l ++ l', fun y hy => (List.mem_append.mp hy).elim (hl y) (hl' y), fun ⟨x, hx⟩ => ?_,
    hposted.trans hposted' hsame⟩
  · by_cases ht : t = .step x
    · subst ht
      obtain ⟨h, hstep, rfl⟩ := deadlineOf_step.mp hd
      obtain hkept | ⟨-, hgone⟩ := htraps x
      · refine .inr ⟨⟨h, by rw [← hkept, hstep], hdue⟩, ?_⟩
        rw [htrap x, if_pos rfl, hkept]
      · rw [hgone, expiredTrap_step] at hstep
        cases hstep
    · rw [htrap x, if_neg ht]
      exact htraps x
  · rw [Ne, List.append_eq_nil_iff, not_and_or]
    by_cases ht : t = .step x
    · subst ht
      exact .inr (hne' (by simp [timerPosts, once]))
    · rw [htrap x, if_neg ht] at hx
      exact .inl (hne ⟨x, hx⟩)

theorem TrackerRun.step (h : TrackerRun v a s) (hprofile : s.profile = a.profile) : TrackerRun v a (runOut v s t) := by
  by_cases ht : t = .update
  · subst ht
    obtain ⟨hrunning, hlast, hnext⟩ := runOut_update (v := v) (s := s)
    rw [hprofile] at hnext
    refine .inr ⟨hrunning.trans ?_, hlast, hnext⟩
    exact h.elim (congrArg Tracker.running) (·.1)
  · rw [TrackerRun, runOut_tracker ht]
    exact h

theorem RunKept.refl (v : Nat) (a : State) : RunKept v a a :=
  ⟨rfl, rfl, (Posts.refl a).2.1, ⟨[], List.nodup_nil, fun _ h => (nomatch h), fun _ _ => rfl, Posted.of_port rfl⟩,
    ⟨fun _ => .inl rfl, [], fun _ h => (nomatch h), fun ⟨_, h⟩ => absurd rfl h, Posted.of_port rfl⟩, .inl rfl⟩

theorem RunKept.step (h : RunKept v a s) (hnow : s.now = some v) (hd : deadlineOf s t = some d) (hdue : d ≤ v) :
    RunKept v a (runOut v s t) := by
  obtain ⟨hprofile, hsame, hkept, hpermits, hsteps, htracker⟩ := h
  exact ⟨(runOut_profile t).trans hprofile, (runOut_now t).trans hsame, hkept.trans (runOut_posts hnow hd).2.1,
    hpermits.step hnow hd hdue, hsteps.step hnow hd hdue, htracker.step hprofile⟩

theorem runDeadlines_kept (hnow : a.now = some v) (fuel : Nat) : RunKept v a (runDeadlines v fuel a) :=
  runDeadlines_keep (P := RunKept v a) (fun _ _ h => h) (fun _ _ _ hnow hd hdue h => h.step hnow hd hdue) hnow
    (RunKept.refl v a) fuel

end Kept

/-! ## The launch overdue deadline where no entry and no launch step is due -/

/-- No entry is handed and no launch step runs out; the launch overdue deadline stands, or has run out and was posted. -/
def LaunchRun (v : Nat) (a s : State) : Prop :=
  s.profile = a.profile ∧ s.intake = a.intake ∧ s.trap .launch = a.trap .launch ∧
    (s.traps.launchOverdue = a.traps.launchOverdue ∧ Posted .launchOverdue [] a s ∨
      (∃ d, a.traps.launchOverdue = some d ∧ d ≤ v) ∧ s.traps.launchOverdue = none ∧
        Posted .launchOverdue [.trap .launch] a s)

section Launch

variable {v d : Nat} {a s : State} {t : Timer}

theorem LaunchRun.step (h : LaunchRun v a s) (hentry : ∀ d, deadlineOf a .entry = some d → v < d)
    (hlaunch : ∀ d, deadlineOf a (.step .launch) = some d → v < d) (hnow : s.now = some v)
    (hd : deadlineOf s t = some d) (hdue : d ≤ v) : LaunchRun v a (runOut v s t) := by
  obtain ⟨hprofile, hintake, htrap, hrun⟩ := h
  have hentry' : t ≠ .entry := by
    rintro rfl
    simp only [deadlineOf, hprofile, hintake] at hd
    exact absurd (hentry d hd) (Nat.not_lt.mpr hdue)
  have hstep' : t ≠ .step .launch := by
    rintro rfl
    simp only [deadlineOf, htrap] at hd
    exact absurd (hlaunch d hd) (Nat.not_lt.mpr hdue)
  obtain ⟨hsame, -, -, hposted, -⟩ := runOut_posts hnow hd
  refine ⟨(runOut_profile t).trans hprofile, (runOut_intake hentry').trans hintake,
    ((runOut_trap hd .launch).trans (if_neg hstep')).trans htrap, ?_⟩
  by_cases ht : t = .launch
  · subst ht
    obtain ⟨hkept, hquiet⟩ | ⟨-, hgone, -⟩ := hrun
    · exact .inr ⟨⟨d, hkept ▸ hd, hdue⟩, rfl, hquiet.trans hposted hsame⟩
    · rw [show deadlineOf s .launch = s.traps.launchOverdue from rfl, hgone] at hd
      cases hd
  · have hnone : timerPosts t .launchOverdue = [] := by
      cases t with
      | launch => exact absurd rfl ht
      | update | entry | step _ | delay _ | permit _ => rfl
    rw [hnone] at hposted
    have hkeeps : (runOut v s t).traps.launchOverdue = s.traps.launchOverdue :=
      (runOut_launchOverdue hd hentry').resolve_right fun h => h.1.elim hstep' ht
    rw [hkeeps]
    refine hrun.imp (fun h => ⟨h.1, ?_⟩) fun h => ⟨h.1, h.2.1, ?_⟩
    · exact h.2.trans hposted hsame
    · exact h.2.2.trans hposted hsame

theorem runDeadlines_launch (hnow : a.now = some v) (hentry : ∀ d, deadlineOf a .entry = some d → v < d)
    (hlaunch : ∀ d, deadlineOf a (.step .launch) = some d → v < d) (fuel : Nat) :
    LaunchRun v a (runDeadlines v fuel a) :=
  runDeadlines_keep (P := LaunchRun v a) (fun _ _ h => h)
    (fun _ _ _ hnow hd hdue h => h.step hentry hlaunch hnow hd hdue) hnow
    ⟨rfl, rfl, rfl, .inl ⟨rfl, Posted.of_port rfl⟩⟩ fuel

end Launch

/-! ## Where the run has ended -/

/-- No deadline that stands has been reached. -/
def Settled (v : Nat) (u : State) : Prop := ∀ t d, deadlineOf u t = some d → v < d

section Ended

variable {v : Nat} {a u : State}

/-- What was posted for one order of its subjects was posted for any. -/
theorem Posted.somehow {k : AttnKind} {l l' : List Subject} {s t : State} (h : Posted k l s t) (hperm : l.Perm l') :
    PostedSomehow k l' s t := by
  obtain ⟨hdetail, hattention⟩ := h
  refine ⟨?_, fun hne => ?_, fun m => ?_⟩
  · rintro rfl
    rw [List.perm_nil.mp hperm] at hdetail
    exact hdetail
  · have hl : l ≠ [] := by
      rintro rfl
      exact hne (List.nil_perm.mp hperm)
    rw [List.getLast?_eq_some_getLast hl] at hdetail
    exact ⟨l.getLast hl, hperm.mem_iff.mp (List.getLast_mem hl), by rw [← hperm.length_eq]; exact hdetail⟩
  · rw [hattention m]
    cases l with
    | nil => rw [List.nil_perm.mp hperm]
    | cons x l =>
      cases l' with
      | nil => exact absurd hperm.symm (List.nil_perm.not.mpr (by simp))
      | cons y l' => rfl

theorem Settled.permit (h : Settled v u) {st : Fin 16} {p : Permit} (hp : u.valves[st].permit = some p) : v < p.expiry :=
  h (.permit st) _ (deadlineOf_permit.mpr ⟨p, hp, rfl⟩)

theorem Settled.step (h : Settled v u) {x : TrapId} {y : StepInHand} (hy : (u.trap x).step = some y) : v < y.deadline :=
  h (.step x) _ (deadlineOf_step.mpr ⟨y, hy, rfl⟩)

/-- At the end each valve record has lost the permit that was due, and no other. -/
theorem PermitsRun.ended (h : PermitsRun v a u) (hend : Settled v u) (st : Fin 16) :
    u.valves[st].own = match a.valves[st].permit with
      | some p => if p.expiry ≤ v then { a.valves[st] with
          position := .unknown, permit := none, lapsed := some ⟨p.owner, p.direction⟩ }.own else a.valves[st].own
      | none => a.valves[st].own := by
  obtain ⟨l, -, hexpired, hother, -⟩ := h
  by_cases hst : st ∈ l
  · obtain ⟨⟨p, hp, hdue⟩, hown⟩ := hexpired st hst
    rw [hown, expiredValve, hp]
    exact (if_pos hdue).symm
  · have hown := hother st hst
    rw [hown]
    cases hp : a.valves[st].permit with
    | none => rfl
    | some p => exact (if_neg (Nat.not_le.mpr (hend.permit ((permit_of_own hown).trans hp)))).symm

theorem PermitsRun.posted (h : PermitsRun v a u) (hend : Settled v u) :
    PostedSomehow .permitExpired (((List.finRange 16).filter fun st : Fin 16 =>
      a.valves[st].permit.any fun p => p.expiry ≤ v).map fun st : Fin 16 => Subject.station st.val) a u := by
  obtain ⟨l, hnodup, hexpired, hother, hposted⟩ := h
  refine hposted.somehow (List.Perm.map _ ?_)
  refine (List.perm_ext_iff_of_nodup hnodup ((List.nodup_finRange 16).filter _)).mpr fun st => ?_
  rw [List.mem_filter, Option.any_eq_true]
  constructor
  · intro hst
    obtain ⟨⟨p, hp, hdue⟩, -⟩ := hexpired st hst
    exact ⟨List.mem_finRange st, p, hp, decide_eq_true hdue⟩
  · rintro ⟨-, p, hp, hdue⟩
    by_contra hst
    have hlate := hend.permit ((permit_of_own (hother st hst)).trans hp)
    exact absurd (of_decide_eq_true hdue) (Nat.not_le.mpr hlate)

theorem PermitsRun.left (h : PermitsRun v a u) (hend : Settled v u) {st : Fin 16} {p : Permit}
    (hp : u.valves[st].permit = some p) : a.valves[st].permit = some p ∧ v < p.expiry := by
  obtain ⟨l, -, hexpired, hother, -⟩ := h
  refine ⟨?_, hend.permit hp⟩
  by_cases hst : st ∈ l
  · rw [permit_of_own (hexpired st hst).2, expiredValve_permit] at hp
    cases hp
  · rw [← permit_of_own (hother st hst), hp]

/-- At the end each trap has lost the step that was due, and no other. -/
theorem StepsRun.ended (h : StepsRun v a u) (hend : Settled v u) (x : TrapId) :
    u.trap x = match (a.trap x).step with
      | some h => if h.deadline ≤ v then
          { a.trap x with state := .unknown, step := none, lapsed := some ⟨h.step, h.owner⟩ } else a.trap x
      | none => a.trap x := by
  obtain hkept | ⟨⟨h, hstep, hdue⟩, hgone⟩ := h.1 x
  · rw [hkept]
    cases hstep : (a.trap x).step with
    | none => rfl
    | some h => exact (if_neg (Nat.not_le.mpr (hend.step (by rw [hkept, hstep])))).symm
  · rw [hgone, expiredTrap, hstep]
    exact (if_pos hdue).symm

theorem StepsRun.left (h : StepsRun v a u) (hend : Settled v u) {x : TrapId} {y : StepInHand}
    (hy : (u.trap x).step = some y) : (a.trap x).step = some y ∧ v < y.deadline := by
  refine ⟨?_, hend.step hy⟩
  obtain hkept | ⟨-, hgone⟩ := h.1 x
  · rw [← hkept, hy]
  · rw [hgone, expiredTrap_step] at hy
    cases hy

/-- A step that was due has posted TRAP_EVENT, whatever the watches posted after it. -/
theorem StepsRun.posted (h : StepsRun v a u) (hend : Settled v u) (hnow : u.now = some v) {x : TrapId} {y : StepInHand}
    (hy : (a.trap x).step = some y) (hdue : y.deadline ≤ v) :
    (∃ z n, 1 ≤ n ∧ u.port.detail[AttnKind.trapEvent.bit] =
      ⟨some (.trap z), some v, min (a.port.detail[AttnKind.trapEvent.bit].count + n) 65535⟩) ∧
      ∀ k : Master, (u.context k).attention.getLsbD AttnKind.trapEvent.bit.val = true := by
  obtain ⟨htraps, l, hl, hne, hdetail, hattention⟩ := h
  have hgone : u.trap x ≠ a.trap x := fun hkept => by
    have hlate := hend.step (x := x) (y := y) (by rw [hkept, hy])
    omega
  have hlist : l ≠ [] := hne ⟨x, hgone⟩
  rw [List.getLast?_eq_some_getLast hlist, hnow] at hdetail
  obtain ⟨z, hz⟩ := hl _ (List.getLast_mem hlist)
  rw [hz] at hdetail
  refine ⟨⟨z, l.length, List.length_pos_iff.mpr hlist, hdetail⟩, fun k => ?_⟩
  rw [hattention k, List.isEmpty_eq_false_iff.mpr hlist]
  exact Bool.or_true _

/-- At the end an update that was due has been made. -/
theorem TrackerRun.ended (h : TrackerRun v a u) (hend : Settled v u) (hrunning : a.tracker.running = true) {d : Nat}
    (hd : a.tracker.deadline = some d) (hdue : d ≤ v) : u.tracker.running = true ∧ u.tracker.lastUpdate = some v ∧
      u.tracker.deadline = nextDeadline a.profile v := by
  obtain hkept | ⟨hsame, hlast, hnext⟩ := h
  · have hlate := hend .update d (deadlineOf_update.mpr (by rw [hkept]; exact ⟨hrunning, hd⟩))
    omega
  · exact ⟨hsame.trans hrunning, hlast, hnext⟩

theorem LaunchRun.ended (h : LaunchRun v a u) (hend : Settled v u) :
    Posted .launchOverdue (if a.traps.launchOverdue.any (· ≤ v) then [.trap .launch] else []) a u := by
  obtain ⟨-, -, -, ⟨hkept, hquiet⟩ | ⟨⟨d, hd, hdue⟩, -, hposted⟩⟩ := h
  · rw [if_neg]
    · exact hquiet
    · rw [Option.any_eq_true]
      rintro ⟨d, hd, hdue⟩
      have hlate := hend .launch d (hkept.trans hd)
      exact absurd (of_decide_eq_true hdue) (Nat.not_le.mpr hlate)
  · rw [if_pos]
    · exact hposted
    · rw [hd]
      exact decide_eq_true hdue

end Ended

end Sys2Proof.Machine


/-! PROOF. SET LINE TIME and the advance of the count (R190 to R192). -/

namespace Sys2Proof.Machine

/-! ## The first setting (R191) -/

theorem firstSetting_eq (v : Nat) (s : State) : firstSetting v s = judgeAll (firstTime v s) := rfl

theorem firstTime_only (v : Nat) (s : State) : OnlyChanges [.clock, .tracker, .inputUnit, .valves] s (firstTime v s) := by
  unfold firstTime
  refine OnlyChanges.then (k := [.valves]) ?_ (setContacts_only _) (by simp)
  refine OnlyChanges.then (k := [.inputUnit]) ?_ (setInputUnit_only _ _) (by simp)
  refine OnlyChanges.then (k := [.tracker]) ?_ (setTracker_only _ _) (by simp)
  exact (setClock_only s _).mono (by simp)

theorem firstTime_clock (v : Nat) (s : State) :
    (firstTime v s).clock = ⟨some v, { s.clock.record with timeSet := some v }⟩ := rfl

theorem firstTime_tracker (v : Nat) (s : State) : (firstTime v s).tracker = { s.tracker with
    running := true
    lastUpdate := some v
    deadline := some (addTime v (tenths s.profile.tracking.period)) } := rfl

theorem firstTime_channels (v : Nat) (s : State) (c : Fin 8) : (firstTime v s).inputUnit.channels[c] =
    { s.inputUnit.channels[c] with
      flight := none, state := armedState s.profile.channels[c].mode s.inputUnit.inputs[c] } :=
  armAll_channels (startTimer v (s.setClock ⟨some v, { s.clock.record with timeSet := some v }⟩)) c

theorem firstTime_own (v : Nat) (s : State) (st : Fin 16) : (firstTime v s).valves[st].own = s.valves[st].own := by
  rw [firstTime, setContacts_valves]
  rfl

theorem firstTime_contacts (v : Nat) (s : State) : HoldContactLaw (firstTime v s) := holdContactLaw_setContacts _

/-- A judgement of the watches leaves each contact by its hold set. -/
theorem judgeAll_contacts {s : State} (h : HoldContactLaw s) : HoldContactLaw (judgeAll s) :=
  (judgeAll_moves (i := .trackerUpdate) s).keep (P := HoldContactLaw)
    (fun _ _ hmove hs => hmove.keeps_holdContactLaw (by decide) hs) h

/-! ## SET LINE TIME (R190 to R192) -/

section SetLineTime

variable {m : Master} {s : State} {v now : Nat}

theorem mayUse_setLineTime : ∀ c ∈ [MasterClass.dispatch], mayUse c .setLineTime = true := by decide

theorem exec_setLineTime (hserves : s.serves m [.dispatch]) (x : Option Nat) :
    exec (.setLineTime m (some x)) s = .next (respond m Command.setLineTime.code (setLineTime x s)) :=
  serve_open m .setLineTime (withParams (some x) setLineTime) s hserves.1 (mayUse_class hserves mayUse_setLineTime)

theorem setLineTime_read : setLineTime none s = done (clockData false s) s := by
  cases h : s.now <;> rfl

theorem setLineTime_back (hnow : s.now = some now) (h : v ≤ now) : setLineTime (some v) s = refuse .state s := by
  delta setLineTime
  rw [hnow]
  exact if_neg (Nat.not_lt.mpr h)

theorem setLineTime_first (hnow : s.now = none) :
    setLineTime (some v) s = done (clockData true (firstSetting v s)) (firstSetting v s) := by
  delta setLineTime
  rw [hnow]

theorem setLineTime_forward (hnow : s.now = some now) (h : now < v) :
    setLineTime (some v) s = done (clockData false (jumpTo v s)) (jumpTo v s) := by
  delta setLineTime
  rw [hnow]
  exact if_pos h

/-- The first setting: what starts, and the first judgement of the watches. -/
theorem firstSetting_leaves (hpower : s.powered = true) :
    let u := firstSetting v s
    OnlyChanges [.clock, .tracker, .inputUnit, .valves, .watchUnit, .port] s u ∧
      u.clock = ⟨some v, { s.clock.record with timeSet := some v }⟩ ∧
      u.tracker = { s.tracker with
        running := true
        lastUpdate := some v
        deadline := some (addTime v (tenths s.profile.tracking.period)) } ∧
      (∀ c : Fin 8, u.inputUnit.channels[c] = { s.inputUnit.channels[c] with
        flight := none, state := armedState s.profile.channels[c].mode s.inputUnit.inputs[c] }) ∧
      (∀ st : Fin 16, u.valves[st].own = s.valves[st].own ∧
        u.valves[st].contact = (decide (st.val < s.profile.count) && u.valves[st].hold == 0#7)) ∧
      PostsOnly watchKinds s u ∧ WatchesJudged s u ∧ u.watchUnit.firstPending = false := by
  dsimp only
  rw [firstSetting_eq]
  have honly := firstTime_only v s
  have hclock := firstTime_clock v s
  have htracker := firstTime_tracker v s
  have hchannels := firstTime_channels v s
  have hown := firstTime_own v s
  have hhold := firstTime_hold v s
  have hcontacts := judgeAll_contacts (firstTime_contacts v s)
  generalize firstTime v s = t at *
  have hport : t.port = s.port := honly .port (by simp)
  have hnow : t.now = some v := by rw [State.now, hclock]
  obtain ⟨hjudged, -, howned, -⟩ := judgeAll_effects t
  obtain ⟨hkept, hquiet⟩ := judgeAll_postsOnly t
  have hwatches := judgeAll_judged t
  have hfirst := judgeAll_firstPending hnow
  have hprofile : (judgeAll t).profile = s.profile :=
    congrArg ProfileStore.running ((hjudged .store (by simp)).trans (honly .store (by simp)))
  have hunow : (judgeAll t).now = some v := (congrArg LineClock.lineTime (hjudged .clock (by simp))).trans hnow
  have hupower : (judgeAll t).powered = true :=
    (hjudged .powered (by simp)).trans ((honly .powered (by simp)).trans hpower)
  generalize judgeAll t = u at *
  have hattention : ∀ k : Master, (t.context k).attention = (s.context k).attention := fun k => by
    rw [State.context, hport]
    rfl
  refine ⟨(honly.mono (by simp)).trans (hjudged.mono (by simp)), (hjudged .clock (by simp)).trans hclock,
    (hjudged .tracker (by simp)).trans htracker, fun c => ?_, fun st => ⟨(howned st).trans (hown st), ?_⟩,
    ⟨?_, fun k hk => (hquiet k hk).of_eq hattention (by rw [hport])⟩,
    hwatches.of_eq (honly .watchUnit (by simp)) hhold hattention (by rw [hport]), hfirst⟩
  · rw [hjudged .inputUnit (by simp), hchannels c]
  · rw [hcontacts st, hupower, hunow, hprofile]
    rfl
  · exact ((Posts.of_port rfl rfl : Posts _ s s).2.1.of_port hport).trans hkept

end SetLineTime

/-! ## The advance of the count (R190) -/

theorem exec_lineTimeAdvance {s : State} {now : Nat} (hpower : s.powered = true) (hnow : s.now = some now) :
    exec .lineTimeAdvance s = .next ((s.setTime (addTime now 1)).setReply none) :=
  happen_timed (f := fun now s => s.setTime (addTime now 1)) hpower hnow

/-! ## A forward setting (R192) -/

section Forward

variable {s : State} {v now : Nat}

theorem forward_work (v : Nat) (s : State) : workLeft v (s.setTime v) ≤ 18 * s.intake.entries.length + 512 :=
  workLeft_le v (s.setTime v)

theorem jumpTo_settled (hv : v ≤ 4294967295) (hperiod : 1 ≤ s.profile.tracking.period) : Settled v (jumpTo v s) :=
  runDeadlines_ends (s := s.setTime v) rfl hv hperiod (forward_work v s)

theorem jumpTo_kept (v : Nat) (s : State) : RunKept v (s.setTime v) (jumpTo v s) := runDeadlines_kept rfl _

theorem jumpTo_only (v : Nat) (s : State) : OnlyChanges runBlocks (s.setTime v) (jumpTo v s) := runDeadlines_only v _ _

theorem jumpTo_runsOut (hpower : s.powered = true) (hv : v ≤ 4294967295) (hperiod : 1 ≤ s.profile.tracking.period) :
    ∃ timers, RunsOut v timers (s.setTime v) (jumpTo v s) :=
  runDeadlines_runsOut (s := s.setTime v) hpower rfl hv hperiod (forward_work v s)

theorem jumpTo_launch (hentry : ∀ e, s.intake.entries.head? = some e →
      v < min (e.time + s.profile.tracking.holdBack * 10) 4294967295)
    (hlaunch : ∀ h, s.traps.launch.step = some h → v < h.deadline) : LaunchRun v (s.setTime v) (jumpTo v s) := by
  refine runDeadlines_launch (a := s.setTime v) rfl (fun d hd => ?_) (fun d hd => ?_) _
  · obtain ⟨e, he, rfl⟩ := deadlineOf_entry.mp hd
    exact hentry e he
  · obtain ⟨h, hstep, rfl⟩ := deadlineOf_step.mp hd
    exact hlaunch h hstep

end Forward

/-- Settles O49 (R190 to R192). -/
theorem lineTimeIsSet : Obligations.LineTimeIsSet := by
  refine ⟨fun m s hserves => ⟨?_, fun now v hnow hback => ?_, fun v hnow => ?_, fun now v hnow hforward => ?_⟩,
    fun s now hpower hnow hmax => ?_⟩
  · rw [exec_setLineTime hserves, setLineTime_read, done, respond_done]
    rfl
  · refine refuses_of rfl ((exec_setLineTime hserves _).trans ?_)
    rw [setLineTime_back hnow hback]
  · have hexec := exec_setLineTime hserves (some v)
    rw [setLineTime_first hnow, done, respond_done] at hexec
    obtain ⟨honly, hclock, htracker, hchannels, hvalves, hposts, hjudged, hfirst⟩ :=
      firstSetting_leaves (v := v) hserves.1
    have hdata : clockData true (firstSetting v s) = .clock (some v) true { s.clock.record with timeSet := some v } := by
      rw [clockData, State.now, hclock]
    rw [hdata] at hexec
    generalize firstSetting v s = u at *
    refine ⟨u, hexec, honly, hclock, htracker, fun c => ?_, hvalves, hposts, hjudged, hfirst⟩
    rw [hchannels c]
    cases s.profile.channels[c].mode <;> rfl
  · have hexec := exec_setLineTime hserves (some v)
    rw [setLineTime_forward hnow hforward, done, respond_done] at hexec
    have honly := jumpTo_only v s
    have hkept := jumpTo_kept v s
    have hrun : v ≤ 4294967295 → 1 ≤ s.profile.tracking.period → ∃ timers, RunsOut v timers (s.setTime v) (jumpTo v s) :=
      jumpTo_runsOut hserves.1
    have hend : v ≤ 4294967295 → 1 ≤ s.profile.tracking.period → Settled v (jumpTo v s) := jumpTo_settled
    have hlaunch := jumpTo_launch (s := s) (v := v)
    have hclock : (jumpTo v s).clock = { s.clock with lineTime := some v } := honly .clock (by simp [runBlocks])
    have hdata : clockData false (jumpTo v s) = .clock (some v) false s.clock.record := by
      rw [clockData, State.now, hclock]
    rw [hdata] at hexec
    generalize jumpTo v s = u at *
    obtain ⟨hprofile, hunow, hcontexts, hpermits, hsteps, htracker⟩ := hkept
    have hset : OnlyChanges [.clock] s (s.setTime v) := setClock_only s _
    refine ⟨u, hexec, hclock, honly .store (by simp [runBlocks]), honly .inputUnit (by simp [runBlocks]),
      (hset.mono (by simp)).trans (honly.mono (by simp [runBlocks])), hcontexts, fun hv hperiod => ?_⟩
    have hsettled := hend hv hperiod
    refine ⟨hrun hv hperiod, fun st => hpermits.ended hsettled st, hpermits.posted hsettled,
      fun x => hsteps.ended hsettled x, fun x h hstep hdue => hsteps.posted hsettled hunow hstep hdue,
      fun hentry hstep => (hlaunch hentry hstep).ended hsettled,
      fun hrunning d hd hdue => htracker.ended hsettled hrunning hd hdue, fun e he => ?_,
      fun st p hp => hpermits.left hsettled hp, fun x h hstep => hsteps.left hsettled hstep,
      fun hrunning d hd => hsettled .update d (deadlineOf_update.mpr ⟨hrunning, hd⟩), fun st hstate d hd => ?_,
      fun d hd => hsettled .launch d hd⟩
    · have hlate := hsettled .entry (dueTime u.profile e) (deadlineOf_entry.mpr ⟨e, he, rfl⟩)
      rw [hprofile] at hlate
      exact hlate
    · exact hsettled (.delay st) d.deadline (deadlineOf_delay.mpr ⟨by simpa using hstate, d, hd, rfl⟩)
  · refine ⟨_, exec_lineTimeAdvance hpower hnow,
      ((setClock_only s _).mono (by simp)).then (setReply_only _ none) (by simp), rfl, ?_⟩
    have hcount : addTime now 1 = if now = 4294967295 then now else now + 1 := by
      simp only [addTime, maxTime]
      split <;> omega
    rw [← hcount]
    rfl

end Sys2Proof.Machine
